-- ==== Sys2Proof/Word.lean ====
section
/-! DEFINITION. The plainest types of the model: the bytes and 16-bit fields the part carries on its links, the names
of its ports, segments and outputs, and the two fixed-size tables the blocks keep (one value per port, one value per
segment or loop). -/

namespace Sys2Proof

/-- One character of a serial link or one byte of the serial memory (chapter 12). -/
abbrev Byte := BitVec 8

/-- A 16-bit field of a frame, a pass number or a pass stamp (R32, R168). -/
abbrev Word := BitVec 16

/-- The supervisory ports SP0 to SP3; the port's number is also the supervisor's tag (00_scope.md, Conventions). -/
inductive PortId where
  | sp0 | sp1 | sp2 | sp3
  deriving DecidableEq, Repr

/-- The field segments FS0 and FS1. Segment FS0 serves loop A and FS1 loop B (00_scope.md, Conventions). -/
inductive SegId where
  | fs0 | fs1
  deriving DecidableEq, Repr

/-- Loop A is named by its segment FS0, loop B by FS1. -/
abbrev LoopId := SegId

/-- The outputs of the field stations: FAN, VALVE and BYPASS. -/
inductive OutputId where
  | fan | valve | bypass
  deriving DecidableEq, Repr

/-- One value per supervisory port. -/
structure PerPort (α : Type) where
  p0 : α
  p1 : α
  p2 : α
  p3 : α
  deriving DecidableEq, Repr

/-- One value per field segment, or per loop. -/
structure PerSeg (α : Type) where
  s0 : α
  s1 : α
  deriving DecidableEq, Repr

def PerPort.get {α : Type} (t : PerPort α) : PortId → α
  | .sp0 => t.p0
  | .sp1 => t.p1
  | .sp2 => t.p2
  | .sp3 => t.p3

def PerPort.set {α : Type} (t : PerPort α) (v : α) : PortId → PerPort α
  | .sp0 => { t with p0 := v }
  | .sp1 => { t with p1 := v }
  | .sp2 => { t with p2 := v }
  | .sp3 => { t with p3 := v }

def PerPort.modify {α : Type} (t : PerPort α) (p : PortId) (f : α → α) : PerPort α :=
  t.set (f (t.get p)) p

/-- Each port's value, computed from the port's name and its present value. -/
def PerPort.map {α β : Type} (t : PerPort α) (f : PortId → α → β) : PerPort β :=
  { p0 := f .sp0 t.p0, p1 := f .sp1 t.p1, p2 := f .sp2 t.p2, p3 := f .sp3 t.p3 }

def PerPort.const {α : Type} (v : α) : PerPort α := { p0 := v, p1 := v, p2 := v, p3 := v }

def PerSeg.get {α : Type} (t : PerSeg α) : SegId → α
  | .fs0 => t.s0
  | .fs1 => t.s1

def PerSeg.set {α : Type} (t : PerSeg α) (v : α) : SegId → PerSeg α
  | .fs0 => { t with s0 := v }
  | .fs1 => { t with s1 := v }

def PerSeg.modify {α : Type} (t : PerSeg α) (g : SegId) (f : α → α) : PerSeg α :=
  t.set (f (t.get g)) g

def PerSeg.map {α β : Type} (t : PerSeg α) (f : SegId → α → β) : PerSeg β :=
  { s0 := f .fs0 t.s0, s1 := f .fs1 t.s1 }

/-- A set of port tags 0 to 3: the origins and the fence marks of R110 and R117. -/
abbrev PortSet := PerPort Bool

def PortSet.empty : PortSet := PerPort.const false

def PortSet.single (p : PortId) : PortSet := PortSet.empty.set true p

def PortSet.union (x y : PortSet) : PortSet := x.map fun p b => b || y.get p

def PortId.all : List PortId := [.sp0, .sp1, .sp2, .sp3]

def PortId.number : PortId → Nat
  | .sp0 => 0
  | .sp1 => 1
  | .sp2 => 2
  | .sp3 => 3

def PortId.ofNumber : Nat → Option PortId
  | 0 => some .sp0
  | 1 => some .sp1
  | 2 => some .sp2
  | 3 => some .sp3
  | _ => none

def SegId.all : List SegId := [.fs0, .fs1]

def SegId.number : SegId → Nat
  | .fs0 => 0
  | .fs1 => 1

/-- Segment codes 0, 1 and loop codes A 0, B 1 (12.3). -/
def SegId.ofNumber : Nat → Option SegId
  | 0 => some .fs0
  | 1 => some .fs1
  | _ => none

/-- The point number of a direct address that names the output (9.1), and the output code of READ OVERRIDES (12.4). -/
def OutputId.number : OutputId → Nat
  | .fan => 8
  | .valve => 9
  | .bypass => 10

/-- The expiry of a wait that may be restarted (R83, R119, R133): what waited, and the moment of the part's time base at
which the expiry comes about (log entry 2). -/
structure Expiry (α : Type) where
  what : α
  moment : Nat
  deriving DecidableEq, Repr

end Sys2Proof
end

