-- ==== Sys2Proof/Syntax.lean ====
section
/-! DEFINITION. The commands of the block: one constructor per row of spec/opcode_table.json, each an operation or an
event the part takes whole. A telegram's row names the port that executes it: the telegram itself stands at the head of
that port's intake queue, where TAKE_FRAME put it (R152, R153). The expiry of a wait that a telegram or a write can
restart (R83, R119, R133) carries the moment of the part's time base at which it comes about, so that one left behind by a
restarted wait is told from one that is due (log entry 2). -/

namespace Sys2Proof

/-- The operations and events of the part. -/
inductive Instr where
  /-- POWER_ON (R162): power is applied. -/
  | powerOn
  /-- RESET_PIN (R162): the reset pin is asserted. -/
  | resetPin
  /-- SETTINGS_LOAD_END (R161): the bytes read from the serial memory at 0x000 to 0x065, or none when the memory left a
  byte unanswered. -/
  | settingsLoadEnd (image : Option (List Byte))
  /-- TAKE_FRAME (R152): characters heard by a port's receiver. -/
  | takeFrame (port : PortId) (chars : List Byte)
  /-- FRAME_GAP_TIMEOUT (R152): ten character times pass with the frame incomplete. -/
  | frameGapTimeout (port : PortId)
  /-- UNKNOWN_KIND (R153): the port executes a telegram whose kind names none. -/
  | unknownKind (port : PortId)
  /-- READ_POINT (R36, R141). -/
  | readPoint (port : PortId)
  /-- READ_STATION (R17). -/
  | readStation (port : PortId)
  /-- READ_STATUS (R157). -/
  | readStatus (port : PortId)
  /-- READ_FAULTS (R159). -/
  | readFaults (port : PortId)
  /-- READ_OVERRIDES (R135). -/
  | readOverrides (port : PortId)
  /-- READ_SETTING (R163). -/
  | readSetting (port : PortId)
  /-- POST_REQUEST (R78). -/
  | postRequest (port : PortId)
  /-- WITHDRAW_REQUEST (R81). -/
  | withdrawRequest (port : PortId)
  /-- FENCE (R121). -/
  | fence (port : PortId)
  /-- SET_OVERRIDE (R128). -/
  | setOverride (port : PortId)
  /-- RELEASE_OVERRIDE (R132). -/
  | releaseOverride (port : PortId)
  /-- MAP (R144). -/
  | map (port : PortId)
  /-- UNMAP (R146). -/
  | unmap (port : PortId)
  /-- FLUSH (R147). -/
  | flush (port : PortId)
  /-- PROBE_BY_ADDRESS (R148). -/
  | probeByAddress (port : PortId)
  /-- PROBE_BY_INDEX (R149). -/
  | probeByIndex (port : PortId)
  /-- MARK_STALE (R7). -/
  | markStale (port : PortId)
  /-- WRITE_SETTING (R164). -/
  | writeSetting (port : PortId)
  /-- SAVE_SETTINGS (R166). -/
  | saveSettings (port : PortId)
  /-- SAVE_END (R166): whether the memory acknowledged every byte, and the bytes read back. -/
  | saveEnd (acknowledged : Bool) (readBack : List Byte)
  /-- RESTART (R167). -/
  | restart (port : PortId)
  /-- TRANSMITTER_FRAME_DONE (R156): the port's transmitter ends its frame. -/
  | transmitterFrameDone (port : PortId)
  /-- NOTICE_SPACING_EXPIRY (R158). -/
  | noticeSpacingExpiry (port : PortId)
  /-- PASS_TIMER_EXPIRY (R31). -/
  | passTimerExpiry (seg : SegId)
  /-- RESPONSE_TAKEN (R21): the characters heard in the response window. -/
  | responseTaken (seg : SegId) (chars : List Byte)
  /-- RESPONSE_WINDOW_EXPIRY (R20). -/
  | responseWindowExpiry (seg : SegId)
  /-- READY_PAUSE_EXPIRY (R22). -/
  | readyPauseExpiry (seg : SegId)
  /-- ATTENTION_LINE_CHANGE (R39): the level the line now has. -/
  | attentionLineChange (seg : SegId) (asserted : Bool)
  /-- ATTENTION_POLL_END (R26): what was heard in slots 1 to 12, none for a silent slot. -/
  | attentionPollEnd (seg : SegId) (slots : List (Option Byte))
  /-- SETTLE_DEADLINE_EXPIRY (R119): at this moment, the deadline of the item for this output of this station. -/
  | settleDeadlineExpiry (seg : SegId) (station : Nat) (output : Expiry OutputId)
  /-- ICING_CLEAR_EXPIRY (R70). -/
  | icingClearExpiry
  /-- ROTATION_EXPIRY (R107). -/
  | rotationExpiry (loop : LoopId)
  /-- REQUEST_EXPIRY (R82): at this moment, the hold of this port's slot for this loop. -/
  | requestExpiry (port : PortId) (loop : Expiry LoopId)
  /-- OVERRIDE_EXPIRY (R133): at this moment, the hold of the record at this index. -/
  | overrideExpiry (index : Expiry Nat)
  deriving DecidableEq, Repr

end Sys2Proof
end

