-- ==== Sys2Proof/Config.lean ====
section
/-! DEFINITION. What the part fixes for good (its times, its table sizes, the codes that open its frames) and the one
value the manual leaves open. -/

namespace Sys2Proof.Config

/-- The response window of an attempt, 4 ms (R20). -/
def responseWindow : Nat := 4

/-- The twelve 1 ms slots of an attention poll (R26). -/
def pollTime : Nat := 12

/-- The ready pause after a READ response with ready = 0, 10 ms (R22). -/
def readyPause : Nat := 10

/-- The notice spacing, 200 ms (R158). -/
def noticeSpacing : Nat := 200

/-- The room of a port's intake queue (R154). -/
def queueRoom : Nat := 16

/-- The occupancy that pauses a port (R154). -/
def pauseAt : Nat := 12

/-- The occupancy that resumes a port (R154). -/
def resumeAt : Nat := 4

/-- The room of a segment's settle list (R117). -/
def settleRoom : Nat := 15

/-- The records of the override table (R127). -/
def overrideRoom : Nat := 16

/-- The indices of one bank of the access map (9.2). -/
def bankRoom : Nat := 32

/-- The starvation count at which the scan call goes first (R42). -/
def starvationLimit : Nat := 8

/-- A pass whose number this divides probes the LOST stations (R11). -/
def probeEvery : Nat := 10

/-- The reserved value a station sends for a point of which it has no valid reading (R4). -/
def noReading : Int := -32768

/-- The start byte of a telegram frame (12.2). -/
def startByte : Byte := 0xA5#8

/-- The attention byte of a poll slot (12.5). -/
def attentionByte : Byte := 0xA1#8

/-- The format word of the settings image (12.7). -/
def imageFormat : Word := 0x5C21#16

/-- The length of the item list of the settings image (12.7). -/
def imageLength : Word := 96#16

/-- FREE VALUE. READ POINT of an output reports the whole seconds since a settle item's time sent (R126), and the
manual does not say whether a part of a second is dropped or counted as one. For an elapsed time in milliseconds this
constant says which (log entry 5). It has no body, so no claim can rest on either answer. -/
opaque roundsUp : Nat → Bool

end Sys2Proof.Config
end

