-- ==== Sys2Proof/Machine/Formats.lean ====
section
/-! DEFINITION. The byte layouts seen outside the part (chapter 12): the check, 16-bit fields, the telegram frame and the
field frames. -/

namespace Sys2Proof.Machine

/-- One bit of the check of R169: a shift, and the polynomial 0x1021 when the bit shifted out is 1. The register of the
check is kept as a number below 65536, which the kernel evaluates step by step. -/
def crcBit (c : Nat) : Nat := if 32768 ≤ c then Nat.xor (2 * c - 65536) 0x1021 else 2 * c

def crcByte (c : Nat) (b : Byte) : Nat :=
  crcBit (crcBit (crcBit (crcBit (crcBit (crcBit (crcBit (crcBit (Nat.xor c (256 * b.toNat)))))))))

/-- The check of R169 over the bytes, from the initial value 0xFFFF. -/
def crc (bytes : List Byte) : Word := BitVec.ofNat 16 (bytes.foldl crcByte 0xFFFF)

/-- A 16-bit field, most significant byte first (chapter 12). -/
def be16 (w : Word) : List Byte := [(w >>> 8).setWidth 8, w.setWidth 8]

/-- The 16-bit field carried by two bytes, the first the most significant. -/
def word16 (hi lo : Byte) : Word := (hi.setWidth 16 <<< 8) ||| lo.setWidth 16

/-- A count in a one-byte field. -/
def byteOf (n : Nat) : Byte := BitVec.ofNat 8 n

/-- An unsigned value in a two-byte field. -/
def wordOf (n : Nat) : Word := BitVec.ofNat 16 n

/-- A temperature, margin, error or override value: signed 16-bit two's complement (chapter 12). -/
def signedWord (i : Int) : Word := BitVec.ofInt 16 i

/-- A yes/no field of one byte: 1 for yes or SET, 0 for no or CLEAR. For five fields of READ STATUS the spec gives the size
and no codes (DESIGN CHOICE: log entry 31). -/
def flagByte (b : Bool) : Byte := if b then 1#8 else 0#8

/-- Absent, unknown or none in a two-byte field is 0xFFFF (R170). -/
def optWord (f : Nat → Word) : Option Nat → Word
  | some n => f n
  | none => 0xFFFF#16

/-- Bytes followed by their check, high byte first (R169). -/
def withCheck (bytes : List Byte) : List Byte := bytes ++ be16 (crc bytes)

/-- The bytes before the two check bytes, when the check agrees with them (R169). -/
def checked (bytes : List Byte) : Option (List Byte) :=
  let body := bytes.take (bytes.length - 2)
  if 2 ≤ bytes.length ∧ bytes.drop (bytes.length - 2) = be16 (crc body) then some body else none

/-- The telegram frame of 12.2. -/
def frameBytes (sequence kind : Byte) (body : List Byte) : List Byte :=
  Config.startByte :: withCheck (byteOf (body.length + 2) :: sequence :: kind :: body)

/-- The two-byte values a READ response carries after its count (12.5). -/
def pointValues : List Byte → Option (List Int)
  | [] => some []
  | [_] => none
  | hi :: lo :: rest =>
    match pointValues rest with
    | some vs => some ((word16 hi lo).toInt :: vs)
    | none => none

end Sys2Proof.Machine
end

