-- ==== Sys2Proof/Machine/Settings.lean ====
section
/-! DEFINITION. The settings of chapter 11: what they are, their defaults, their item codes, which values WRITE SETTING
accepts, and the settings image of 12.7. -/

namespace Sys2Proof.Machine

/-- The class of a port (R151). -/
inductive PortClass where
  | supervisor | plant | observer
  deriving DecidableEq, Repr

/-- The line rate of a port in bit/s (R151). -/
inductive LineRate where
  | r9600 | r19200 | r38400 | r57600 | r115200
  deriving DecidableEq, Repr

/-- The two banks of the access map (9.2). -/
inductive Bank where
  | low | high
  deriving DecidableEq, Repr

structure PortSettings where
  cls : PortClass
  rate : LineRate
  notices : Bool
  deriving DecidableEq, Repr

/-- A set of station addresses, carried as bit n for address n (12.7): a population (R2) or an attention mask (R39). -/
structure SegSettings where
  population : Word
  mask : Word
  deriving DecidableEq, Repr

structure LoopSettings where
  nominal : Nat
  minFlow : Nat
  fbTarget : Int
  fbFloor : Int
  fbCeiling : Int
  kp : Nat
  ki : Nat
  smin : Nat
  guardCap : Nat
  minService : Nat
  rotation : Nat
  deriving DecidableEq, Repr

/-- The settings in force (11.1). -/
structure Settings where
  port : PerPort PortSettings
  seg : PerSeg SegSettings
  passInterval : Nat
  holdLimit : Nat
  loop : PerSeg LoopSettings
  freezeTable : List Int
  guardBand : Int
  designMin : Int
  settleTimeout : Nat
  icingInterval : Nat
  blockLow : Nat
  blockHigh : Nat
  deriving DecidableEq, Repr

/-- The default settings of one loop (11.1). -/
def LoopSettings.default : LoopSettings :=
  { nominal := 400, minFlow := 20, fbTarget := 200, fbFloor := 120, fbCeiling := 300, kp := 48, ki := 6,
    smin := 150, guardCap := 300, minService := 2, rotation := 168 }

/-- The default freeze table (3.3). -/
def defaultFreezeTable : List Int :=
  [0, -16, -33, -51, -71, -96, -128, -163, -211, -268, -334, -415, -510]

/-- The built-in defaults (11.1). The default population is addresses 1 to 8, 11 and 12 (R2); the default mask is all
twelve (R39). -/
def Settings.default : Settings :=
  let plant : PortSettings := { cls := .plant, rate := .r38400, notices := true }
  let seg : SegSettings := { population := 0x19FE#16, mask := 0x1FFE#16 }
  { port := { p0 := plant, p1 := plant, p2 := plant, p3 := { plant with cls := .supervisor } }
    seg := { s0 := seg, s1 := seg }
    passInterval := 1000
    holdLimit := 5
    loop := { s0 := LoopSettings.default, s1 := LoopSettings.default }
    freezeTable := defaultFreezeTable
    guardBand := 60
    designMin := -400
    settleTimeout := 120
    icingInterval := 30
    blockLow := 4
    blockHigh := 16 }

/-- The addresses of a set, ascending (R1, 12.7). -/
def addresses (set : Word) : List Nat :=
  [1, 2, 3, 4, 5, 6, 7, 8, 9, 10, 11, 12].filter fun a => set.getLsbD a

/-- The configured addresses of a segment (R2). -/
def Settings.population (st : Settings) (g : SegId) : List Nat := addresses (st.seg.get g).population

/-- The attention mask of the segment selects the station (R39). -/
def Settings.selects (st : Settings) (g : SegId) (a : Nat) : Bool := (st.seg.get g).mask.getLsbD a

def Settings.blockSize (st : Settings) : Bank → Nat
  | .low => st.blockLow
  | .high => st.blockHigh

/-- The settings one by one, as 12.7 names them. -/
inductive Item where
  | cls (p : PortId)
  | rate (p : PortId)
  | notices (p : PortId)
  | population (g : SegId)
  | mask (g : SegId)
  | passInterval
  | holdLimit
  | nominal (l : LoopId)
  | minFlow (l : LoopId)
  | fbTarget (l : LoopId)
  | fbFloor (l : LoopId)
  | fbCeiling (l : LoopId)
  | kp (l : LoopId)
  | ki (l : LoopId)
  | smin (l : LoopId)
  | guardCap (l : LoopId)
  | minService (l : LoopId)
  | rotation (l : LoopId)
  | freeze (index : Nat)
  | guardBand
  | designMin
  | settleTimeout
  | icingInterval
  | block (b : Bank)
  deriving DecidableEq, Repr

def forPort (f : PortId → Item) (q : Nat) : Option Item := (PortId.ofNumber q).map f

def forSeg (f : SegId → Item) (q : Nat) : Option Item := (SegId.ofNumber q).map f

/-- An item without scope has qualifier 0 (12.7). -/
def forAll (i : Item) (q : Nat) : Option Item := if q = 0 then some i else none

/-- The setting named by an item code and a qualifier, none when they name no setting (R163, 12.7). -/
def Item.ofCode (code q : Nat) : Option Item :=
  match code with
  | 0x01 => forPort .cls q
  | 0x02 => forPort .rate q
  | 0x03 => forPort .notices q
  | 0x08 => forSeg .population q
  | 0x09 => forSeg .mask q
  | 0x0C => forAll .passInterval q
  | 0x0D => forAll .holdLimit q
  | 0x10 => forSeg .nominal q
  | 0x11 => forSeg .minFlow q
  | 0x12 => forSeg .fbTarget q
  | 0x13 => forSeg .fbFloor q
  | 0x14 => forSeg .fbCeiling q
  | 0x15 => forSeg .kp q
  | 0x16 => forSeg .ki q
  | 0x17 => forSeg .smin q
  | 0x18 => forSeg .guardCap q
  | 0x19 => forSeg .minService q
  | 0x1A => forSeg .rotation q
  | 0x20 => if q ≤ 12 then some (.freeze q) else none
  | 0x21 => forAll .guardBand q
  | 0x22 => forAll .designMin q
  | 0x24 => forAll .settleTimeout q
  | 0x25 => forAll .icingInterval q
  | 0x28 => match q with
    | 0 => some (.block .low)
    | 1 => some (.block .high)
    | _ => none
  | _ => none

def PortClass.code : PortClass → Nat
  | .supervisor => 0
  | .plant => 1
  | .observer => 2

def PortClass.ofCode : Nat → Option PortClass
  | 0 => some .supervisor
  | 1 => some .plant
  | 2 => some .observer
  | _ => none

def LineRate.code : LineRate → Nat
  | .r9600 => 0
  | .r19200 => 1
  | .r38400 => 2
  | .r57600 => 3
  | .r115200 => 4

def LineRate.ofCode : Nat → Option LineRate
  | 0 => some .r9600
  | 1 => some .r19200
  | 2 => some .r38400
  | 3 => some .r57600
  | 4 => some .r115200
  | _ => none

/-- The value of a setting as a telegram's value field carries it (12.7). -/
def Settings.read (st : Settings) : Item → Word
  | .cls p => wordOf (st.port.get p).cls.code
  | .rate p => wordOf (st.port.get p).rate.code
  | .notices p => wordOf (st.port.get p).notices.toNat
  | .population g => (st.seg.get g).population
  | .mask g => (st.seg.get g).mask
  | .passInterval => wordOf st.passInterval
  | .holdLimit => wordOf st.holdLimit
  | .nominal l => wordOf (st.loop.get l).nominal
  | .minFlow l => wordOf (st.loop.get l).minFlow
  | .fbTarget l => signedWord (st.loop.get l).fbTarget
  | .fbFloor l => signedWord (st.loop.get l).fbFloor
  | .fbCeiling l => signedWord (st.loop.get l).fbCeiling
  | .kp l => wordOf (st.loop.get l).kp
  | .ki l => wordOf (st.loop.get l).ki
  | .smin l => wordOf (st.loop.get l).smin
  | .guardCap l => wordOf (st.loop.get l).guardCap
  | .minService l => wordOf (st.loop.get l).minService
  | .rotation l => wordOf (st.loop.get l).rotation
  | .freeze i => signedWord (st.freezeTable.getD i 0)
  | .guardBand => signedWord st.guardBand
  | .designMin => signedWord st.designMin
  | .settleTimeout => wordOf st.settleTimeout
  | .icingInterval => wordOf st.icingInterval
  | .block b => wordOf (st.blockSize b)

def Settings.setPort (st : Settings) (p : PortId) (f : PortSettings → PortSettings) : Settings :=
  { st with port := st.port.modify p f }

def Settings.setSeg (st : Settings) (g : SegId) (f : SegSettings → SegSettings) : Settings :=
  { st with seg := st.seg.modify g f }

def Settings.setLoop (st : Settings) (l : LoopId) (f : LoopSettings → LoopSettings) : Settings :=
  { st with loop := st.loop.modify l f }

/-- An unsigned value inside its range. -/
def inRange (v : Word) (lo hi : Nat) : Option Nat := if lo ≤ v.toNat ∧ v.toNat ≤ hi then some v.toNat else none

/-- A signed value inside its range. -/
def inSignedRange (v : Word) (lo hi : Int) : Option Int := if lo ≤ v.toInt ∧ v.toInt ≤ hi then some v.toInt else none

/-- A set of addresses 1 to 12: bit 0 and bits 13 to 15 clear (12.7). -/
def addressSet (v : Word) : Option Word := if v &&& 0xE001#16 = 0#16 then some v else none

/-- The settings with one item at a value, none when the value is outside the item's own range (11.1, 12.7). The
conditions between items are `Settings.agrees`. -/
def Settings.write (st : Settings) (i : Item) (v : Word) : Option Settings :=
  match i with
  | .cls p => (PortClass.ofCode v.toNat).map fun x => st.setPort p fun s => { s with cls := x }
  | .rate p => (LineRate.ofCode v.toNat).map fun x => st.setPort p fun s => { s with rate := x }
  | .notices p => (inRange v 0 1).map fun x => st.setPort p fun s => { s with notices := x == 1 }
  | .population g => (addressSet v).map fun x => st.setSeg g fun s => { s with population := x }
  | .mask g => (addressSet v).map fun x => st.setSeg g fun s => { s with mask := x }
  | .passInterval =>
    if v.toNat % 100 = 0 then (inRange v 500 5000).map fun x => { st with passInterval := x } else none
  | .holdLimit => (inRange v 1 20).map fun x => { st with holdLimit := x }
  | .nominal l => (inRange v 0 600).map fun x => st.setLoop l fun s => { s with nominal := x }
  | .minFlow l => (inRange v 0 500).map fun x => st.setLoop l fun s => { s with minFlow := x }
  | .fbTarget l => (inSignedRange v (-100) 450).map fun x => st.setLoop l fun s => { s with fbTarget := x }
  | .fbFloor l => (inSignedRange v (-100) 450).map fun x => st.setLoop l fun s => { s with fbFloor := x }
  | .fbCeiling l => (inSignedRange v (-100) 450).map fun x => st.setLoop l fun s => { s with fbCeiling := x }
  | .kp l => (inRange v 0 255).map fun x => st.setLoop l fun s => { s with kp := x }
  | .ki l => (inRange v 0 255).map fun x => st.setLoop l fun s => { s with ki := x }
  | .smin l => (inRange v 50 500).map fun x => st.setLoop l fun s => { s with smin := x }
  | .guardCap l => (inRange v 100 1000).map fun x => st.setLoop l fun s => { s with guardCap := x }
  | .minService l => (inRange v 1 10).map fun x => st.setLoop l fun s => { s with minService := x }
  | .rotation l => (inRange v 0 1000).map fun x => st.setLoop l fun s => { s with rotation := x }
  | .freeze n => (inSignedRange v (-600) 0).map fun x => { st with freezeTable := st.freezeTable.set n x }
  | .guardBand => (inSignedRange v 20 150).map fun x => { st with guardBand := x }
  | .designMin => (inSignedRange v (-600) 0).map fun x => { st with designMin := x }
  | .settleTimeout => (inRange v 30 600).map fun x => { st with settleTimeout := x }
  | .icingInterval => (inRange v 5 240).map fun x => { st with icingInterval := x }
  | .block .low => if v.toNat ∈ [1, 4, 16, 64] then some { st with blockLow := v.toNat } else none
  | .block .high => if v.toNat ∈ [1, 4, 16, 64] then some { st with blockHigh := v.toNat } else none

/-- Entry i of the freeze table is no warmer than the entry before it and no colder than the one after it (R46). -/
def tableOrderAt (table : List Int) (i : Nat) : Bool :=
  (decide (i = 0) || decide (table.getD i 0 ≤ table.getD (i - 1) 0)) &&
    (decide (12 ≤ i) || decide (table.getD (i + 1) 0 ≤ table.getD i 0))

/-- The loop's fallback floor, target and ceiling are in order (R87). -/
def LoopSettings.fallbackOrder (s : LoopSettings) : Bool :=
  decide (s.fbFloor ≤ s.fbTarget) && decide (s.fbTarget ≤ s.fbCeiling)

/-- At least one port is of class SUPERVISOR (R164). -/
def Settings.hasSupervisor (st : Settings) : Bool := PortId.all.any fun p => (st.port.get p).cls == .supervisor

/-- What a written item must agree with: its neighbours in the freeze table (R46), the other fallback values of the loop
(R87), and a SUPERVISOR left among the ports (R164). -/
def Settings.agrees (st : Settings) : Item → Bool
  | .cls _ => st.hasSupervisor
  | .fbTarget l => (st.loop.get l).fallbackOrder
  | .fbFloor l => (st.loop.get l).fallbackOrder
  | .fbCeiling l => (st.loop.get l).fallbackOrder
  | .freeze i => tableOrderAt st.freezeTable i
  | _ => true

/-- The settings after an accepted WRITE SETTING, none when the value is refused RANGE (R164, step 4). -/
def Settings.accept (st : Settings) (i : Item) (v : Word) : Option Settings :=
  match st.write i v with
  | some new => if new.agrees i then some new else none
  | none => none

def perPortItem (f : PortId → Item) : List Item := [f .sp0, f .sp1, f .sp2, f .sp3]

def perLoopItem (f : LoopId → Item) : List Item := [f .fs0, f .fs1]

/-- The items in the order of the settings image (12.7): within each row in code order, each item's values in ascending
qualifier order. -/
def imageItems : List Item :=
  List.flatten
    [perPortItem Item.cls, perPortItem Item.rate, perPortItem Item.notices,
     perLoopItem Item.population, perLoopItem Item.mask,
     [Item.passInterval, Item.holdLimit],
     perLoopItem Item.nominal, perLoopItem Item.minFlow, perLoopItem Item.fbTarget, perLoopItem Item.fbFloor,
     perLoopItem Item.fbCeiling, perLoopItem Item.kp, perLoopItem Item.ki, perLoopItem Item.smin,
     perLoopItem Item.guardCap, perLoopItem Item.minService, perLoopItem Item.rotation,
     (List.range 13).map Item.freeze,
     [Item.guardBand, Item.designMin, Item.settleTimeout, Item.icingInterval],
     [Item.block Bank.low, Item.block Bank.high]]

/-- The items that take one byte in the image; every other item takes two (12.7). -/
def Item.oneByte : Item → Bool
  | .cls _ => true
  | .rate _ => true
  | .notices _ => true
  | .holdLimit => true
  | .kp _ => true
  | .ki _ => true
  | .minService _ => true
  | .icingInterval => true
  | .block _ => true
  | _ => false

def Settings.itemBytes (st : Settings) (i : Item) : List Byte :=
  if i.oneByte then [(st.read i).setWidth 8] else be16 (st.read i)

/-- The settings image of 12.7: format word, length, items and check. -/
def Settings.image (st : Settings) : List Byte :=
  withCheck (be16 Config.imageFormat ++ be16 Config.imageLength ++ imageItems.flatMap st.itemBytes)

/-- The items of an image read one after another, none when one of them is outside its range or the bytes do not end
with the last item (R161). -/
def readItems : List Item → List Byte → Settings → Option Settings
  | [], bytes, st => if bytes.isEmpty then some st else none
  | i :: rest, bytes, st =>
    if i.oneByte then
      match bytes with
      | b :: more =>
        match st.write i (b.setWidth 16) with
        | some new => readItems rest more new
        | none => none
      | [] => none
    else
      match bytes with
      | hi :: lo :: more =>
        match st.write i (word16 hi lo) with
        | some new => readItems rest more new
        | none => none
      | _ => none

/-- Every item, taken with the others, is a value that WRITE SETTING would accept (R161). -/
def Settings.allAgree (st : Settings) : Bool := imageItems.all st.agrees

/-- The settings of a right image, none for a wrong one (R161). -/
def loadImage (bytes : List Byte) : Option Settings :=
  match checked bytes with
  | some body =>
    if body.take 4 = be16 Config.imageFormat ++ be16 Config.imageLength then
      match readItems imageItems (body.drop 4) Settings.default with
      | some st => if st.allAgree then some st else none
      | none => none
    else none
  | none => none

/-- The settings in force after the load, and whether they are the built-in defaults for a wrong image (R161). -/
def loadSettings (image : Option (List Byte)) : Settings × Bool :=
  match image.bind loadImage with
  | some st => (st, false)
  | none => (Settings.default, true)

end Sys2Proof.Machine
end

