-- ==== Sys2Proof/Machine/Types.lean ====
section
/-! DEFINITION. The state each block of the part owns (00_scope.md, Blocks), as plain data. -/

namespace Sys2Proof.Machine

/-! ### Yard Image (chapter 1) -/

/-- What stands at a station address (R1). -/
inductive StationKind where
  | unit | ambient | loop
  deriving DecidableEq, Repr

/-- How current a point is (1.4). -/
inductive Quality where
  | good | held | stale | none
  deriving DecidableEq, Repr

/-- The value of a point and the pass number it was stored with; the two are present or absent together (1.3). -/
structure Stored where
  value : Int
  stamp : Word
  deriving DecidableEq, Repr

/-- A point record (1.3). -/
structure Point where
  stored : Option Stored
  quality : Quality
  deriving DecidableEq, Repr

/-- The link state, read from the quality counter (R9). -/
inductive LinkState where
  | active | weak | lost
  deriving DecidableEq, Repr

/-- The mode of a station, AUTO or LOCAL (1.6). -/
inductive Mode where
  | auto | inLocal
  deriving DecidableEq, Repr

/-- A station record (1.3). Its link state is derived from the counter and is no field. -/
structure Station where
  addr : Nat
  kind : StationKind
  counter : Nat
  mode : Mode
  attention : Bool
  mismatch : Bool
  points : List Point
  deriving DecidableEq, Repr

/-! ### Field Segment Controller (chapter 2) -/

/-- Why a READ is made (R33, R38, R40): as a scan call, as an event READ, or for a port's read-through. -/
inductive ReadPurpose where
  | scan
  | event
  | readThrough (port : PortId)
  deriving DecidableEq, Repr

/-- A READ with the continuation that may complete it. `first` is the point the READ started at, `next` the point the
present call asks from: everything from `first` up to `next` has been delivered. `valued` are the points delivered with
a value (R118), and `serves` the ports whose read-through entries stood when the READ began and which it may serve
(R37). -/
structure ReadJob where
  purpose : ReadPurpose
  station : Nat
  first : Nat
  next : Nat
  continues : Bool
  serves : PortSet
  valued : List Nat
  deriving DecidableEq, Repr

/-- What a transaction is for (R22, R35, R41). -/
inductive Job where
  | discovery (station : Nat)
  | probe (station : Nat)
  | read (job : ReadJob)
  | write (station : Nat)
  | poll
  deriving DecidableEq, Repr

/-- A transaction in flight, the retries left to it, and the moment its response window (or poll) ends. -/
structure Transaction where
  job : Job
  retries : Nat
  ends : Nat
  deriving DecidableEq, Repr

/-- What the segment is doing: free, in a transaction, in the ready pause of R22, or waiting out the response window of
an attempt that a restart abandoned (R43). -/
inductive Activity where
  | free
  | busy (t : Transaction)
  | pause (ends : Nat)
  | quiet (ends : Nat)
  deriving DecidableEq, Repr

/-- What a point address names (R137). -/
inductive Target where
  | point (number : Nat)
  | output (o : OutputId)
  deriving DecidableEq, Repr

/-- An entry of a segment's read-through queue (R36): the port, the station, what is read, the direct address it
resolved to (R141), and the moment of arrival. -/
structure ReadThrough where
  port : PortId
  station : Nat
  target : Target
  address : Nat
  arrived : Nat
  deriving DecidableEq, Repr

/-- The state of a Field Segment Controller (chapter 2). -/
structure Fsc where
  activity : Activity
  passRunning : Bool
  startDue : Bool
  passNumber : Word
  /-- The moment the running pass timer expires, none when it is stopped. -/
  passTimer : Option Nat
  /-- The lowest configured address not yet dealt with (R29); it has a meaning while a pass runs. -/
  scanPosition : Nat
  /-- The stations that probes of the running pass have brought back from LOST (R11); it has a meaning while a pass runs. -/
  revived : List Nat
  readThroughs : List ReadThrough
  owed : Option ReadJob
  lineAsserted : Bool
  pollArmed : Bool
  starvation : Nat
  deriving DecidableEq, Repr

/-! ### Freeze Protection Block (chapters 3 and 4) -/

inductive FrostState where
  | normal | guard | protect
  deriving DecidableEq, Repr

/-- The per-unit values of the Freeze Protection Block. -/
structure UnitFrost where
  addr : Nat
  margin : Int
  frost : FrostState
  shortfall : Nat
  iced : Bool
  deriving DecidableEq, Repr

/-- The per-loop values of the Freeze Protection Block (3.1, R65). -/
structure Fpb where
  cu : Nat
  fp : Int
  flowAdequate : Bool
  ma : Int
  /-- The isolation permission is PERMITTED (R51). -/
  permitted : Bool
  bmax : Nat
  units : List UnitFrost
  deriving DecidableEq, Repr

/-! ### Duty Request Table (chapter 5) -/

/-- A HELD request slot; an EMPTY slot is none (R77). `deadline` is the moment the hold runs out. -/
structure Request where
  target : Int
  floor : Int
  ceiling : Int
  hold : Nat
  deadline : Nat
  deriving DecidableEq, Repr

/-- The merge of a loop (R84): T*, Tf, Tc and whether the conflict state is SET. -/
structure Merge where
  target : Int
  floor : Int
  ceiling : Int
  conflict : Bool
  deriving DecidableEq, Repr

/-! ### Outputs: command records, write buffer, settle list, fences (chapters 6 and 7) -/

inductive ValveCmd where
  | toOpen | toClose
  deriving DecidableEq, Repr

/-- The fields of a WRITE call or of a post, each present or absent (R25). -/
structure Fields where
  fan : Option Nat
  valve : Option ValveCmd
  bypass : Option Nat
  deriving DecidableEq, Repr

/-- One output with a value for it. -/
inductive OutputValue where
  | fan (speed : Nat)
  | valve (position : ValveCmd)
  | bypass (position : Nat)
  deriving DecidableEq, Repr

/-- The command record of one output (R102); none is unknown. -/
structure CommandRecord (α : Type) where
  allocator : Option α
  posted : Option α
  written : Option α
  deriving DecidableEq, Repr

/-- The command records of one station: FAN and VALVE are in use for a unit, BYPASS for a loop station. -/
structure StationCommands where
  addr : Nat
  fan : CommandRecord Nat
  valve : CommandRecord ValveCmd
  bypass : CommandRecord Nat
  deriving DecidableEq, Repr

/-- The results of the last full run of an allocator (R109). -/
structure LastRun where
  n : Nat
  kMin : Nat
  k : Nat
  speed : Nat
  bypass : Nat
  deriving DecidableEq, Repr

/-- The state of a loop allocator (R92). -/
structure Allocator where
  demand : Nat
  ePrev : Int
  /-- The ends of pass counted, up to 2 (R91). -/
  passes : Nat
  order : List Nat
  /-- The moment the rotation timer expires, none when it is stopped (R107). -/
  rotation : Option Nat
  commands : List StationCommands
  lastRun : Option LastRun
  lastSupply : Option Int
  supplyValid : Bool
  deriving DecidableEq, Repr

/-- The state of a write buffer entry (R110): OPEN, or IN FLIGHT with the values the send filter gave it. -/
inductive EntryState where
  | waiting
  | inFlight (sent : Fields)
  deriving DecidableEq, Repr

/-- A write buffer entry (R110). -/
structure Entry where
  station : Nat
  posted : Fields
  origins : PortSet
  marks : PortSet
  state : EntryState
  deriving DecidableEq, Repr

/-- A settle item (R117); the output and the value sent are one field. -/
structure SettleItem where
  station : Nat
  value : OutputValue
  sentAt : Nat
  deadline : Nat
  marks : PortSet
  deriving DecidableEq, Repr

/-- A fence record (R124); the failure mark is held while it is PENDING. -/
inductive FenceRecord where
  | none
  | pending (failed : Bool)
  | settled
  | incomplete
  deriving DecidableEq, Repr

/-! ### Override Table (chapter 8) and Access Map (chapter 9) -/

inductive Delivery where
  | posted | waiting
  deriving DecidableEq, Repr

/-- An override record (R127). -/
structure OverrideRecord where
  index : Nat
  seg : SegId
  station : Nat
  value : OutputValue
  owner : PortId
  hold : Nat
  deadline : Nat
  delivery : Delivery
  deriving DecidableEq, Repr

/-- A valid access map entry (9.2); an index without an entry is invalid. `owner` none is GLOBAL. -/
structure MapEntry where
  index : Nat
  owner : Option PortId
  logical : Nat
  physical : Nat
  readRight : Bool
  overrideRight : Bool
  deriving DecidableEq, Repr

/-! ### Supervisory Ports (chapter 10) -/

/-- A telegram taken from a supervisor (R152). -/
structure Telegram where
  sequence : Byte
  kind : Byte
  body : List Byte
  deriving DecidableEq, Repr

/-- What follows when a frame has left the port: nothing, the start-up of a RESTART (R167), or the change of a port's
line rate (R151). -/
inductive FrameEffect where
  | none
  | restart
  | lineRate (target : PortId) (rate : LineRate)
  deriving DecidableEq, Repr

/-- A frame the part sends. -/
structure Frame where
  sequence : Byte
  kind : Byte
  body : List Byte
  effect : FrameEffect
  deriving DecidableEq, Repr

inductive FlowTelegram where
  | pause | resume
  deriving DecidableEq, Repr

/-- The state of a supervisory port. -/
structure Port where
  /-- The characters of the frame being received, after its start byte; none while the receiver hunts (R152). -/
  receiving : Option (List Byte)
  queue : List Telegram
  paused : Bool
  /-- PAUSE and RESUME made ready and not yet begun, oldest first (R154). -/
  flow : List FlowTelegram
  /-- Replies formed and not yet begun, oldest first (R156). -/
  replies : List Frame
  /-- The frame the transmitter is sending. -/
  sending : Option Frame
  /-- The notice bits, laid out as in a NOTICE (12.3). -/
  notices : Byte
  /-- The moment the notice spacing runs out, none when it has run out (R158). -/
  spacing : Option Nat
  /-- The rate the receiver and the transmitter run at (R151). -/
  rate : LineRate
  /-- A written rate that takes effect when the transmitter is next between frames (R151). -/
  newRate : Option LineRate
  deriving DecidableEq, Repr

end Sys2Proof.Machine
end

