-- ==== Sys2Proof/Machine/Freeze.lean ====
section
/-! DEFINITION. The arithmetic of freeze protection on plain values (chapters 3 and 4): concentration, freeze point,
margins, frost states, the bypass cap and the send filter. -/

namespace Sys2Proof.Machine

/-- The value brought between the two ends of a range. -/
def clamp (lo hi x : Int) : Int := if x < lo then lo else if hi < x then hi else x

/-- The concentration in use from a valid measured value, if there is one, and the nominal concentration (R45). -/
def concentrationInUse (measured : Option Int) (nominal : Nat) : Nat :=
  match measured with
  | some v => (clamp 0 600 (min v nominal)).toNat
  | none => (clamp 0 600 ((nominal : Int) - 50)).toNat

/-- The quotient rounded toward positive infinity (R47). -/
def ceilDiv (x d : Int) : Int := -((-x) / d)

/-- The freeze point by interpolation in the freeze table (R47). -/
def freezePoint (table : List Int) (cu : Nat) : Int :=
  let i := cu / 50
  let f := cu % 50
  if 12 ≤ i then table.getD 12 0
  else table.getD i 0 + ceilDiv ((table.getD (i + 1) 0 - table.getD i 0) * f) 50

/-- The ambient margin, and the margin of a coil before its clamp: a temperature over Fp + G (R50, R54). -/
def marginOver (temperature fp guard : Int) : Int := temperature - (fp + guard)

/-- The coil margin M (R54). -/
def coilMargin (outlet fp guard : Int) : Int := clamp (-999) 999 (marginOver outlet fp guard)

/-- The isolation permission after an evaluation on Ma (R51). -/
def isolationNext (permitted : Bool) (ma : Int) : Bool :=
  if permitted then decide (30 ≤ ma) else decide (50 ≤ ma)

/-- The frost state after an evaluation on M (R59): at most one row of the table. -/
def frostNext (held : FrostState) (m : Int) : FrostState :=
  match held with
  | .normal => if 30 ≤ m then .normal else if 0 ≤ m then .guard else .protect
  | .guard => if 50 ≤ m then .normal else if 0 ≤ m then .guard else .protect
  | .protect => if 20 ≤ m then .guard else .protect

/-- The bypass cap of a loop from its units' frost states (R65). -/
def bypassCap (units : List UnitFrost) : Nat :=
  if units.any fun u => u.frost == .protect then 0
  else if units.any fun u => u.frost == .guard then 500
  else 1000

/-- The FAN value sent to a unit (R72). -/
def filterFan (frost : FrostState) (iced : Bool) (cap posted : Nat) : Nat :=
  if frost = .protect ∨ iced = true then 0
  else if frost = .guard then min posted cap
  else posted

/-- The VALVE value sent to a unit, by the table of R72 (DESIGN CHOICE where its closing sentences differ: log entry 21). -/
def filterValve (frost : FrostState) (permitted : Bool) (posted : ValveCmd) : ValveCmd :=
  match posted with
  | .toOpen => .toOpen
  | .toClose => if frost = .normal ∧ permitted = true then .toClose else .toOpen

/-- The threshold of the shortfall comparison (R67). -/
def shortfallThreshold (command : Nat) : Nat := command * 6 / 10

/-- The shortfall count after a comparison (R67). -/
def shortfallNext (count command : Nat) (feedback : Int) : Nat :=
  if 300 ≤ command ∧ feedback < shortfallThreshold command then min 3 (count + 1) else 0

/-- The lowest of some temperatures, none when there is none (R48). -/
def lowest : List Int → Option Int
  | [] => none
  | x :: xs =>
    match lowest xs with
    | some y => some (min x y)
    | none => some x

end Sys2Proof.Machine
end

