-- ==== Sys2Proof/Machine/StartUp.lean ====
section
/-! DEFINITION. The state every block takes at a start-up from the settings in force (R162, step 1), and the state of a
record that is created. The timers of R70 and R107 are started where the part starts running. -/

namespace Sys2Proof.Machine

/-- The kind fixed by a station address (R1). -/
def kindOf (a : Nat) : StationKind := if a = 11 then .ambient else if a = 12 then .loop else .unit

/-- A point of a record that is created or reset (R18). -/
def Point.fresh : Point := { stored := none, quality := .none }

/-- A station record that is created or reset (R18). -/
def Station.fresh (a : Nat) : Station :=
  { addr := a, kind := kindOf a, counter := 0, mode := .auto, attention := false, mismatch := false,
    points := List.replicate 8 Point.fresh }

/-- The units among some addresses. -/
def unitsOf (as : List Nat) : List Nat := as.filter fun a => kindOf a == .unit

/-- A controller before its discovery begins (R44). The attention line is an input and keeps its level. -/
def Fsc.fresh (line : Bool) : Fsc :=
  { activity := .free, passRunning := false, startDue := false, passNumber := 0#16, passTimer := none,
    scanPosition := 0, revived := [], readThroughs := [], owed := none, lineAsserted := line, pollArmed := false,
    starvation := 0 }

/-- The Freeze Protection Block of a loop at start-up (R57, R62, R65). -/
def Fpb.fresh (st : Settings) (l : LoopId) : Fpb :=
  let cu := concentrationInUse none (st.loop.get l).nominal
  let fp := freezePoint st.freezeTable cu
  let ma := marginOver st.designMin fp st.guardBand
  let units := (unitsOf (st.population l)).map fun a =>
    { addr := a, margin := coilMargin st.designMin fp st.guardBand, frost := .guard, shortfall := 0, iced := false }
  { cu := cu, fp := fp, flowAdequate := false, ma := ma, permitted := false, bmax := bypassCap units, units := units }

/-- The merge at start-up: the loop's fallback values (R89). -/
def Merge.fallback (s : LoopSettings) : Merge :=
  { target := s.fbTarget, floor := s.fbFloor, ceiling := s.fbCeiling, conflict := false }

def CommandRecord.unknown {α : Type} : CommandRecord α := { allocator := none, posted := none, written := none }

/-- The command records of a station that is created (R92). -/
def StationCommands.fresh (a : Nat) : StationCommands :=
  { addr := a, fan := .unknown, valve := .unknown, bypass := .unknown }

/-- The configured stations that have outputs, ascending: units and the loop station. -/
def outputStations (as : List Nat) : List Nat := as.filter fun a => !(kindOf a == .ambient)

/-- The allocator of a loop at start-up (R92). -/
def Allocator.fresh (st : Settings) (l : LoopId) : Allocator :=
  { demand := 200, ePrev := 0, passes := 0, order := unitsOf (st.population l), rotation := none,
    commands := (outputStations (st.population l)).map StationCommands.fresh,
    lastRun := none, lastSupply := none, supplyValid := false }

/-- A port at start-up (R160). -/
def Port.fresh (st : PortSettings) : Port :=
  { receiving := none, queue := [], paused := false, flow := [], replies := [], sending := none, notices := 0#8,
    spacing := none, rate := st.rate, newRate := none }

end Sys2Proof.Machine
end

