-- ==== Sys2Proof/Machine/State.lean ====
section
/-! DEFINITION. The state of the whole part, the reasons a step can stop, and the state right after reset. -/

namespace Sys2Proof.Machine

/-- Whether the settings load of R161 is running, so that the ports take no frame (R160), or the part is running. -/
inductive Phase where
  | loading | running
  deriving DecidableEq, Repr

/-- The part. Every moment is counted in milliseconds of the part's own time base (log entry 2). -/
structure State where
  /-- The commands that are waiting, first in, first out. -/
  pending : List Instr
  now : Nat
  phase : Phase
  settings : Settings
  /-- The image being saved while the save state is SAVING, none while it is IDLE (R166). -/
  saving : Option (List Byte)
  /-- A RESTART has been accepted and the start-up has not begun (R167). -/
  restartPending : Bool
  /-- The fault summary, laid out as in the reply to READ FAULTS (R159, 12.4). -/
  faults : BitVec 24
  ports : PerPort Port
  image : PerSeg (List Station)
  fsc : PerSeg Fsc
  /-- The yard ambient Ta, one for both loops (R48). -/
  ta : Int
  fpb : PerSeg Fpb
  /-- The moment the icing-clear timer expires (R70); none until the start-up starts it. -/
  icingTimer : Option Nat
  slots : PerPort (PerSeg (Option Request))
  merge : PerSeg Merge
  alloc : PerSeg Allocator
  buffer : PerSeg (List Entry)
  settle : PerSeg (List SettleItem)
  fences : PerPort (PerSeg FenceRecord)
  /-- The override records in ascending index order (R127). -/
  overrides : List OverrideRecord
  /-- The valid entries of the access map in ascending index order (9.2). -/
  accessMap : List MapEntry
  deriving DecidableEq, Repr

/-- The manual gives every command its effect in every state and calls none undefined: no command faults. -/
inductive Fault where
  deriving DecidableEq, Repr

/-- The reasons a command is refused by the model itself. -/
inductive Refusal where
  /-- Raised by exec for a row whose meaning is not written yet; safe, since nothing can be proved of its effect. No
  row of this model raises it. -/
  | notModelled (mnemonic : String)
  deriving DecidableEq, Repr

/-- Every block at its start-up state from some settings, before the part starts running (R160, R162). -/
def State.fresh (st : Settings) (now : Nat) (pending : List Instr) (line : PerSeg Bool) : State :=
  { pending := pending
    now := now
    phase := .loading
    settings := st
    saving := none
    restartPending := false
    faults := 0#24
    ports := st.port.map fun _ s => Port.fresh s
    image := { s0 := (st.population .fs0).map Station.fresh, s1 := (st.population .fs1).map Station.fresh }
    fsc := line.map fun _ b => Fsc.fresh b
    ta := st.designMin
    fpb := { s0 := Fpb.fresh st .fs0, s1 := Fpb.fresh st .fs1 }
    icingTimer := none
    slots := PerPort.const { s0 := none, s1 := none }
    merge := st.loop.map fun _ s => Merge.fallback s
    alloc := { s0 := Allocator.fresh st .fs0, s1 := Allocator.fresh st .fs1 }
    buffer := { s0 := [], s1 := [] }
    settle := { s0 := [], s1 := [] }
    fences := PerPort.const { s0 := .none, s1 := .none }
    overrides := []
    accessMap := [] }

/-- The part right after reset: the settings load is running and every block stands at its start-up state, with the
built-in defaults until the load ends (log entry 1). -/
def State.reset : State := State.fresh Settings.default 0 [] { s0 := false, s1 := false }

end Sys2Proof.Machine
end

