-- ==== Sys2Proof/Machine/Ops.lean ====
section
/-! DEFINITION. The named operations over the state: one update per block, and the reads the blocks make of each
other. -/

namespace Sys2Proof.Machine

/-! ### Updates, one per block -/

def State.modPort (s : State) (p : PortId) (f : Port → Port) : State := { s with ports := s.ports.modify p f }

def State.mapPorts (s : State) (f : PortId → Port → Port) : State := { s with ports := s.ports.map f }

def State.modImage (s : State) (g : SegId) (f : List Station → List Station) : State :=
  { s with image := s.image.modify g f }

def State.modFsc (s : State) (g : SegId) (f : Fsc → Fsc) : State := { s with fsc := s.fsc.modify g f }

def State.modFpb (s : State) (l : LoopId) (f : Fpb → Fpb) : State := { s with fpb := s.fpb.modify l f }

def State.modAlloc (s : State) (l : LoopId) (f : Allocator → Allocator) : State := { s with alloc := s.alloc.modify l f }

def State.modBuffer (s : State) (g : SegId) (f : List Entry → List Entry) : State :=
  { s with buffer := s.buffer.modify g f }

def State.modSettle (s : State) (g : SegId) (f : List SettleItem → List SettleItem) : State :=
  { s with settle := s.settle.modify g f }

def State.modSlot (s : State) (p : PortId) (l : LoopId) (r : Option Request) : State :=
  { s with slots := s.slots.modify p fun t => t.set r l }

def State.setMerge (s : State) (l : LoopId) (m : Merge) : State := { s with merge := s.merge.set m l }

/-- Each port's fence record for a loop, changed together. -/
def State.mapFences (s : State) (l : LoopId) (f : PortId → FenceRecord → FenceRecord) : State :=
  { s with fences := s.fences.map fun p t => t.modify l (f p) }

def State.setFence (s : State) (p : PortId) (l : LoopId) (r : FenceRecord) : State :=
  { s with fences := s.fences.modify p fun t => t.set r l }

def State.setOverrides (s : State) (rs : List OverrideRecord) : State := { s with overrides := rs }

def State.setMap (s : State) (es : List MapEntry) : State := { s with accessMap := es }

def State.setFaults (s : State) (f : BitVec 24) : State := { s with faults := f }

def State.setTa (s : State) (t : Int) : State := { s with ta := t }

def State.setSettings (s : State) (st : Settings) : State := { s with settings := st }

/-- The time base is at least at a moment: an event comes no earlier than its moment (log entry 2). -/
def State.advanceTo (s : State) (moment : Nat) : State := { s with now := max s.now moment }

/-- A wait that ends at a deadline has run out at the moment an expiry names, or already by the time base. -/
def State.runOut (s : State) (deadline moment : Nat) : Bool := decide (deadline ≤ max s.now moment)

/-! ### Reading the image -/

/-- The link state for a quality counter (R9). -/
def linkFor (counter : Nat) : LinkState := if 8 ≤ counter then .active else if counter = 0 then .lost else .weak

def Station.link (st : Station) : LinkState := linkFor st.counter

/-- The record of a configured station; none outside the population (R2). -/
def State.station? (s : State) (g : SegId) (a : Nat) : Option Station :=
  (s.image.get g).find? fun st => st.addr == a

def State.modStation (s : State) (g : SegId) (a : Nat) (f : Station → Station) : State :=
  s.modImage g fun sts => sts.map fun st => if st.addr = a then f st else st

/-- The station's link state; an address without a record is called by nobody and counts as LOST. -/
def State.link (s : State) (g : SegId) (a : Nat) : LinkState :=
  match s.station? g a with
  | some st => st.link
  | none => .lost

def State.isLost (s : State) (g : SegId) (a : Nat) : Bool := s.link g a == .lost

/-- The station is neither LOCAL nor LOST, so that it may be posted to (R103, R131). -/
def State.answers (s : State) (g : SegId) (a : Nat) : Bool :=
  match s.station? g a with
  | some st => !(st.link == .lost) && st.mode == .auto
  | none => false

def Station.point (st : Station) (q : Nat) : Point := st.points.getD q Point.fresh

/-- The image's point; a station without a record has none (R2). -/
def State.point (s : State) (g : SegId) (a q : Nat) : Point :=
  match s.station? g a with
  | some st => st.point q
  | none => Point.fresh

/-- The value of a valid point, GOOD or HELD; an invalid point gives none (R6). -/
def Point.validValue (p : Point) : Option Int :=
  match p.quality with
  | .good => p.stored.map Stored.value
  | .held => p.stored.map Stored.value
  | .stale => none
  | .none => none

def State.validPoint (s : State) (g : SegId) (a q : Nat) : Option Int := (s.point g a q).validValue

/-- The codes of a valve state (12.4). -/
def valveOpenCode : Int := 0

def valveClosedCode : Int := 1

/-! ### Reading the other blocks -/

def State.unit? (s : State) (l : LoopId) (a : Nat) : Option UnitFrost := (s.fpb.get l).units.find? fun u => u.addr == a

def State.commands? (s : State) (l : LoopId) (a : Nat) : Option StationCommands :=
  (s.alloc.get l).commands.find? fun c => c.addr == a

/-- The command records of a station, every value unknown where it has none. -/
def State.commands (s : State) (l : LoopId) (a : Nat) : StationCommands :=
  (s.commands? l a).getD (StationCommands.fresh a)

def State.modCommands (s : State) (l : LoopId) (a : Nat) (f : StationCommands → StationCommands) : State :=
  s.modAlloc l fun al => { al with commands := al.commands.map fun c => if c.addr = a then f c else c }

def OutputValue.output : OutputValue → OutputId
  | .fan _ => .fan
  | .valve _ => .valve
  | .bypass _ => .bypass

/-- The override record of an output, if it has one (R127). -/
def State.override? (s : State) (g : SegId) (a : Nat) (o : OutputId) : Option OverrideRecord :=
  s.overrides.find? fun r => r.seg == g && r.station == a && r.value.output == o

def State.overridden (s : State) (g : SegId) (a : Nat) (o : OutputId) : Bool := (s.override? g a o).isSome

/-- The class of a port, as it stands (R151). -/
def State.cls (s : State) (p : PortId) : PortClass := (s.settings.port.get p).cls

/-- The port's telegram stands in a segment's read-through queue, so that the port executes nothing further (R153). -/
def State.portWaits (s : State) (p : PortId) : Bool :=
  SegId.all.any fun g => (s.fsc.get g).readThroughs.any fun e => e.port == p

/-! ### Fields of posts and writes -/

def Fields.none : Fields := { fan := Option.none, valve := Option.none, bypass := Option.none }

def OutputValue.fields : OutputValue → Fields
  | .fan v => { Fields.none with fan := some v }
  | .valve v => { Fields.none with valve := some v }
  | .bypass v => { Fields.none with bypass := some v }

/-- The value of an output in some fields. -/
def Fields.get? (f : Fields) : OutputId → Option OutputValue
  | .fan => f.fan.map .fan
  | .valve => f.valve.map .valve
  | .bypass => f.bypass.map .bypass

def Fields.has (f : Fields) (o : OutputId) : Bool := (f.get? o).isSome

def Fields.isEmpty (f : Fields) : Bool := !(f.has .fan || f.has .valve || f.has .bypass)

/-- Each field of the newer value replaces the older, or is added to it (R111, R115). -/
def Fields.over (newer older : Fields) : Fields :=
  { fan := newer.fan <|> older.fan, valve := newer.valve <|> older.valve, bypass := newer.bypass <|> older.bypass }

/-- The outputs a station of a kind has (R1, R25). -/
def StationKind.hasOutput : StationKind → OutputId → Bool
  | .unit, .fan => true
  | .unit, .valve => true
  | .loop, .bypass => true
  | _, _ => false

/-- The echo point of an output (R36). -/
def echoPoint : OutputId → Nat
  | .fan => 4
  | .valve => 3
  | .bypass => 5

/-! ### Command records (R102) -/

def CommandRecord.forget {α : Type} (c : CommandRecord α) : CommandRecord α := { c with posted := none }

def CommandRecord.post {α : Type} (c : CommandRecord α) (v : Option α) : CommandRecord α :=
  { c with posted := v <|> c.posted }

def CommandRecord.write {α : Type} (c : CommandRecord α) (v : Option α) : CommandRecord α :=
  { c with written := v <|> c.written }

/-- The last posted value of one output becomes unknown. -/
def StationCommands.forget (c : StationCommands) : OutputId → StationCommands
  | .fan => { c with fan := c.fan.forget }
  | .valve => { c with valve := c.valve.forget }
  | .bypass => { c with bypass := c.bypass.forget }

def StationCommands.forgetAll (c : StationCommands) : StationCommands :=
  { c with fan := c.fan.forget, valve := c.valve.forget, bypass := c.bypass.forget }

/-- The last posted value of each output a refused or discarded entry carried becomes unknown (R114, R116). -/
def StationCommands.forgetFields (c : StationCommands) (f : Fields) : StationCommands :=
  { c with
    fan := if f.fan.isSome then c.fan.forget else c.fan
    valve := if f.valve.isSome then c.valve.forget else c.valve
    bypass := if f.bypass.isSome then c.bypass.forget else c.bypass }

/-- Each output posted has its last posted value set (R103). -/
def StationCommands.recordPost (c : StationCommands) (f : Fields) : StationCommands :=
  { c with fan := c.fan.post f.fan, valve := c.valve.post f.valve, bypass := c.bypass.post f.bypass }

/-- Each output accepted has its last written value set (R113). -/
def StationCommands.recordWrite (c : StationCommands) (f : Fields) : StationCommands :=
  { c with fan := c.fan.write f.fan, valve := c.valve.write f.valve, bypass := c.bypass.write f.bypass }

/-- The allocator value of an output, if it is known (R104). -/
def StationCommands.allocatorValue (c : StationCommands) : OutputId → Option OutputValue
  | .fan => c.fan.allocator.map .fan
  | .valve => c.valve.allocator.map .valve
  | .bypass => c.bypass.allocator.map .bypass

/-- A re-posting request for one output (R75). -/
def State.repost (s : State) (l : LoopId) (a : Nat) (o : OutputId) : State := s.modCommands l a fun c => c.forget o

/-- The station of a loop that has the bypass (1.1). -/
def loopStation : Nat := 12

def ambientStation : Nat := 11

end Sys2Proof.Machine
end

