-- ==== Sys2Proof/Machine/Flags.lean ====
section
/-! DEFINITION. The notice bits of the ports (10.7) and the fault summary of the part (10.8). -/

namespace Sys2Proof.Machine

/-- The notice bits (10.7). -/
inductive NoticeBit where
  | frost | station | merge | override | fence | fault
  deriving DecidableEq, Repr

/-- The place of a notice bit in a NOTICE (12.3). No cause sets the two bits 12.3 names nothing for, which are always sent as
0 (DESIGN CHOICE: log entry 38). -/
def NoticeBit.mask : NoticeBit → Byte
  | .frost => 0x01#8
  | .station => 0x02#8
  | .merge => 0x04#8
  | .override => 0x08#8
  | .fence => 0x10#8
  | .fault => 0x20#8

/-- A cause sets its bit only on a port whose notice enable is on (R158). -/
def Port.raise (enabled : Bool) (b : NoticeBit) (port : Port) : Port :=
  if enabled then { port with notices := port.notices ||| b.mask } else port

/-- A notice for the port concerned. -/
def State.notify (s : State) (b : NoticeBit) (p : PortId) : State :=
  s.modPort p (Port.raise (s.settings.port.get p).notices b)

/-- A notice for every port with notices enabled. -/
def State.notifyAll (s : State) (b : NoticeBit) : State :=
  s.mapPorts fun p port => Port.raise (s.settings.port.get p).notices b port

/-- A notice for every port of a set that has notices enabled. -/
def State.notifySet (s : State) (b : NoticeBit) (ps : PortSet) : State :=
  s.mapPorts fun p port => if ps.get p then Port.raise (s.settings.port.get p).notices b port else port

/-- A notice for every port, where a cause is present. -/
def State.notifyIf (s : State) (cause : Bool) (b : NoticeBit) : State := if cause then s.notifyAll b else s

/-- The sticky flags of the fault summary (10.8). -/
inductive FaultFlag where
  | configDefaulted
  | saveFailed
  | stationLost
  | kindMismatch
  | passOverrun (g : SegId)
  | settleTimeout
  | conflict
  | ambientLost
  | supplyLost (l : LoopId)
  | frostProtect
  | icing
  | requestExpired
  | queueOverrun (p : PortId)
  | frameError (p : PortId)
  deriving DecidableEq, Repr

/-- The place of a flag in the reply to READ FAULTS (12.4). -/
def FaultFlag.bit : FaultFlag → Nat
  | .configDefaulted => 0
  | .saveFailed => 1
  | .stationLost => 2
  | .kindMismatch => 3
  | .passOverrun g => 4 + g.number
  | .settleTimeout => 6
  | .conflict => 7
  | .ambientLost => 8
  | .supplyLost l => 9 + l.number
  | .frostProtect => 11
  | .icing => 12
  | .requestExpired => 13
  | .queueOverrun p => 14 + p.number
  | .frameError p => 18 + p.number

def FaultFlag.mask (f : FaultFlag) : BitVec 24 := BitVec.ofNat 24 (2 ^ f.bit)

def State.hasFault (s : State) (f : FaultFlag) : Bool := s.faults.getLsbD f.bit

/-- A cause that finds its flag clear sets it, newly, with the FAULT notice; one that finds it set leaves it (R159). -/
def State.setFault (s : State) (f : FaultFlag) : State :=
  if s.hasFault f then s else (s.setFaults (s.faults ||| f.mask)).notifyAll .fault

def State.setFaultIf (s : State) (cause : Bool) (f : FaultFlag) : State := if cause then s.setFault f else s

end Sys2Proof.Machine
end

