-- ==== Sys2Proof/Machine/Fpb.lean ====
section
/-! DEFINITION. The events of the Freeze Protection Block (chapters 3 and 4): the recomputation of R55 taken whole, the
frost evaluations it brings, fan icing, and the restart of a segment. -/

namespace Sys2Proof.Machine

/-- What one event reaches (R55): which loops have loop point 3 or the nominal concentration changed, whether a freeze
table entry was written, which loops have their flow evaluated, whether Ta is computed, whether G was written, which loop
is restarted, and the one unit whose own points or link state brought a computation of M. -/
structure FpbEvent where
  cu : PerSeg Bool
  table : Bool
  flow : PerSeg Bool
  ta : Bool
  guard : Bool
  restart : PerSeg Bool
  unit : Option (LoopId × Nat)
  deriving DecidableEq, Repr

def noLoop : PerSeg Bool := { s0 := false, s1 := false }

def onlyLoop (l : LoopId) : PerSeg Bool := noLoop.set true l

/-- An event that reaches nothing. -/
def FpbEvent.nothing : FpbEvent :=
  { cu := noLoop, table := false, flow := noLoop, ta := false, guard := false, restart := noLoop, unit := none }

/-- A re-posting request for one output of several stations (R75). -/
def State.repostAll (s : State) (l : LoopId) (as : List Nat) (o : OutputId) : State :=
  s.modAlloc l fun al => { al with commands := al.commands.map fun c => if as.contains c.addr then c.forget o else c }

/-- The flow adequate mark as an evaluation finds it (R52). -/
def State.flowFound (s : State) (l : LoopId) : Bool :=
  match s.validPoint l loopStation 2 with
  | some v => decide (((s.settings.loop.get l).minFlow : Int) ≤ v)
  | none => false

/-- The concentration in use as a computation finds it (R45). -/
def State.concentrationFound (s : State) (l : LoopId) : Nat :=
  concentrationInUse (s.validPoint l loopStation 3) (s.settings.loop.get l).nominal

/-- Cu, Fp and the flow adequate mark of one loop (R45, R47, R52). -/
def State.fpbGlycol (e : FpbEvent) (l : LoopId) (s : State) : State :=
  s.modFpb l fun f =>
    let cu := if e.cu.get l then s.concentrationFound l else f.cu
    { f with
      cu := cu
      fp := if e.table || cu != f.cu then freezePoint s.settings.freezeTable cu else f.fp
      flowAdequate := if e.flow.get l then s.flowFound l else f.flowAdequate }

/-- The valid readings of both masts (R48). -/
def State.ambientReadings (s : State) : List Int :=
  [s.validPoint .fs0 ambientStation 0, s.validPoint .fs0 ambientStation 1,
   s.validPoint .fs1 ambientStation 0, s.validPoint .fs1 ambientStation 1].filterMap id

/-- A computation of Ta (R48). -/
def State.computeTa (s : State) : State :=
  match lowest s.ambientReadings with
  | some t => s.setTa t
  | none => (s.setTa s.settings.designMin).setFault .ambientLost

def State.fpbAmbient (e : FpbEvent) (s : State) : State := if e.ta then s.computeTa else s

/-- Ma and the isolation permission of one loop; a change of the permission re-posts every VALVE (R50, R51, R75). -/
def State.computeMa (s : State) (l : LoopId) : State :=
  let f := s.fpb.get l
  let ma := marginOver s.ta f.fp s.settings.guardBand
  let permitted := isolationNext f.permitted ma
  let s1 := s.modFpb l fun f => { f with ma := ma, permitted := permitted }
  if permitted = f.permitted then s1 else s1.repostAll l (f.units.map UnitFrost.addr) .valve

/-- The outlet temperature used for a unit's margin (R53). -/
def State.outletUsed (s : State) (l : LoopId) (a : Nat) : Int :=
  if s.isLost l a = false ∧ s.validPoint l a 3 = some valveOpenCode ∧ (s.fpb.get l).flowAdequate = true then
    (s.validPoint l a 0).getD s.ta
  else s.ta

/-- A unit's M computed, and its frost state evaluated on it (R54, R59). -/
def State.evaluateUnit (s : State) (l : LoopId) (u : UnitFrost) : UnitFrost :=
  let m := coilMargin (s.outletUsed l u.addr) (s.fpb.get l).fp s.settings.guardBand
  { u with margin := m, frost := frostNext u.frost m }

/-- The bypass cap recomputed; a change re-posts the BYPASS (R65, R75). -/
def State.recomputeCap (s : State) (l : LoopId) : State :=
  let f := s.fpb.get l
  let cap := bypassCap f.units
  let s1 := s.modFpb l fun f => { f with bmax := cap }
  if cap = f.bmax then s1 else s1.repost l loopStation .bypass

/-- The units whose frost state differs between two lists of the same units, as they now are. -/
def frostChanges : List UnitFrost → List UnitFrost → List UnitFrost
  | u :: us, v :: vs => if u.frost = v.frost then frostChanges us vs else v :: frostChanges us vs
  | _, _ => []

/-- The frost evaluation of one loop for the units an event reaches, with the effects of R61 and R65. A restart of the
loop's segment recomputes the cap whatever changed (R63). -/
def State.fpbFrost (l : LoopId) (reached : UnitFrost → Bool) (restart : Bool) (s : State) : State :=
  let old := (s.fpb.get l).units
  let new := old.map fun u => if reached u then s.evaluateUnit l u else u
  let changed := frostChanges old new
  let as := changed.map UnitFrost.addr
  let s1 := s.modFpb l fun f => { f with units := new }
  let s2 := (s1.repostAll l as .fan).repostAll l as .valve
  let s3 := if changed.isEmpty && !restart then s2 else s2.recomputeCap l
  (s3.notifyIf (!changed.isEmpty) .frost).setFaultIf (changed.any fun u => u.frost == .protect) .frostProtect

/-- Ma is reached by a change of Fp or Ta, by a write of G and by a restart (R50, R56). -/
def reachesMa (e : FpbEvent) (before after : State) (l : LoopId) : Bool :=
  e.guard || e.restart.get l || after.ta != before.ta || (after.fpb.get l).fp != (before.fpb.get l).fp

/-- Every unit of a loop is reached by what reaches Ma and by a change of the flow adequate mark (R54). -/
def reachesUnits (e : FpbEvent) (before after : State) (l : LoopId) : Bool :=
  reachesMa e before after l || (after.fpb.get l).flowAdequate != (before.fpb.get l).flowAdequate

/-- One event of the Freeze Protection Block, taken whole in the order of R55 and R66. -/
def State.fpbEvent (s : State) (e : FpbEvent) : State :=
  let s1 := State.fpbGlycol e .fs1 (State.fpbGlycol e .fs0 s)
  let s2 := State.fpbAmbient e s1
  let s3 := if reachesMa e s s2 .fs0 then s2.computeMa .fs0 else s2
  let s4 := if reachesMa e s s2 .fs1 then s3.computeMa .fs1 else s3
  let s5 := State.fpbFrost .fs0 (fun u => reachesUnits e s s2 .fs0 || e.unit == some (.fs0, u.addr)) (e.restart.get .fs0) s4
  State.fpbFrost .fs1 (fun u => reachesUnits e s s2 .fs1 || e.unit == some (.fs1, u.addr)) (e.restart.get .fs1) s5

def State.modUnit (s : State) (l : LoopId) (a : Nat) (f : UnitFrost → UnitFrost) : State :=
  s.modFpb l fun b => { b with units := b.units.map fun u => if u.addr = a then f u else u }

/-- A unit enters LOST: its shortfall count is 0 and its M is computed (R54, R68). -/
def State.fpbUnitLost (s : State) (l : LoopId) (a : Nat) : State :=
  if kindOf a = .unit then
    (s.modUnit l a fun u => { u with shortfall := 0 }).fpbEvent { FpbEvent.nothing with unit := some (l, a) }
  else s

/-- What the delivered points of a READ response reach (R6): points `first` up to, not including, `next`. -/
def readEvent (l : LoopId) (a first next : Nat) : FpbEvent :=
  let has := fun q => decide (first ≤ q) && decide (q < next)
  match kindOf a with
  | .unit => { FpbEvent.nothing with unit := if has 0 || has 3 then some (l, a) else none }
  | .ambient => { FpbEvent.nothing with ta := has 0 || has 1 }
  | .loop =>
    { FpbEvent.nothing with
      cu := if has 3 then onlyLoop l else noLoop
      flow := if has 2 then onlyLoop l else noLoop }

/-- The icing mark is set, with its fault, its notice and the re-posting of the FAN (R69). -/
def State.setIcing (s : State) (l : LoopId) (a : Nat) : State :=
  (((s.modUnit l a fun u => { u with iced := true }).setFault .icing).notifyAll .frost).repost l a .fan

/-- The FAN value the unit last accepted; an unknown one counts as 0 (R67). -/
def State.fanWritten (s : State) (l : LoopId) (a : Nat) : Nat := (s.commands l a).fan.written.getD 0

/-- The shortfall comparison of a scan READ that delivered point 2 with a value (R67, R68, R69). -/
def State.shortfall (s : State) (l : LoopId) (a : Nat) (feedback : Int) : State :=
  match s.unit? l a, s.station? l a with
  | some u, some st =>
    let count := if st.mode = .inLocal then 0 else shortfallNext u.shortfall (s.fanWritten l a) feedback
    let s1 := s.modUnit l a fun u => { u with shortfall := count }
    if u.shortfall = 2 ∧ count = 3 then s1.setIcing l a else s1
  | _, _ => s

/-- The icing-clear timer's expiry on one loop (R70). -/
def State.clearIcing (s : State) (l : LoopId) : State :=
  let iced := ((s.fpb.get l).units.filter fun u => u.iced).map UnitFrost.addr
  let s1 := s.modFpb l fun f => { f with units := f.units.map fun u => { u with shortfall := 0, iced := false } }
  s1.repostAll l iced .fan

def State.anyIced (s : State) (l : LoopId) : Bool := (s.fpb.get l).units.any fun u => u.iced

/-- The per-unit values at a restart of the loop's segment (R56, R63): kept with shortfall 0, created in GUARD, dropped. -/
def unitsAfterRestart (as : List Nat) (old : List UnitFrost) : List UnitFrost :=
  as.map fun a =>
    match old.find? fun u => u.addr == a with
    | some u => { u with shortfall := 0 }
    | none => { addr := a, margin := 0, frost := .guard, shortfall := 0, iced := false }

/-- A restart of the loop's segment, as one event of the block (R56, R63). -/
def State.fpbRestart (s : State) (l : LoopId) : State :=
  let s1 := s.modFpb l fun f =>
    { f with permitted := false, units := unitsAfterRestart (unitsOf (s.settings.population l)) f.units }
  s1.fpbEvent { FpbEvent.nothing with cu := onlyLoop l, flow := onlyLoop l, ta := true, restart := onlyLoop l }

end Sys2Proof.Machine
end

