-- ==== Sys2Proof/Machine/Output.lean ====
section
/-! DEFINITION. The Output Controller (chapter 7): posts into the write buffer, the send filter at a write's start, the
ends of a write, the settle list and the fences; and the override records' delivery that follows from them (R131). -/

namespace Sys2Proof.Machine

/-! ### Posts (R111) -/

def originSet : Option PortId → PortSet
  | some p => PortSet.single p
  | none => PortSet.empty

/-- A post merges into the station's OPEN entry, or joins the tail (R111). -/
def mergePost (a : Nat) (f : Fields) (origin : Option PortId) : List Entry → List Entry
  | [] => [{ station := a, posted := f, origins := originSet origin, marks := PortSet.empty, state := .waiting }]
  | e :: es =>
    if e.station = a ∧ e.state = .waiting then
      { e with posted := f.over e.posted, origins := e.origins.union (originSet origin) } :: es
    else e :: mergePost a f origin es

def State.post (s : State) (g : SegId) (a : Nat) (f : Fields) (origin : Option PortId) : State :=
  s.modBuffer g (mergePost a f origin)

/-- A post of the allocator, or on its behalf: no origin, and the last posted values are set (R103, R104). -/
def State.allocatorPost (s : State) (g : SegId) (a : Nat) (f : Fields) : State :=
  (s.post g a f none).modCommands g a fun c => c.recordPost f

/-! ### The send filter (R71 to R73) -/

/-- The values a WRITE to a station carries, by the states in force as it starts. -/
def State.sendFilter (s : State) (g : SegId) (a : Nat) (f : Fields) : Fields :=
  match kindOf a with
  | .unit =>
    match s.unit? g a with
    | some u =>
      { f with
        fan := f.fan.map (filterFan u.frost u.iced (s.settings.loop.get g).guardCap)
        valve := f.valve.map (filterValve u.frost (s.fpb.get g).permitted) }
    | none => f
  | .loop => { f with bypass := f.bypass.map fun b => min b (s.fpb.get g).bmax }
  | .ambient => f

/-- The head of the buffer goes IN FLIGHT with its filtered values (R112). -/
def State.flyHead (s : State) (g : SegId) : State :=
  s.modBuffer g fun
    | e :: es => { e with state := .inFlight (s.sendFilter g e.station e.posted) } :: es
    | [] => []

/-! ### Override records and the field (R131) -/

/-- The records of a station become WAITING. -/
def State.overridesWait (s : State) (g : SegId) (a : Nat) : State :=
  s.setOverrides (s.overrides.map fun r => if r.seg = g ∧ r.station = a then { r with delivery := .waiting } else r)

/-- The records of the outputs a refused entry carried become WAITING. -/
def State.overridesWaitFor (s : State) (g : SegId) (a : Nat) (f : Fields) : State :=
  s.setOverrides (s.overrides.map fun r =>
    if r.seg = g ∧ r.station = a ∧ f.has r.value.output = true then { r with delivery := .waiting } else r)

/-! ### Mode (R14, R15) -/

/-- The station's mode set, with what a change brings: the STATION notice, and on entering LOCAL the last posted values
unknown (R102) and the override records WAITING (R131). -/
def State.setMode (s : State) (g : SegId) (a : Nat) (m : Mode) : State :=
  match s.station? g a with
  | some st =>
    if st.mode = m then s
    else
      let s1 := (s.modStation g a fun st => { st with mode := m }).notifyAll .station
      if m = .inLocal then (s1.modCommands g a StationCommands.forgetAll).overridesWait g a else s1
  | none => s

/-! ### Fences (R121 to R125) -/

def FenceRecord.isPending : FenceRecord → Bool
  | .pending _ => true
  | _ => false

/-- A mark of the fence has failed (R122). -/
def FenceRecord.fail : FenceRecord → FenceRecord
  | .pending _ => .pending true
  | r => r

/-- The result of a fence that completes (R123). -/
def FenceRecord.complete : FenceRecord → FenceRecord
  | .pending true => .incomplete
  | .pending false => .settled
  | r => r

/-- Some entry or item of the segment carries the port's mark. -/
def State.marked (s : State) (g : SegId) (p : PortId) : Bool :=
  (s.buffer.get g).any (fun e => e.marks.get p) || (s.settle.get g).any fun i => i.marks.get p

/-- The entries and items of the segment that carry the port's mark (R126). -/
def State.markedCount (s : State) (g : SegId) (p : PortId) : Nat :=
  (s.buffer.get g).countP (fun e => e.marks.get p) + (s.settle.get g).countP fun i => i.marks.get p

def State.failMarks (s : State) (g : SegId) (marks : PortSet) : State :=
  s.mapFences g fun p r => if marks.get p then r.fail else r

/-- The ports whose fence on the loop is pending with no mark left. -/
def State.fencesDone (s : State) (g : SegId) : PortSet :=
  s.fences.map fun p t => (t.get g).isPending && !(s.marked g p)

/-- Every fence of the loop whose last mark has left completes, once, with its notice (R123). -/
def State.completeFences (s : State) (g : SegId) : State :=
  let done := s.fencesDone g
  (s.mapFences g fun p r => if done.get p then r.complete else r).notifySet .fence done

/-! ### The ends of a write (R113 to R116) -/

/-- The fields of a WRITE that a station of a kind applies (R25). -/
def Fields.applied (f : Fields) : StationKind → Fields
  | .unit => { f with bypass := Option.none }
  | .loop => { Fields.none with bypass := f.bypass }
  | .ambient => Fields.none

/-- The outputs some fields carry, FAN before VALVE (R113). -/
def Fields.values (f : Fields) : List OutputValue :=
  (f.get? .fan).toList ++ (f.get? .valve).toList ++ (f.get? .bypass).toList

def SettleItem.isFor (i : SettleItem) (a : Nat) (o : OutputId) : Bool := i.station == a && i.value.output == o

/-- The marks of the items an output's new item replaces. -/
def replacedMarks (items : List SettleItem) (a : Nat) (o : OutputId) : PortSet :=
  (items.filter fun i => i.isFor a o).foldl (fun m i => m.union i.marks) PortSet.empty

def unionMarks (items : List SettleItem) : PortSet := items.foldl (fun m i => m.union i.marks) PortSet.empty

/-- The WRITE in flight ends GOOD (R113). The items removed to make room are the oldest; in the states a run reaches
there is at most one. -/
def State.writeGood (s : State) (g : SegId) (a : Nat) : State :=
  match s.buffer.get g with
  | e :: es =>
    match e.state with
    | .inFlight sent =>
      let f := sent.applied (kindOf a)
      let items := s.settle.get g
      let rest := items.filter fun i => !(i.station == a && f.has i.value.output)
      let excess := rest.length + f.values.length - Config.settleRoom
      let failed := rest.take excess
      let new := f.values.map fun v =>
        { station := a, value := v, sentAt := s.now, deadline := s.now + 1000 * s.settings.settleTimeout,
          marks := e.marks.union (replacedMarks items a v.output) : SettleItem }
      let s1 := (s.modBuffer g fun _ => es).modCommands g a fun c => c.recordWrite f
      let s2 := (s1.modSettle g fun _ => rest.drop excess ++ new).setFaultIf (!failed.isEmpty) .settleTimeout
      (s2.failMarks g (unionMarks failed)).completeFences g
    | .waiting => s
  | [] => s

/-- The WRITE in flight ends REFUSED (R114, R15). -/
def State.writeRefused (s : State) (g : SegId) (a : Nat) : State :=
  match s.buffer.get g with
  | e :: es =>
    match e.state with
    | .inFlight _ =>
      let s1 := (s.modBuffer g fun _ => es).setMode g a .inLocal
      let s2 := (s1.modCommands g a fun c => c.forgetFields e.posted).overridesWaitFor g a e.posted
      ((s2.failMarks g e.marks).notifySet .override e.origins).completeFences g
    | .waiting => s
  | [] => s

/-- The station's OPEN entry in a buffer, if it has one. -/
def openEntry (a : Nat) (es : List Entry) : Option Entry := es.find? fun e => e.station == a && e.state == .waiting

/-- The buffer without the station's OPEN entry. -/
def withoutOpen (a : Nat) : List Entry → List Entry
  | [] => []
  | e :: es => if e.station = a ∧ e.state = .waiting then es else e :: withoutOpen a es

/-- The WRITE in flight failed after its allowance: the entry returns to the head as OPEN, combined with a newer OPEN
entry of its station (R115). -/
def State.writeReturn (s : State) (g : SegId) : State :=
  s.modBuffer g fun
    | e :: es =>
      match e.state with
      | .inFlight _ =>
        match openEntry e.station es with
        | some n =>
          { e with
            state := .waiting
            posted := n.posted.over e.posted
            origins := e.origins.union n.origins
            marks := e.marks.union n.marks } :: withoutOpen e.station es
        | none => { e with state := .waiting } :: es
      | .waiting => e :: es
    | [] => []

/-- Every entry of a station that enters LOST is discarded (R116). The last posted values of all its outputs become
unknown with its entry into LOST (R102), and its override records WAITING (R131). -/
def State.discardEntries (s : State) (g : SegId) (a : Nat) : State :=
  let gone := (s.buffer.get g).filter fun e => e.station == a
  let marks := gone.foldl (fun m e => m.union e.marks) PortSet.empty
  let origins := gone.foldl (fun m e => m.union e.origins) PortSet.empty
  let s1 := s.modBuffer g fun es => es.filter fun e => !(e.station == a)
  let s2 := (s1.modCommands g a StationCommands.forgetAll).overridesWait g a
  ((s2.failMarks g marks).notifySet .override origins).completeFences g

/-! ### The settle list (R117 to R120) -/

def near (x y : Int) (d : Nat) : Bool := decide ((x - y).natAbs ≤ d)

/-- The settle criterion of R118, on the points one READ delivered with a value. -/
def settles (value : OutputValue) (valued : List Nat) (point : Nat → Int) : Bool :=
  match value with
  | .fan n =>
    valued.contains 2 && valued.contains 4 && point 4 == n &&
      (if n = 0 then decide (point 2 < 50) else near (point 2) n 100)
  | .valve .toOpen => valued.contains 3 && point 3 == valveOpenCode
  | .valve .toClose => valued.contains 3 && point 3 == valveClosedCode
  | .bypass n => valued.contains 4 && near (point 4) n 30

/-- The stored value of a point, 0 where it has none; it is read only of points just delivered with a value. -/
def State.storedValue (s : State) (g : SegId) (a q : Nat) : Int :=
  match (s.point g a q).stored with
  | some v => v.value
  | none => 0

/-- The settle check of a READ response (R118), on the values stored by the READ, whatever a MARK STALE between it and its
continuation has made of their quality (DESIGN CHOICE: log entry 33). -/
def State.settleCheck (s : State) (g : SegId) (a : Nat) (valued : List Nat) : State :=
  (s.modSettle g fun items =>
    items.filter fun i => !(i.station == a && settles i.value valued (s.storedValue g a))).completeFences g

/-- An item fails at its deadline (R119). -/
def State.settleFail (s : State) (g : SegId) (a : Nat) (o : OutputId) : State :=
  let gone := (s.settle.get g).filter fun i => i.isFor a o
  let s1 := (s.modSettle g fun items => items.filter fun i => !(i.isFor a o)).setFault .settleTimeout
  (s1.failMarks g (unionMarks gone)).completeFences g

/-- The output side of a restart of the segment (R125): buffer and list empty, pending fences INCOMPLETE. -/
def State.outputRestart (s : State) (g : SegId) : State :=
  let ended : PortSet := s.fences.map fun _ t => (t.get g).isPending
  (((s.modBuffer g fun _ => []).modSettle g fun _ => []).mapFences g fun p r =>
    if ended.get p then .incomplete else r).notifySet .fence ended

end Sys2Proof.Machine
end

