-- ==== Sys2Proof/Machine/Alloc.lean ====
section
/-! DEFINITION. The loop allocators (chapter 6): the demand index, the ladder, the service set, the allocator values and
their posts; and the posts the Override Table makes at an end of pass and at the end of a record (R104, R131). -/

namespace Sys2Proof.Machine

/-! ### The demand stage (R93 to R95) -/

/-- The error of a run, clamped (R93). -/
def demandError (supply target : Int) : Int := clamp (-200) 200 (supply - target)

/-- The quotient by 64 rounded to the nearest integer, halves away from zero (R94). -/
def roundBy64 (x : Int) : Int := if x < 0 then -((-x + 32) / 64) else (x + 32) / 64

/-- The increment of a run (R94). -/
def increment (kp ki : Nat) (e ePrev : Int) : Int := kp * (e - ePrev) + ki * e

/-- The demand index after an increment, clamped to 0 to 1000 (R94). -/
def demandNext (demand : Nat) (inc : Int) : Nat := (clamp 0 1000 (demand + roundBy64 inc)).toNat

/-- The demand stage of a run; the warm-up run holds D (R91). -/
def State.demandStage (s : State) (l : LoopId) (warmUp : Bool) : State :=
  match s.validPoint l loopStation 0 with
  | some ts =>
    let st := s.settings.loop.get l
    let e := demandError ts (s.merge.get l).target
    s.modAlloc l fun al =>
      { al with
        demand := if warmUp then al.demand else demandNext al.demand (increment st.kp st.ki e al.ePrev)
        ePrev := e
        lastSupply := some ts
        supplyValid := true }
  | none => (s.modAlloc l fun al => { al with supplyValid := false }).setFault (.supplyLost l)

/-! ### The ladder and the service set (R96 to R100) -/

/-- The eligible units: configured, answering and in AUTO (R96). -/
def State.eligible (s : State) (l : LoopId) : List Nat :=
  (unitsOf (s.settings.population l)).filter fun a => s.answers l a

/-- The minimum in service for N eligible units (R97). -/
def minimumInService (permitted : Bool) (setting n : Nat) : Nat := if permitted then min setting n else n

/-- The ladder at a demand D (R98, R99). -/
def ladder (d n kMin smin bmax : Nat) : LastRun :=
  if d < 200 then { n := n, kMin := kMin, k := kMin, speed := 0, bypass := min ((200 - d) * 5) bmax }
  else
    let s := (d - 200) * 5 / 4
    { n := n
      kMin := kMin
      k := min n (kMin + ((n - kMin) * (d - 200) + 399) / 400)
      speed := if 0 < s ∧ s < smin then smin else s
      bypass := 0 }

/-- The unit is kept or forced in service by its frost state (R100, second step). -/
def State.heldInService (s : State) (l : LoopId) (a : Nat) : Bool :=
  match s.unit? l a with
  | some u =>
    match u.frost with
    | .protect => true
    | .guard => s.validPoint l a 3 != some valveClosedCode
    | .normal => false
  | none => false

/-- The service set: the first k eligible units of the service order, and those their frost state adds (R100). -/
def State.serviceSet (s : State) (l : LoopId) (k : Nat) : List Nat :=
  let el := s.eligible l
  (((s.alloc.get l).order.filter fun a => el.contains a).take k) ++ el.filter fun a => s.heldInService l a

/-- The allocator values a full run sets for one station (R101). -/
def runValues (eligible inService : List Nat) (run : LastRun) (c : StationCommands) : StationCommands :=
  match kindOf c.addr with
  | .unit =>
    if eligible.contains c.addr then
      let serves := inService.contains c.addr
      { c with
        fan := { c.fan with allocator := some (if serves then run.speed else 0) }
        valve := { c.valve with allocator := some (if serves then .toOpen else .toClose) } }
    else c
  | .loop => { c with bypass := { c.bypass with allocator := some run.bypass } }
  | .ambient => c

/-- The stages of a full run after the demand stage (R96 to R101). -/
def State.fullStages (s : State) (l : LoopId) : State :=
  let st := s.settings.loop.get l
  let el := s.eligible l
  let f := s.fpb.get l
  let run := ladder (s.alloc.get l).demand el.length (minimumInService f.permitted st.minService el.length) st.smin f.bmax
  let serving := s.serviceSet l run.k
  s.modAlloc l fun al =>
    { al with lastRun := some run, commands := al.commands.map (runValues el serving run) }

/-! ### Posting (R103, R104, R131) -/

/-- An allocator value that is known and differs from the last posted value. -/
def CommandRecord.due {α : Type} [DecidableEq α] (c : CommandRecord α) : Option α :=
  if c.allocator = c.posted then none else c.allocator

/-- The outputs of a station that qualify for the run's post (R103). -/
def State.wanted (s : State) (l : LoopId) (c : StationCommands) : Fields :=
  if s.answers l c.addr then
    { fan := if s.overridden l c.addr .fan then none else c.fan.due
      valve := if s.overridden l c.addr .valve then none else c.valve.due
      bypass := if s.overridden l c.addr .bypass then none else c.bypass.due }
  else Fields.none

/-- One station's post of a run, where some output qualifies. -/
def State.runPost (s : State) (l : LoopId) (c : StationCommands) : State :=
  let f := s.wanted l c
  if f.isEmpty then s else s.allocatorPost l c.addr f

/-- The posts of a full run, in ascending station address order (R103). -/
def State.runPosts (s : State) (l : LoopId) : State :=
  (s.alloc.get l).commands.foldl (fun t c => t.runPost l c) s

/-- The allocation run at an end of pass: warm-up at the first, full at every later one (R90, R91). -/
def State.allocationRun (s : State) (l : LoopId) : State :=
  let warmUp := (s.alloc.get l).passes == 0
  let s1 := s.modAlloc l fun al => { al with passes := min 2 (al.passes + 1) }
  let s2 := s1.demandStage l warmUp
  if warmUp then s2 else (s2.fullStages l).runPosts l

/-- A WAITING record of the segment whose station may now be posted to (R131). -/
def State.deliverable (s : State) (g : SegId) (r : OverrideRecord) : Bool :=
  r.seg == g && r.delivery == .waiting && s.answers g r.station

def State.postRecord (s : State) (r : OverrideRecord) : State :=
  s.post r.seg r.station r.value.fields (some r.owner)

/-- The Override Table's posts at an end of pass, in ascending index order (R131). -/
def State.deliverWaiting (s : State) (g : SegId) : State :=
  let s1 := (s.overrides.filter fun r => s.deliverable g r).foldl State.postRecord s
  s1.setOverrides (s.overrides.map fun r => if s.deliverable g r then { r with delivery := .posted } else r)

/-- What follows the end of an override record: the allocator value is posted on the allocator's behalf, or the last
posted value becomes unknown (R104). -/
def State.handBack (s : State) (g : SegId) (a : Nat) (o : OutputId) : State :=
  match (s.commands g a).allocatorValue o with
  | some v => if s.answers g a then s.allocatorPost g a v.fields else s.repost g a o
  | none => s.repost g a o

/-! ### Restart of the segment (R92, R136) -/

/-- The command records at a restart: kept with the last posted values unknown, created, dropped (R92). -/
def commandsAfterRestart (as : List Nat) (old : List StationCommands) : List StationCommands :=
  as.map fun a =>
    match old.find? fun c => c.addr == a with
    | some c => c.forgetAll
    | none => StationCommands.fresh a

/-- The allocator at a restart of its segment (R92, R106). -/
def State.allocRestart (s : State) (l : LoopId) (populationChanged : Bool) : State :=
  let pop := s.settings.population l
  s.modAlloc l fun al =>
    { al with
      passes := 0
      order := if populationChanged then unitsOf pop else al.order
      commands := commandsAfterRestart (outputStations pop) al.commands }

/-- The override records at a restart of a segment (R136). -/
def State.overridesRestart (s : State) (g : SegId) : State :=
  let stays := fun r : OverrideRecord => r.seg != g || (s.settings.population g).contains r.station
  let owners := (s.overrides.filter fun r => !(stays r)).foldl
    (fun ps r => PortSet.union ps (PortSet.single r.owner)) PortSet.empty
  (s.setOverrides ((s.overrides.filter stays).map fun r =>
    if r.seg = g then { r with delivery := .waiting } else r)).notifySet .override owners

end Sys2Proof.Machine
end

