-- ==== Sys2Proof/Machine/Ports.lean ====
section
/-! DEFINITION. The supervisory ports (chapter 10): the receiver, the intake queue with its flow control, the forming of
replies, and the transmitter. -/

namespace Sys2Proof.Machine

/-! ### Outcomes and replies (12.4) -/

/-- The refusals of 10.3; a MISS carries the address it could not translate. -/
inductive RefusalCode where
  | malformed | rights | noPoint | busy | full | duplicate | size | range | unknownKind
  deriving DecidableEq, Repr

def RefusalCode.code : RefusalCode → Byte
  | .malformed => 0x10#8
  | .rights => 0x11#8
  | .noPoint => 0x13#8
  | .busy => 0x14#8
  | .full => 0x15#8
  | .duplicate => 0x16#8
  | .size => 0x17#8
  | .range => 0x18#8
  | .unknownKind => 0x19#8

def doneByte : Byte := 0x00#8

def clampedByte : Byte := 0x01#8

def missByte : Byte := 0x12#8

/-- A reply carries the telegram's sequence byte and its kind code plus 0x80 (R170). The sum of an unknown kind of 0x80 or
above does not fit the byte, and is taken modulo 256 (DESIGN CHOICE: log entry 29). -/
def replyFrame (t : Telegram) (body : List Byte) (effect : FrameEffect) : Frame :=
  { sequence := t.sequence, kind := t.kind + 0x80#8, body := body, effect := effect }

/-- The frame of a telegram the part sends on its own carries sequence byte 0 (R170). -/
def ownFrame (kind : Byte) (body : List Byte) : Frame :=
  { sequence := 0#8, kind := kind, body := body, effect := .none }

def FlowTelegram.frame : FlowTelegram → Frame
  | .pause => ownFrame 0x71#8 []
  | .resume => ownFrame 0x72#8 []

/-- A RESUME made ready: it withdraws the PAUSE of the same pause when that has not begun (R154). -/
def addResume (flow : List FlowTelegram) : List FlowTelegram :=
  if flow.getLast? = some .pause then flow.dropLast else flow ++ [.resume]

/-- A reply is formed for the telegram at the head of the queue (R153, R154). -/
def Port.form (body : List Byte) (effect : FrameEffect) (port : Port) : Port :=
  match port.queue with
  | t :: rest =>
    let p1 := { port with queue := rest, replies := port.replies ++ [replyFrame t body effect] }
    if port.paused = true ∧ rest.length = Config.resumeAt then { p1 with paused := false, flow := addResume port.flow }
    else p1
  | [] => port

def State.replyWith (s : State) (p : PortId) (body : List Byte) (effect : FrameEffect) : State :=
  s.modPort p (Port.form body effect)

/-- The port answers its head telegram. -/
def State.reply (s : State) (p : PortId) (body : List Byte) : State := s.replyWith p body .none

def State.refuse (s : State) (p : PortId) (r : RefusalCode) : State := s.reply p [r.code]

/-- The refusal that carries data: the logical address that was not translated (R153). -/
def State.refuseMiss (s : State) (p : PortId) (address : Word) : State := s.reply p (missByte :: be16 address)

/-! ### The transmitter (R156, R158, R151) -/

/-- A written rate takes effect between frames; a frame being received is then dropped (R151). -/
def Port.applyRate (port : Port) : Port :=
  match port.newRate with
  | some r =>
    if r = port.rate then { port with newRate := none }
    else { port with rate := r, newRate := none, receiving := none }
  | none => port

/-- An idle transmitter starts the first frame that is ready (R156). -/
def Port.start (now : Nat) (port : Port) : Port :=
  match port.flow, port.replies with
  | f :: rest, _ => { port with sending := some f.frame, flow := rest }
  | [], r :: rest => { port with sending := some r, replies := rest }
  | [], [] =>
    if port.notices ≠ 0#8 ∧ port.spacing = none then
      { port with
        sending := some (ownFrame 0x70#8 [port.notices])
        notices := 0#8
        spacing := some (now + Config.noticeSpacing) }
    else port

def Port.kick (now : Nat) (port : Port) : Port :=
  match port.sending with
  | some _ => port
  | none => port.applyRate.start now

/-- Every idle transmitter starts what is ready, once the event that made it ready is whole. -/
def State.kickPorts (s : State) : State :=
  if s.phase = .running then s.mapPorts fun _ port => port.kick s.now else s

/-! ### The receiver and the intake queue (R152, R154) -/

/-- A telegram joins the tail of a queue with room; the occupancy reaching 12 pauses the port (R154). A RESUME that has not
begun stands before the new PAUSE, and both are sent, oldest first (DESIGN CHOICE: log entry 35). -/
def Port.take (t : Telegram) (port : Port) : Port :=
  let p1 := { port with queue := port.queue ++ [t] }
  if port.queue.length + 1 = Config.pauseAt ∧ port.paused = false then
    { p1 with paused := true, flow := port.flow ++ [.pause] }
  else p1

/-- A telegram taken by a port; one that arrives at a full queue is discarded (R154). -/
def State.takeTelegram (s : State) (p : PortId) (t : Telegram) : State :=
  if (s.ports.get p).queue.length < Config.queueRoom then s.modPort p (Port.take t) else s.setFault (.queueOverrun p)

def State.receiveInto (s : State) (p : PortId) (r : Option (List Byte)) : State :=
  s.modPort p fun port => { port with receiving := r }

/-- A frame whose last byte has come is judged by its check (R152). -/
def State.frameEnds (s : State) (p : PortId) (bytes : List Byte) : State :=
  match checked bytes with
  | some (_ :: sequence :: kind :: body) => s.takeTelegram p { sequence := sequence, kind := kind, body := body }
  | _ => s.setFault (.frameError p)

/-- One character heard by a port's receiver (R152). -/
def State.receiveChar (s : State) (p : PortId) (c : Byte) : State :=
  match (s.ports.get p).receiving with
  | none => if c = Config.startByte then s.receiveInto p (some []) else s
  | some [] =>
    if 2 ≤ c.toNat ∧ c.toNat ≤ 50 then s.receiveInto p (some [c])
    else (s.receiveInto p none).setFault (.frameError p)
  | some (len :: more) =>
    let bytes := len :: (more ++ [c])
    if bytes.length = len.toNat + 3 then (s.receiveInto p none).frameEnds p bytes
    else s.receiveInto p (some bytes)

/-- The characters heard by a port's receiver, one after another. -/
def State.receive (s : State) (p : PortId) : List Byte → State
  | [] => s
  | c :: cs => (s.receiveChar p c).receive p cs

/-! ### Executing the head telegram (R153) -/

/-- The telegram a port may execute: the head of its queue, while the part runs and the port waits for no
read-through. -/
def State.headTelegram (s : State) (p : PortId) : Option Telegram :=
  if s.phase = .running ∧ s.portWaits p = false then (s.ports.get p).queue.head? else none

/-- The port executes its head telegram when that is of the kind named; no such telegram, no such event (log entry 3). -/
def State.execTelegram (s : State) (p : PortId) (kind : Byte) (act : Telegram → State → State) : State :=
  match s.headTelegram p with
  | some t => if t.kind = kind then (act t s).kickPorts else s
  | none => s

end Sys2Proof.Machine
end

