-- ==== Sys2Proof/Machine/Operands.lean ====
section
/-! DEFINITION. The operands of telegrams: the fields of their bodies (12.3), and the point addresses with their
translation through the access map (chapter 9). -/

namespace Sys2Proof.Machine

/-! ### Bodies (12.3) -/

/-- A body of one byte. -/
def body1 : List Byte → Option Nat
  | [b] => some b.toNat
  | _ => none

/-- A body of two one-byte fields. -/
def body11 : List Byte → Option (Nat × Nat)
  | [a, b] => some (a.toNat, b.toNat)
  | _ => none

/-- A body of one two-byte field. -/
def body2 : List Byte → Option Word
  | [h, l] => some (word16 h l)
  | _ => none

/-- The body of READ POINT: address 2, fresh 1; a fresh code that is neither NO nor YES is not allowed. -/
def bodyReadPoint : List Byte → Option (Word × Bool)
  | [h, l, f] => if f = 0#8 then some (word16 h l, false) else if f = 1#8 then some (word16 h l, true) else none
  | _ => none

/-- The fields of POST REQUEST as carried. -/
structure RequestBody where
  loop : Nat
  target : Int
  floor : Int
  ceiling : Int
  hold : Nat
  deriving DecidableEq, Repr

def bodyPostRequest : List Byte → Option RequestBody
  | [l, t1, t0, f1, f0, c1, c0, h1, h0] =>
    some { loop := l.toNat, target := (word16 t1 t0).toInt, floor := (word16 f1 f0).toInt,
           ceiling := (word16 c1 c0).toInt, hold := (word16 h1 h0).toNat }
  | _ => none

/-- The fields of SET OVERRIDE as carried: address, signed value, hold. -/
structure OverrideBody where
  address : Word
  value : Int
  hold : Nat
  deriving DecidableEq, Repr

def bodySetOverride : List Byte → Option OverrideBody
  | [a1, a0, v1, v0, h1, h0] =>
    some { address := word16 a1 a0, value := (word16 v1 v0).toInt, hold := (word16 h1 h0).toNat }
  | _ => none

/-- The owner codes of the map telegrams (12.3): a port tag, or GLOBAL, which is `some none`. -/
def ownerOf (code : Nat) : Option (Option PortId) :=
  if code = 0xFF then some none else (PortId.ofNumber code).map some

/-- The fields of MAP as carried. -/
structure MapBody where
  owner : Nat
  logical : Nat
  size : Nat
  physical : Nat
  readRight : Bool
  overrideRight : Bool
  deriving DecidableEq, Repr

/-- The body of MAP; rights bits beyond READ and OVERRIDE are codes the kind does not allow (log entry 8). -/
def bodyMap : List Byte → Option MapBody
  | [o, l1, l0, z, p1, p0, r] =>
    if r.toNat < 4 then
      some { owner := o.toNat, logical := (word16 l1 l0).toNat, size := z.toNat, physical := (word16 p1 p0).toNat,
             readRight := r.getLsbD 0, overrideRight := r.getLsbD 1 }
    else none
  | _ => none

/-- The body of UNMAP and PROBE BY ADDRESS: owner 1, logical address 2. -/
def bodyOwned : List Byte → Option (Nat × Nat)
  | [o, a1, a0] => some (o.toNat, (word16 a1 a0).toNat)
  | _ => none

/-- The fields of WRITE SETTING as carried. -/
structure SettingBody where
  item : Nat
  qualifier : Nat
  value : Word
  deriving DecidableEq, Repr

def bodyWriteSetting : List Byte → Option SettingBody
  | [i, q, v1, v0] => some { item := i.toNat, qualifier := q.toNat, value := word16 v1 v0 }
  | _ => none

/-! ### Point addresses (R137, R138) -/

/-- What a point address resolved to: the segment, the station, the point or output, and the direct address. -/
structure Resolved where
  seg : SegId
  station : Nat
  target : Target
  direct : Nat
  deriving DecidableEq, Repr

/-- The first direct address (9.1). -/
def directBase : Nat := 0x8000

/-- What a point number of a direct address names on a station of a kind (9.1, R137). -/
def targetOf (kind : StationKind) (n : Nat) : Option Target :=
  if n ≤ 7 then some (.point n)
  else
    match n with
    | 8 => if kind.hasOutput .fan then some (.output .fan) else none
    | 9 => if kind.hasOutput .valve then some (.output .valve) else none
    | 10 => if kind.hasOutput .bypass then some (.output .bypass) else none
    | _ => none

/-- The point a direct address names, judged on the populations as they stand; none when it names nothing (R137). -/
def State.direct? (s : State) (a : Nat) : Option Resolved :=
  let n := a - directBase
  match SegId.ofNumber (n / 0x100) with
  | some g =>
    let st := n / 0x10 % 0x10
    if (s.settings.population g).contains st then
      (targetOf (kindOf st) (n % 0x10)).map fun t => { seg := g, station := st, target := t, direct := a }
    else none
  | none => none

def Target.number : Target → Nat
  | .point q => q
  | .output o => echoPoint o

/-! ### Translation (R140) -/

/-- The bank of an index (9.2). -/
def bankOf (index : Nat) : Bank := if index < Config.bankRoom then .low else .high

def State.sizeOf (s : State) (e : MapEntry) : Nat := s.settings.blockSize (bankOf e.index)

/-- The entry's block covers a logical address. -/
def State.covers (s : State) (e : MapEntry) (a : Nat) : Bool :=
  decide (e.logical ≤ a) && decide (a < e.logical + s.sizeOf e)

/-- The entry serves an owner: its own, or every port when it is GLOBAL (R140, R148). -/
def MapEntry.serves (e : MapEntry) (owner : Option PortId) : Bool := e.owner == owner || e.owner == none

/-- The entry that matches a logical address for an owner (R140). -/
def State.match? (s : State) (owner : Option PortId) (a : Nat) : Option MapEntry :=
  s.accessMap.find? fun e => e.serves owner && s.covers e a

/-- The direct address an entry translates a logical one to (R140). -/
def MapEntry.translate (e : MapEntry) (a : Nat) : Nat := e.physical + (a - e.logical)

/-- What a translation ended in. -/
inductive Resolution where
  | found (r : Resolved)
  | refused (code : RefusalCode)
  | miss (address : Word)
  deriving DecidableEq, Repr

def State.judge (s : State) (direct : Nat) : Resolution :=
  match s.direct? direct with
  | some r => .found r
  | none => .refused .noPoint

/-- Translation and the check of the right the telegram needs, then the judgement of R137 (R141, R142). -/
def State.translate (s : State) (p : PortId) (w : Word) (right : MapEntry → Bool) : Resolution :=
  if directBase ≤ w.toNat then s.judge w.toNat
  else
    match s.match? (some p) w.toNat with
    | some e => if right e then s.judge (e.translate w.toNat) else .refused .rights
    | none => .miss w

/-- The address of READ POINT (R141). -/
def State.resolveRead (s : State) (p : PortId) (w : Word) : Resolution := s.translate p w MapEntry.readRight

/-- The address of SET OVERRIDE and RELEASE OVERRIDE, the class checked first (R142). -/
def State.resolveOverride (s : State) (p : PortId) (w : Word) : Resolution :=
  if s.cls p = .supervisor ∨ (s.cls p = .plant ∧ w.toNat < directBase) then
    s.translate p w MapEntry.overrideRight
  else .refused .rights

end Sys2Proof.Machine
end

