-- ==== Sys2Proof/Machine/Replies.lean ====
section
/-! DEFINITION. The bodies of the replies, byte by byte (12.4), from the values held when the reply is formed. -/

namespace Sys2Proof.Machine

/-! ### Codes (12.4) -/

def Quality.code : Quality → Byte
  | .good => 0#8
  | .held => 1#8
  | .stale => 2#8
  | .none => 3#8

def LinkState.code : LinkState → Byte
  | .active => 0#8
  | .weak => 1#8
  | .lost => 2#8

def Mode.code : Mode → Byte
  | .auto => 0#8
  | .inLocal => 1#8

def StationKind.code : StationKind → Byte
  | .unit => 1#8
  | .ambient => 2#8
  | .loop => 3#8

def FrostState.code : FrostState → Byte
  | .normal => 0#8
  | .guard => 1#8
  | .protect => 2#8

def FenceRecord.code : FenceRecord → Byte
  | .none => 0#8
  | .pending _ => 1#8
  | .settled => 2#8
  | .incomplete => 3#8

def Delivery.code : Delivery → Byte
  | .posted => 0#8
  | .waiting => 1#8

def ValveCmd.code : ValveCmd → Nat
  | .toOpen => 0
  | .toClose => 1

/-- An output's value in a two-byte field. -/
def OutputValue.word : OutputValue → Word
  | .fan n => wordOf n
  | .valve v => wordOf v.code
  | .bypass n => wordOf n

/-- An output's value, or unknown (R170). -/
def valueField : Option OutputValue → List Byte
  | some v => be16 v.word
  | none => be16 0xFFFF#16

def absentByte : Byte := 0xFF#8

/-! ### Point and station replies -/

/-- A point block (12.4): bit 7 of the quality byte is set when the point holds a value and a stamp. With the bit clear both
fields carry 0xFFFF (DESIGN CHOICE: log entry 36). -/
def Point.block (p : Point) : List Byte :=
  match p.stored with
  | some v => be16 (signedWord v.value) ++ [p.quality.code ||| 0x80#8] ++ be16 v.stamp
  | none => be16 0xFFFF#16 ++ [p.quality.code] ++ be16 0xFFFF#16

/-- The reply to READ STATION (R17, 12.4). The flag bits 12.4 names nothing for are 0 (DESIGN CHOICE: log entry 38). -/
def Station.reply (g : SegId) (st : Station) : List Byte :=
  [doneByte, byteOf g.number, byteOf st.addr, st.kind.code, byteOf st.counter, st.link.code, st.mode.code,
    flagByte st.attention ||| (flagByte st.mismatch <<< 1)] ++ st.points.flatMap Point.block

/-- Whole seconds since a moment; the manual does not say which way a part of a second is taken (R126, log entry 5). -/
def secondsSince (now moment : Nat) : Nat :=
  let ms := now - moment
  if ms % 1000 ≠ 0 ∧ Config.roundsUp ms = true then ms / 1000 + 1 else ms / 1000

/-- Whole seconds until a moment, rounded up (R82, R133). -/
def secondsLeft (now moment : Nat) : Nat := (moment - now + 999) / 1000

/-- The station's entry IN FLIGHT in a buffer, with the values being sent. -/
def flyingEntry (a : Nat) : List Entry → Option (Fields × Fields)
  | [] => none
  | e :: es =>
    match e.state with
    | .inFlight sent => if e.station = a then some (e.posted, sent) else flyingEntry a es
    | .waiting => flyingEntry a es

def StationCommands.postedValue (c : StationCommands) : OutputId → Option OutputValue
  | .fan => c.fan.posted.map .fan
  | .valve => c.valve.posted.map .valve
  | .bypass => c.bypass.posted.map .bypass

def StationCommands.writtenValue (c : StationCommands) : OutputId → Option OutputValue
  | .fan => c.fan.written.map .fan
  | .valve => c.valve.written.map .valve
  | .bypass => c.bypass.written.map .bypass

/-- The values of an output (R126, 12.4). A field whose presence bit is clear carries 0xFFFF (DESIGN CHOICE: log entry
36), and the presence bits 12.4 names nothing for are 0 (DESIGN CHOICE: log entry 38). -/
def State.outputReply (s : State) (g : SegId) (a : Nat) (o : OutputId) (direct : Nat) : List Byte :=
  let c := s.commands g a
  let opened := (openEntry a (s.buffer.get g)).bind fun e => e.posted.get? o
  let flying := flyingEntry a (s.buffer.get g)
  let flyingPosted := flying.bind fun f => f.1.get? o
  let flyingSent := flying.bind fun f => f.2.get? o
  let item := (s.settle.get g).find? fun i => i.isFor a o
  let held := s.override? g a o
  let presence : Nat :=
    (if opened.isSome then 1 else 0) + (if flyingPosted.isSome then 2 else 0) + (if item.isSome then 4 else 0) +
      (if held.isSome then 8 else 0)
  [doneByte] ++ be16 (wordOf direct) ++ [byteOf presence] ++
    valueField (c.allocatorValue o) ++ valueField (c.postedValue o) ++ valueField (c.writtenValue o) ++
    valueField opened ++ valueField flyingPosted ++ valueField flyingSent ++
    valueField (item.map SettleItem.value) ++
    be16 (match item with
      | some i => wordOf (secondsSince s.now i.sentAt)
      | none => 0xFFFF#16) ++
    valueField (held.map OverrideRecord.value) ++ (s.point g a (echoPoint o)).block

/-- The reply to READ POINT from the image (R36, R141). -/
def State.pointReply (s : State) (g : SegId) (a : Nat) (t : Target) (direct : Nat) : List Byte :=
  match t with
  | .point q => [doneByte] ++ be16 (wordOf direct) ++ (s.point g a q).block
  | .output o => s.outputReply g a o direct

/-! ### READ STATUS (R157) -/

def slotBytes (now : Nat) : Option Request → List Byte
  | some r =>
    [1#8] ++ be16 (signedWord r.target) ++ be16 (signedWord r.floor) ++ be16 (signedWord r.ceiling) ++
      be16 (wordOf r.hold) ++ be16 (wordOf (max 1 (secondsLeft now r.deadline)))
  | none => 0#8 :: List.replicate 10 absentByte

def lastRunBytes : Option LastRun → List Byte
  | some r => [byteOf r.n, byteOf r.kMin, byteOf r.k] ++ be16 (wordOf r.speed) ++ be16 (wordOf r.bypass)
  | none => List.replicate 7 absentByte

/-- Some bytes, filled up to a length with 0xFF (12.4: unused 0xFF). -/
def padTo (n : Nat) (bytes : List Byte) : List Byte := bytes ++ List.replicate (n - bytes.length) absentByte

def Merge.bytes (m : Merge) : List Byte :=
  be16 (signedWord m.target) ++ be16 (signedWord m.floor) ++ be16 (signedWord m.ceiling) ++ [flagByte m.conflict]

def Allocator.demandBytes (al : Allocator) : List Byte :=
  be16 (wordOf al.demand) ++ be16 (signedWord al.ePrev) ++
    be16 (match al.lastSupply with
      | some t => signedWord t
      | none => 0x8000#16) ++
    [flagByte al.supplyValid, flagByte (al.passes == 0)]

def Allocator.orderBytes (al : Allocator) : List Byte :=
  byteOf al.order.length :: padTo 10 (al.order.map byteOf)

def UnitFrost.bytes (u : UnitFrost) : List Byte :=
  [byteOf u.addr, u.frost.code] ++ be16 (signedWord u.margin) ++ [flagByte u.iced]

def Fpb.bytes (ta : Int) (f : Fpb) : List Byte :=
  be16 (wordOf f.cu) ++ be16 (signedWord f.fp) ++ be16 (signedWord ta) ++ be16 (signedWord f.ma) ++
    [flagByte f.permitted] ++ be16 (wordOf f.bmax)

def Fpb.unitBytes (f : Fpb) : List Byte := byteOf f.units.length :: padTo 50 (f.units.flatMap UnitFrost.bytes)

/-- The number of entries and items bearing the port's mark, while its fence is PENDING (R126). -/
def State.markedByte (s : State) (p : PortId) (l : LoopId) : Byte :=
  if ((s.fences.get p).get l).isPending then byteOf (s.markedCount l p) else absentByte

def State.outputBytes (s : State) (p : PortId) (l : LoopId) : List Byte :=
  [byteOf (s.buffer.get l).length, byteOf (s.settle.get l).length, ((s.fences.get p).get l).code, s.markedByte p l]

def State.segmentBytes (s : State) (l : LoopId) : List Byte :=
  be16 (s.fsc.get l).passNumber ++ [flagByte (s.hasFault (.passOverrun l))]

/-- The reply to READ STATUS of a loop from a port, 115 bytes (R157, 12.4). -/
def State.statusReply (s : State) (p : PortId) (l : LoopId) : List Byte :=
  [doneByte, byteOf l.number] ++ (s.merge.get l).bytes ++ slotBytes s.now ((s.slots.get p).get l) ++
    (s.alloc.get l).demandBytes ++ lastRunBytes (s.alloc.get l).lastRun ++ (s.alloc.get l).orderBytes ++
    (s.fpb.get l).bytes s.ta ++ (s.fpb.get l).unitBytes ++ s.outputBytes p l ++ s.segmentBytes l

/-! ### READ FAULTS, READ OVERRIDES and the access map -/

/-- The 22 flags, bit 0 of the first byte upward (12.4). -/
def faultBytes (f : BitVec 24) : List Byte :=
  [f.setWidth 8, (f >>> 8).setWidth 8, (f >>> 16).setWidth 8]

/-- The status of an override record (R134). -/
inductive OverrideStatus where
  | applied | limited | suppressed
  deriving DecidableEq, Repr

def OverrideStatus.code : OverrideStatus → Byte
  | .applied => 0#8
  | .limited => 1#8
  | .suppressed => 2#8

/-- The status of a FAN override on a unit in a frost state (R134). -/
def fanStatus (frost : FrostState) (iced : Bool) (cap value : Nat) : OverrideStatus :=
  if 0 < value ∧ (frost = .protect ∨ iced = true) then .suppressed
  else if frost = .guard ∧ iced = false ∧ cap < value then .limited
  else .applied

/-- The status of a VALVE override on a unit (R134). -/
def valveStatus (frost : FrostState) (permitted : Bool) (value : ValveCmd) : OverrideStatus :=
  match value with
  | .toOpen => .applied
  | .toClose => if frost = .normal ∧ permitted = true then .applied else .suppressed

/-- The status of a BYPASS override (R134). -/
def bypassStatus (bmax value : Nat) : OverrideStatus :=
  if value ≤ bmax then .applied else if bmax = 0 then .suppressed else .limited

/-- The status of a record, derived when it is read (R134). -/
def State.overrideStatus (s : State) (r : OverrideRecord) : OverrideStatus :=
  match r.value with
  | .fan n =>
    match s.unit? r.seg r.station with
    | some u => fanStatus u.frost u.iced (s.settings.loop.get r.seg).guardCap n
    | none => .applied
  | .valve v =>
    match s.unit? r.seg r.station with
    | some u => valveStatus u.frost (s.fpb.get r.seg).permitted v
    | none => .applied
  | .bypass n => bypassStatus (s.fpb.get r.seg).bmax n

/-- One record of the reply to READ OVERRIDES (R135, 12.4). -/
def State.overrideBytes (s : State) (r : OverrideRecord) : List Byte :=
  [byteOf r.index, byteOf r.seg.number, byteOf r.station, byteOf r.value.output.number] ++ be16 r.value.word ++
    [byteOf r.owner.number] ++ be16 (wordOf r.hold) ++ be16 (wordOf (secondsLeft s.now r.deadline)) ++
    [r.delivery.code, (s.overrideStatus r).code] ++
    valueField ((s.commands r.seg r.station).writtenValue r.value.output)

def State.overridesReply (s : State) : List Byte :=
  [doneByte, byteOf s.overrides.length] ++ s.overrides.flatMap s.overrideBytes

def ownerByte : Option PortId → Byte
  | some p => byteOf p.number
  | none => 0xFF#8

/-- The fields of an entry in the reply to a probe (12.4). The bits of the rights byte that 12.3 names nothing for are 0
(DESIGN CHOICE: log entry 38). -/
def State.entryBytes (s : State) (e : MapEntry) : List Byte :=
  [1#8, byteOf e.index, ownerByte e.owner] ++ be16 (wordOf e.logical) ++ [byteOf (s.sizeOf e)] ++
    be16 (wordOf e.physical) ++ [flagByte e.readRight ||| (flagByte e.overrideRight <<< 1)]

/-- A probe that finds no entry: found 0, and every further field of the layout carries none (R170, log entry 9). -/
def noEntryBytes (fields : Nat) : List Byte := 0#8 :: List.replicate fields absentByte

end Sys2Proof.Machine
end

