-- ==== Sys2Proof/Machine/Segment.lean ====
section
/-! DEFINITION. The Field Segment Controllers (chapter 2) and what their transactions do to the image (chapter 1): the
calls and their answers, the quality counter, passes, discovery, read-throughs, arbitration, and the restart of a
segment. -/

namespace Sys2Proof.Machine

/-! ### Calls and answers (R20 to R26, 12.5) -/

/-- The field calls (12.5). -/
inductive FieldCall where
  | identify (station : Nat)
  | read (station : Nat) (first : Nat)
  | write (station : Nat) (fields : Fields)
  | poll
  deriving DecidableEq, Repr

/-- The bytes of a field that is present; an absent field takes none (12.5). -/
def presentBytes {α : Type} (f : α → List Byte) : Option α → List Byte
  | some v => f v
  | none => []

/-- The arguments of a WRITE: the presence byte, then the fields present (12.5). The presence bits 12.5 names nothing for are
0 (DESIGN CHOICE: log entry 38). -/
def Fields.callBytes (f : Fields) : List Byte :=
  (flagByte f.fan.isSome ||| (flagByte f.valve.isSome <<< 1) ||| (flagByte f.bypass.isSome <<< 2)) ::
    (presentBytes (fun v => be16 (wordOf v)) f.fan ++ presentBytes (fun v => [byteOf (ValveCmd.code v)]) f.valve ++
      presentBytes (fun v => be16 (wordOf v)) f.bypass)

/-- The bytes of a call (12.5). -/
def FieldCall.bytes : FieldCall → List Byte
  | .identify a => withCheck [byteOf a, 0x01#8]
  | .read a q => withCheck [byteOf a, 0x02#8, byteOf q]
  | .write a f => withCheck (byteOf a :: 0x03#8 :: f.callBytes)
  | .poll => withCheck [0x00#8, 0x04#8]

/-- The values the entry IN FLIGHT at the head of the buffer carries. -/
def State.flyingFields (s : State) (g : SegId) : Fields :=
  match s.buffer.get g with
  | e :: _ =>
    match e.state with
    | .inFlight sent => sent
    | .waiting => Fields.none
  | [] => Fields.none

/-- The call a transaction makes, at every attempt the same (R22, R25). -/
def State.callOf (s : State) (g : SegId) : Job → FieldCall
  | .discovery a => .identify a
  | .probe a => .identify a
  | .read j => .read j.station j.next
  | .write a => .write a (s.flyingFields g)
  | .poll => .poll

/-- The call on the segment at this moment, if a transaction is in flight. -/
def State.callOnSegment (s : State) (g : SegId) : Option FieldCall :=
  match (s.fsc.get g).activity with
  | .busy t => some (s.callOf g t.job)
  | _ => none

/-- A response whose check is right and that carries the called station's address (R21): its accept and ready flags and
its data. -/
structure Heard where
  accept : Bool
  ready : Bool
  data : List Byte
  deriving DecidableEq, Repr

/-- The response in some characters, none when it fails its check or carries another address (R21). All that was heard in
the window is taken as one response, so that characters before or after a right one fail it (DESIGN CHOICE: log entry
34). -/
def hear (station : Nat) (chars : List Byte) : Option Heard :=
  match checked chars with
  | some (a :: flags :: data) =>
    if a.toNat = station then some { accept := flags.getLsbD 0, ready := flags.getLsbD 1, data := data } else none
  | _ => none

/-- The kind code of an IDENTIFY answer, when the content fits (R23). -/
def identifyContent (h : Heard) : Option Byte :=
  match h.data with
  | [k] => some k
  | _ => none

/-- The points of a READ answer from point p, when the content fits (R24). -/
def readContent (p : Nat) (h : Heard) : Option (List Int) :=
  match h.data with
  | k :: rest =>
    match pointValues rest with
    | some vs =>
      if vs.length = k.toNat ∧ vs.length ≤ 8 - p ∧ (h.ready = true → vs.length = 8 - p) then some vs else none
    | none => none
  | [] => none

/-! ### Starting a transaction (R10, R22) -/

/-- The retries allowed by the link state as the transaction starts (R10). -/
def retriesFor : LinkState → Nat
  | .active => 1
  | .weak => 2
  | .lost => 0

def State.setActivity (s : State) (g : SegId) (a : Activity) : State := s.modFsc g fun f => { f with activity := a }

def State.startJob (s : State) (g : SegId) (job : Job) (retries time : Nat) : State :=
  s.setActivity g (.busy { job := job, retries := retries, ends := s.now + time })

/-- The next attempt follows at once: the same call, one retry fewer (R22). -/
def State.retry (s : State) (g : SegId) (t : Transaction) : State :=
  s.startJob g t.job (t.retries - 1) Config.responseWindow

/-! ### Read-through replies (R37) -/

/-- The reply of an entry that leaves: the image's point, or the output's values, as they stand (R37, R126). -/
def State.replyReadThrough (s : State) (g : SegId) (e : ReadThrough) : State :=
  s.reply e.port (s.pointReply g e.station e.target e.address)

/-- Entries leave the queue and are answered. -/
def State.leaveReadThroughs (s : State) (g : SegId) (leaves : ReadThrough → Bool) : State :=
  let going := (s.fsc.get g).readThroughs.filter leaves
  let s1 := s.modFsc g fun f => { f with readThroughs := f.readThroughs.filter fun e => !(leaves e) }
  going.foldl (fun t e => t.replyReadThrough g e) s1

/-! ### Quality counter and link state (R8, R9) -/

/-- The effects of an entry into LOST (R9, R37, R54, R68, R102, R116, R131). The replies to the station's read-throughs
are formed after its entries are discarded and its last posted values unknown (DESIGN CHOICE: log entry 32). -/
def State.enterLost (s : State) (g : SegId) (a : Nat) : State :=
  let s1 := (s.setFault .stationLost).modStation g a fun st => { st with attention := false }
  let s2 := (s1.discardEntries g a).fpbUnitLost g a
  s2.leaveReadThroughs g fun e => e.station == a

/-- The counter set, with the STATION notice when the link state changes and the effects of an entry into LOST (R9). -/
def State.setCounter (s : State) (g : SegId) (a : Nat) (c : Nat) : State :=
  let before := s.link g a
  let s1 := (s.modStation g a fun st => { st with counter := c }).notifyIf (linkFor c != before) .station
  if linkFor c = .lost ∧ before ≠ .lost then s1.enterLost g a else s1

def State.counter (s : State) (g : SegId) (a : Nat) : Nat :=
  match s.station? g a with
  | some st => st.counter
  | none => 0

/-- A well-formed attempt (R8). -/
def State.countGood (s : State) (g : SegId) (a : Nat) : State := s.setCounter g a (min 15 (s.counter g a + 1))

/-- A failed attempt (R8). -/
def State.countBad (s : State) (g : SegId) (a : Nat) : State := s.setCounter g a (s.counter g a - 2)

/-! ### Kind mismatch (R13) -/

def State.setMismatch (s : State) (g : SegId) (a : Nat) (m : Bool) : State :=
  match s.station? g a with
  | some st =>
    let s1 := (s.modStation g a fun st => { st with mismatch := m }).notifyIf (st.mismatch != m) .station
    s1.setFaultIf m .kindMismatch
  | none => s

/-! ### Passes (R28 to R32) -/

/-- Ageing of one point at a pass start (R5). -/
def Point.age (limit : Nat) (pass : Word) (p : Point) : Point :=
  let q := if p.quality = .good then Quality.held else p.quality
  match q, p.stored with
  | .held, some v => { p with quality := if limit < (pass - v.stamp).toNat then .stale else .held }
  | q, _ => { p with quality := q }

def Station.age (limit : Nat) (pass : Word) (st : Station) : Station :=
  { st with points := st.points.map (Point.age limit pass) }

/-- The pass probes its LOST stations (R11). -/
def probing (pass : Word) : Bool := pass.toNat % Config.probeEvery == 0

/-- A station found at the scan position is due a call (R29). -/
def State.dueCall (s : State) (g : SegId) (a : Nat) : Bool :=
  !(s.isLost g a) || probing (s.fsc.get g).passNumber

/-- The first configured station from the scan position on that is due a call. -/
def State.nextScan (s : State) (g : SegId) : Option Nat :=
  (s.settings.population g).find? fun a => decide ((s.fsc.get g).scanPosition ≤ a) && s.dueCall g a

/-- The steps of a pass start (R28). -/
def State.openPass (s : State) (g : SegId) : State :=
  let pass := (s.fsc.get g).passNumber + 1#16
  let s1 := s.modFsc g fun f =>
    { f with
      passNumber := pass
      passTimer := some (s.now + s.settings.passInterval)
      passRunning := true
      startDue := false
      pollArmed := true
      starvation := 0
      scanPosition := (s.settings.population g).headD 13
      revived := [] }
  s1.modImage g fun sts => sts.map (Station.age s.settings.holdLimit pass)

/-- The end of pass: the loop's allocation run, then the posts of WAITING overrides (R30, R90, R131). -/
def State.closePass (s : State) (g : SegId) : State :=
  ((s.modFsc g fun f => { f with passRunning := false }).allocationRun g).deliverWaiting g

/-- A pass starts; with no station due a call it ends at once (R30). -/
def State.startPass (s : State) (g : SegId) : State :=
  let s1 := s.openPass g
  if (s1.nextScan g).isSome then s1 else s1.closePass g

/-- A pass ends, and the due pass starts immediately after its end of pass (R31). -/
def State.endPass (s : State) (g : SegId) : State :=
  let due := (s.fsc.get g).startDue
  let s1 := s.closePass g
  if due then s1.startPass g else s1

/-- A station's scan call has ended: the scan position moves on, and the last one ends the pass (R29, R30). -/
def State.dealtWith (s : State) (g : SegId) (a : Nat) : State :=
  match (s.settings.population g).find? fun b => decide (a < b) with
  | some b => s.modFsc g fun f => { f with scanPosition := b }
  | none => (s.modFsc g fun f => { f with scanPosition := 13 }).endPass g

/-! ### Discovery (R35, R12) -/

/-- The identification of one station: an IDENTIFY with up to two retries. -/
def State.identify (s : State) (g : SegId) (a : Nat) : State := s.startJob g (.discovery a) 2 Config.responseWindow

/-- Discovery goes on with the first configured address above one already concluded, or ends with the first pass. -/
def State.discoverFrom (s : State) (g : SegId) (above : Nat) : State :=
  match (s.settings.population g).find? fun b => decide (above < b) with
  | some b => s.identify g b
  | none => (s.setActivity g .free).startPass g

def State.beginDiscovery (s : State) (g : SegId) : State := s.discoverFrom g 0

/-- A station's discovery concludes ACTIVE or LOST (R12): the counter is set outright, the STATION notice is set, and a
conclusion of LOST has the effects of an entry into LOST. -/
def State.conclude (s : State) (g : SegId) (a : Nat) (found : Bool) : State :=
  let s1 := (s.modStation g a fun st => { st with counter := if found then 12 else 0 }).notifyAll .station
  (if found then s1 else s1.enterLost g a).discoverFrom g a

/-! ### READ responses (R3, R4, R6, R24, R33, R34) -/

/-- A value brought into the stored range of its point (R3). -/
def bringInto (kind : StationKind) (q : Nat) (v : Int) : Int :=
  let ends := fun lo hi => clamp lo hi v
  let orZero := if 0 ≤ v ∧ v ≤ 32767 then v else 0
  let mode := if v = 0 then (0 : Int) else 1
  match kind, q with
  | .unit, 0 => ends (-600) 800
  | .unit, 1 => ends (-600) 800
  | .unit, 2 => ends 0 1000
  | .unit, 3 => if 0 ≤ v ∧ v ≤ 3 then v else 3
  | .unit, 4 => ends 0 1000
  | .unit, 5 => ends 0 8
  | .loop, 0 => ends (-600) 800
  | .loop, 1 => ends (-600) 800
  | .loop, 2 => orZero
  | .loop, 3 => ends 0 600
  | .loop, 4 => ends 0 1000
  | .loop, 5 => ends 0 1000
  | .ambient, 0 => ends (-600) 800
  | .ambient, 1 => ends (-600) 800
  | .ambient, 2 => ends 0 1000
  | .ambient, 3 => orZero
  | .ambient, 4 => orZero
  | .ambient, 5 => if v = 0 then 0 else 1
  | _, 6 => mode
  | _, _ => v % 8

/-- One delivered value: stored GOOD, or, for a no reading, the point STALE with what it held (R3, R4). -/
def Point.take (kind : StationKind) (q : Nat) (stamp : Word) (v : Int) (p : Point) : Point :=
  if v = Config.noReading then { p with quality := .stale }
  else { stored := some { value := bringInto kind q v, stamp := stamp }, quality := .good }

/-- The delivered values stored from a point on. -/
def Station.takeFrom (stamp : Word) : Nat → List Int → Station → Station
  | _, [], st => st
  | q, v :: vs, st =>
    Station.takeFrom stamp (q + 1) vs { st with points := st.points.set q ((st.point q).take st.kind q stamp v) }

/-- The points delivered with a value. -/
def valuedFrom : Nat → List Int → List Nat
  | _, [] => []
  | q, v :: vs => if v = Config.noReading then valuedFrom (q + 1) vs else q :: valuedFrom (q + 1) vs

/-- The mode follows a stored point 6 (R14). -/
def State.modeFromPoint (s : State) (g : SegId) (a : Nat) (valued : List Nat) : State :=
  if valued.contains 6 then s.setMode g a (if s.storedValue g a 6 = 0 then .auto else .inLocal) else s

/-- A scan READ of a unit that delivers point 2 with a value brings the shortfall comparison (R67). -/
def State.shortfallFrom (s : State) (g : SegId) (j : ReadJob) (valued : List Nat) : State :=
  if j.purpose = .scan ∧ kindOf j.station = .unit ∧ valued.contains 2 = true then
    s.shortfall g j.station (s.storedValue g j.station 2)
  else s

/-- A READ from point 0 answered with accept = 1 clears attention pending (R16). -/
def State.clearAttention (s : State) (g : SegId) (j : ReadJob) : State :=
  if j.next = 0 then s.modStation g j.station fun st => { st with attention := false } else s

/-- A READ answered with accept = 1 reaches every reader of its points, after all of them are in place (R6): the counter,
attention pending, the mode, the Freeze Protection Block, the shortfall comparison and the settle check. -/
def State.readPoints (s : State) (g : SegId) (j : ReadJob) (vs : List Int) : State :=
  let a := j.station
  let valued := valuedFrom j.next vs
  let s1 := s.modStation g a (Station.takeFrom (s.fsc.get g).passNumber j.next vs)
  let s2 := ((s1.countGood g a).clearAttention g j).modeFromPoint g a valued
  let s3 := s2.fpbEvent (readEvent g a j.next (j.next + vs.length))
  (s3.shortfallFrom g j valued).settleCheck g a (j.valued ++ valued)

/-- A READ delivers the entry's point, having begun after its arrival and at or below its point (R37). -/
def ReadJob.served (j : ReadJob) (e : ReadThrough) : Bool :=
  j.serves.get e.port && e.station == j.station && decide (j.first ≤ e.target.number) && decide (e.target.number < j.next)

/-- A READ has ended, with its continuation: the entries it served, and the one it was made for, leave; a scan READ's
station is dealt with (R29, R37). -/
def State.endRead (s : State) (g : SegId) (j : ReadJob) : State :=
  let s1 := s.leaveReadThroughs g fun e => j.served e || j.purpose == .readThrough e.port
  match j.purpose with
  | .scan => s1.dealtWith g j.station
  | .event => s1
  | .readThrough _ => s1

/-- After a READ response the segment is free, or in the ready pause when the response carried ready = 0 (R22). -/
def State.afterRead (s : State) (g : SegId) (ready : Bool) : State :=
  s.setActivity g (if ready then .free else .pause (s.now + Config.readyPause))

/-- A READ answered GOOD: its points, then its continuation or its end (R33, R34). -/
def State.readGood (s : State) (g : SegId) (j : ReadJob) (ready : Bool) (vs : List Int) : State :=
  let s1 := (s.readPoints g j vs).afterRead g ready
  let j1 := { j with next := j.next + vs.length, valued := j.valued ++ valuedFrom j.next vs }
  if ready = false ∧ j1.next < 8 ∧ j.continues = false then
    s1.modFsc g fun f => { f with owed := some { j1 with continues := true } }
  else s1.endRead g j1

/-! ### The ends of an attempt (R21, R22) -/

/-- The probe of a LOST station has ended (R11). -/
def State.endProbe (s : State) (g : SegId) (a : Nat) : State := (s.setActivity g .free).dealtWith g a

/-- A TIMEOUT or CORRUPT attempt: the retry, or the end of the transaction (R10, R22, R34, R115). -/
def State.attemptFailed (s : State) (g : SegId) (t : Transaction) : State :=
  match t.job with
  | .discovery a => if 0 < t.retries then s.retry g t else s.conclude g a false
  | .probe a => s.endProbe g a
  | .read j =>
    let s1 := s.countBad g j.station
    if 0 < t.retries ∧ s1.isLost g j.station = false then s1.retry g t
    else (s1.setActivity g .free).endRead g j
  | .write a =>
    let s1 := s.countBad g a
    if s1.isLost g a then s1.setActivity g .free
    else if 0 < t.retries then s1.retry g t
    else (s1.writeReturn g).setActivity g .free
  | .poll => s

/-- An IDENTIFY answered in discovery (R12, R13). -/
def State.discoveryAnswer (s : State) (g : SegId) (a : Nat) (kind : Byte) : State :=
  let fits := kind == (kindOf a).code
  (s.setMismatch g a (!fits)).conclude g a fits

/-- A probe has brought the station back: it gets no READ in the pass that runs (R11). -/
def State.revive (s : State) (g : SegId) (a : Nat) : State := s.modFsc g fun f => { f with revived := f.revived ++ [a] }

/-- An IDENTIFY probe answered (R11, R13). -/
def State.probeAnswer (s : State) (g : SegId) (a : Nat) (kind : Byte) : State :=
  let fits := kind == (kindOf a).code
  let s1 := s.setMismatch g a (!fits)
  (if fits then (s1.setCounter g a 4).revive g a else s1).endProbe g a

/-- A response judged (R21) and its effects carried out. -/
def State.answer (s : State) (g : SegId) (t : Transaction) (chars : List Byte) : State :=
  match t.job with
  | .discovery a =>
    match (hear a chars).bind identifyContent with
    | some k => s.discoveryAnswer g a k
    | none => s.attemptFailed g t
  | .probe a =>
    match (hear a chars).bind identifyContent with
    | some k => s.probeAnswer g a k
    | none => s.attemptFailed g t
  | .read j =>
    match hear j.station chars with
    | some h =>
      match readContent j.next h with
      | some vs =>
        if h.accept then s.readGood g j h.ready vs
        else ((s.countGood g j.station).afterRead g h.ready).endRead g j
      | none => s.attemptFailed g t
    | none => s.attemptFailed g t
  | .write a =>
    match hear a chars with
    | some h =>
      if h.data.isEmpty then
        let s1 := (s.countGood g a).setActivity g .free
        if h.accept then s1.writeGood g a else s1.writeRefused g a
      else s.attemptFailed g t
    | none => s.attemptFailed g t
  | .poll => s

/-! ### Arbitration (R41, R42) -/

/-- What the controller may choose next (R41). -/
inductive Choice where
  | continuation (j : ReadJob)
  | poll
  | event (station : Nat)
  | write (station : Nat)
  | readThrough (e : ReadThrough)
  | scan (station : Nat)
  | endOfPass
  | nothing
  deriving DecidableEq, Repr

/-- Place 6: the scan call at the scan position, past stations that are due none; with none left the pass ends (R29). -/
def State.chooseScan (s : State) (g : SegId) : Choice :=
  if (s.fsc.get g).passRunning then
    match s.nextScan g with
    | some a => .scan a
    | none => .endOfPass
  else .nothing

/-- The station may get a READ: not in the pass of the probe that brought it back (R11), which is taken to last until its
end of pass (DESIGN CHOICE: log entry 28). -/
def State.mayRead (s : State) (g : SegId) (a : Nat) : Bool :=
  !((s.fsc.get g).passRunning && (s.fsc.get g).revived.contains a)

/-- Place 5 and below: the oldest read-through whose station may get a READ. That one whose station may not is passed over,
and keeps its place, is the model's (DESIGN CHOICE: log entry 28). -/
def State.chooseReadThrough (s : State) (g : SegId) : Choice :=
  match (s.fsc.get g).readThroughs.find? fun e => s.mayRead g e.station with
  | some e => .readThrough e
  | none => s.chooseScan g

/-- Place 4 and below: the head of the buffer, unless the settle list is full (R120). -/
def State.chooseWrite (s : State) (g : SegId) : Choice :=
  match s.buffer.get g with
  | e :: _ => if (s.settle.get g).length < Config.settleRoom then .write e.station else s.chooseReadThrough g
  | [] => s.chooseReadThrough g

/-- Place 3 and below: the event READ of the lowest-addressed station with attention pending that may get a READ. That one
that may not is passed over is the model's (DESIGN CHOICE: log entry 28). -/
def State.chooseEvent (s : State) (g : SegId) : Choice :=
  match (s.image.get g).find? fun st => st.attention && s.mayRead g st.addr with
  | some st => .event st.addr
  | none => s.chooseWrite g

/-- Place 2 and below. -/
def State.choosePoll (s : State) (g : SegId) : Choice :=
  let f := s.fsc.get g
  if f.pollArmed && f.lineAsserted then .poll else s.chooseEvent g

/-- The starvation guard: the scan call goes before places 2 to 5 (R42). -/
def State.guardActs (s : State) (g : SegId) : Bool :=
  let f := s.fsc.get g
  decide (Config.starvationLimit ≤ f.starvation) && f.passRunning && (s.nextScan g).isSome

/-- The controller's choice at a free moment (R41, R42). -/
def State.choose (s : State) (g : SegId) : Choice :=
  match (s.fsc.get g).owed with
  | some j => .continuation j
  | none => if s.guardActs g then s.chooseScan g else s.choosePoll g

/-- The ports whose entries stand for this station at or above a point as a READ begins (R37, R38). -/
def State.servable (s : State) (g : SegId) (a first : Nat) : PortSet :=
  (PerPort.const ()).map fun p _ =>
    (s.fsc.get g).readThroughs.any fun e => e.port == p && e.station == a && decide (first ≤ e.target.number)

def State.startRead (s : State) (g : SegId) (purpose : ReadPurpose) (a first : Nat) : State :=
  s.startJob g
    (.read { purpose := purpose, station := a, first := first, next := first, continues := false,
             serves := s.servable g a first, valued := [] })
    (retriesFor (s.link g a)) Config.responseWindow

/-- The starvation count goes up by one (R42). -/
def State.starve (s : State) (g : SegId) : State := s.modFsc g fun f => { f with starvation := f.starvation + 1 }

/-- The chosen transaction starts (R22, R38 to R42, R112). -/
def State.start (s : State) (g : SegId) : Choice → State
  | .continuation j =>
    (s.modFsc g fun f => { f with owed := none }).startJob g (.read j) (retriesFor (s.link g j.station))
      Config.responseWindow
  | .poll => ((s.modFsc g fun f => { f with pollArmed := false }).starve g).startJob g .poll 0 Config.pollTime
  | .event a => (s.starve g).startRead g .event a 0
  | .write a => ((s.starve g).flyHead g).startJob g (.write a) (retriesFor (s.link g a)) Config.responseWindow
  | .readThrough e => (s.starve g).startRead g (.readThrough e.port) e.station e.target.number
  | .scan a =>
    let s1 := s.modFsc g fun f => { f with starvation := 0, scanPosition := a }
    if s.isLost g a then s1.startJob g (.probe a) 0 Config.responseWindow else s1.startRead g .scan a 0
  | .endOfPass => s
  | .nothing => s

/-- The segment chooses for as long as it is free. A pass whose remaining stations are due no call ends, and the choice
is made again at once; it cannot end a second pass, since a pass that starts with no station due a call ends at its
start. -/
def State.arbitrate (s : State) (g : SegId) : State :=
  if s.phase = .running ∧ (s.fsc.get g).activity = .free then
    match s.choose g with
    | .endOfPass =>
      let s1 := s.endPass g
      s1.start g (s1.choose g)
    | c => s.start g c
  else s

/-! ### Restart of a segment (R43, R19, R165) -/

/-- What the controller is left with: an attempt in flight is abandoned and its window waited out (R43). -/
def abandoned : Activity → Activity
  | .busy t => .quiet t.ends
  | .quiet e => .quiet e
  | .pause _ => .free
  | .free => .free

/-- The controller of a restarted segment (R43). -/
def State.fscRestart (s : State) (g : SegId) : State :=
  s.modFsc g fun f =>
    { f with
      activity := abandoned f.activity
      passRunning := false
      startDue := false
      passNumber := 0#16
      passTimer := none
      scanPosition := 0
      revived := []
      readThroughs := []
      owed := none
      pollArmed := false
      starvation := 0 }

/-- The restart of a segment by a changed population or mask, on every block (R165). The settings are already the new
ones. -/
def State.restartSegment (s : State) (g : SegId) (populationChanged : Bool) : State :=
  let standing := (s.fsc.get g).readThroughs
  let s1 := (s.fscRestart g).modImage g fun _ => (s.settings.population g).map Station.fresh
  let s2 := (s1.allocRestart g populationChanged).outputRestart g
  let s3 := (s2.overridesRestart g).fpbRestart g
  let s4 := standing.foldl (fun t e => t.replyReadThrough g e) s3
  if (s4.fsc.get g).activity = .free then s4.beginDiscovery g else s4

end Sys2Proof.Machine
end

