-- ==== Sys2Proof/Machine/StartUpCmds.lean ====
section
/-! DEFINITION. POWER_ON, RESET_PIN and SETTINGS_LOAD_END: the start-up of the part (R160 to R162). -/

namespace Sys2Proof.Machine

/-- The levels of the attention lines, which are inputs. -/
def State.lines (s : State) : PerSeg Bool := s.fsc.map fun _ f => f.lineAsserted

/-- A start-up begins: everything the ports held is dropped, a running save is abandoned, and the settings load runs
(R160, R162, R167). A frame that a port is in the middle of sending is cut (DESIGN CHOICE: log entry 30). -/
def State.beginStartUp (s : State) : State := State.fresh Settings.default s.now s.pending s.lines

/-- An interval in hours as a timer's end, none for an interval of 0 (R107). -/
def rotationEnd (now hours : Nat) : Option Nat := if hours = 0 then none else some (now + hours * 3600000)

/-- The icing-clear timer's end (R70). -/
def icingEnd (now minutes : Nat) : Option Nat := some (now + minutes * 60000)

/-- The timers that start with the part (R70, R107). -/
def State.startTimers (s : State) : State :=
  { s with
    icingTimer := icingEnd s.now s.settings.icingInterval
    alloc := s.alloc.map fun l al => { al with rotation := rotationEnd s.now (s.settings.loop.get l).rotation } }

/-- The part runs on some settings; CONFIG DEFAULTED is set without a notice, since the notice bits start clear
(R160 to R162). -/
def State.runWith (s : State) (st : Settings) (defaulted : Bool) : State :=
  let s1 := ({ State.fresh st s.now s.pending s.lines with phase := .running }).startTimers
  if defaulted then s1.setFaults FaultFlag.configDefaulted.mask else s1

/-- Every block has its start-up state, and each segment begins its discovery (R162, steps 1 to 3). -/
def State.startUp (s : State) (st : Settings) (defaulted : Bool) : State :=
  let s1 := ((s.runWith st defaulted).beginDiscovery .fs0).beginDiscovery .fs1
  ((s1.arbitrate .fs0).arbitrate .fs1).kickPorts

/-- POWER_ON (R162). -/
def execPowerOn (s : State) : Host.Outcome State Fault Refusal := .next s.beginStartUp

/-- RESET_PIN (R162, R167): a save that runs is abandoned without SAVE FAILED. -/
def execResetPin (s : State) : Host.Outcome State Fault Refusal := .next s.beginStartUp

/-- SETTINGS_LOAD_END (R161): with no load running there is none to end. -/
def execSettingsLoadEnd (image : Option (List Byte)) (s : State) : Host.Outcome State Fault Refusal :=
  match s.phase with
  | .loading => .next (s.startUp (loadSettings image).1 (loadSettings image).2)
  | .running => .next s

end Sys2Proof.Machine
end

