-- ==== Sys2Proof/Machine/PortCmds.lean ====
section
/-! DEFINITION. The events of a port's own line: TAKE_FRAME, FRAME_GAP_TIMEOUT, TRANSMITTER_FRAME_DONE and
NOTICE_SPACING_EXPIRY, and the execution of a telegram whose kind names none. -/

namespace Sys2Proof.Machine

/-- TAKE_FRAME (R152, R154): the receiver takes the characters heard. Before the settings are loaded it takes none
(R160). -/
def execTakeFrame (p : PortId) (chars : List Byte) (s : State) : Host.Outcome State Fault Refusal :=
  match s.phase with
  | .running => .next ((s.receive p chars).kickPorts)
  | .loading => .next s

/-- FRAME_GAP_TIMEOUT (R152): the frame being received is discarded. -/
def execFrameGapTimeout (p : PortId) (s : State) : Host.Outcome State Fault Refusal :=
  match (s.ports.get p).receiving with
  | some _ => .next (((s.receiveInto p none).setFault (.frameError p)).kickPorts)
  | none => .next s

/-- The kind codes that name a telegram (12.3). -/
def namedKinds : List Byte :=
  [0x01#8, 0x02#8, 0x03#8, 0x04#8, 0x05#8, 0x06#8, 0x10#8, 0x11#8, 0x12#8, 0x18#8, 0x19#8, 0x20#8, 0x21#8, 0x22#8,
   0x23#8, 0x24#8, 0x28#8, 0x30#8, 0x31#8, 0x32#8]

/-- UNKNOWN_KIND (R153, R170): a kind code that names no telegram is answered REFUSED UNKNOWN KIND. -/
def execUnknownKind (p : PortId) (s : State) : Host.Outcome State Fault Refusal :=
  match s.headTelegram p with
  | some t => if namedKinds.contains t.kind then .next s else .next ((s.refuse p .unknownKind).kickPorts)
  | none => .next s

/-- What a frame that has left its port brings: the start-up of a RESTART (R167), or a line rate that takes effect when
the target's transmitter is next between frames (R151). Of two written rates that wait for the same frame of the target to
end, the one whose reply left last holds (DESIGN CHOICE: log entry 37). -/
def State.frameLeft (s : State) : FrameEffect → State
  | .none => s
  | .restart => s.beginStartUp
  | .lineRate target rate => s.modPort target fun port => { port with newRate := some rate }

/-- TRANSMITTER_FRAME_DONE (R156): the transmitter ends its frame and starts the next that is ready. -/
def execTransmitterFrameDone (p : PortId) (s : State) : Host.Outcome State Fault Refusal :=
  match (s.ports.get p).sending with
  | some f => .next (((s.modPort p fun port => { port with sending := none }).frameLeft f.effect).kickPorts)
  | none => .next s

/-- NOTICE_SPACING_EXPIRY (R158). -/
def execNoticeSpacingExpiry (p : PortId) (s : State) : Host.Outcome State Fault Refusal :=
  match (s.ports.get p).spacing with
  | some t => .next (((s.advanceTo t).modPort p fun port => { port with spacing := none }).kickPorts)
  | none => .next s

end Sys2Proof.Machine
end

