-- ==== Sys2Proof/Machine/ReadCmds.lean ====
section
/-! DEFINITION. The telegrams that read, and MARK STALE: READ POINT, READ STATION, READ STATUS, READ FAULTS, READ
OVERRIDES, READ SETTING. -/

namespace Sys2Proof.Machine

/-- The point's quality asks for a read-through (R36). -/
def Quality.asksRead : Quality → Bool
  | .good => false
  | .held => false
  | .stale => true
  | .none => true

/-- READ POINT hands the read to the segment controller (R36): never for a LOST station; with fresh option YES for every
other; with NO only for a measurement point that is STALE or NONE. -/
def State.readsThrough (s : State) (r : Resolved) (fresh : Bool) : Bool :=
  !(s.isLost r.seg r.station) &&
    (fresh ||
      match r.target with
      | .point q => (s.point r.seg r.station q).quality.asksRead
      | .output _ => false)

/-- A read-through entry joins the segment's queue (R36). -/
def State.placeReadThrough (s : State) (p : PortId) (r : Resolved) : State :=
  s.modFsc r.seg fun f =>
    { f with
      readThroughs := f.readThroughs ++
        [{ port := p, station := r.station, target := r.target, address := r.direct, arrived := s.now }] }

/-- A READ POINT of a resolved address: a read-through, or an answer from the image (R36, R141). -/
def State.readResolved (s : State) (p : PortId) (r : Resolved) (fresh : Bool) : State :=
  if s.readsThrough r fresh then (s.placeReadThrough p r).arbitrate r.seg
  else s.reply p (s.pointReply r.seg r.station r.target r.direct)

/-- The reply to a telegram whose address did not resolve (R141, R142). -/
def State.unresolved (s : State) (p : PortId) : Resolution → State
  | .found _ => s
  | .refused c => s.refuse p c
  | .miss w => s.refuseMiss p w

def State.readPoint (s : State) (p : PortId) (t : Telegram) : State :=
  match bodyReadPoint t.body with
  | some (w, fresh) =>
    match s.resolveRead p w with
    | .found r => s.readResolved p r fresh
    | other => s.unresolved p other
  | none => s.refuse p .malformed

/-- READ_POINT (R36, R141). -/
def execReadPoint (p : PortId) (s : State) : Host.Outcome State Fault Refusal :=
  .next (s.execTelegram p 0x01#8 fun t s => s.readPoint p t)

/-- A segment code and a station address 1 to 12 (R17). -/
def stationBody (body : List Byte) : Option (SegId × Nat) :=
  match body11 body with
  | some (g, a) =>
    match SegId.ofNumber g with
    | some seg => if 1 ≤ a ∧ a ≤ 12 then some (seg, a) else none
    | none => none
  | none => none

def State.readStation (s : State) (p : PortId) (t : Telegram) : State :=
  match stationBody t.body with
  | some (g, a) =>
    match s.station? g a with
    | some st => s.reply p (st.reply g)
    | none => s.refuse p .noPoint
  | none => s.refuse p .malformed

/-- READ_STATION (R17). -/
def execReadStation (p : PortId) (s : State) : Host.Outcome State Fault Refusal :=
  .next (s.execTelegram p 0x02#8 fun t s => s.readStation p t)

/-- A segment or loop code alone in a body. -/
def segBody (body : List Byte) : Option SegId := (body1 body).bind SegId.ofNumber

def State.readStatus (s : State) (p : PortId) (t : Telegram) : State :=
  match segBody t.body with
  | some l => s.reply p (s.statusReply p l)
  | none => s.refuse p .malformed

/-- READ_STATUS (R157). -/
def execReadStatus (p : PortId) (s : State) : Host.Outcome State Fault Refusal :=
  .next (s.execTelegram p 0x03#8 fun t s => s.readStatus p t)

def State.readFaults (s : State) (p : PortId) (t : Telegram) : State :=
  if t.body.isEmpty then
    let s1 := s.reply p (doneByte :: faultBytes s.faults)
    if s.cls p = .supervisor then s1.setFaults 0#24 else s1
  else s.refuse p .malformed

/-- READ_FAULTS (R159). -/
def execReadFaults (p : PortId) (s : State) : Host.Outcome State Fault Refusal :=
  .next (s.execTelegram p 0x04#8 fun t s => s.readFaults p t)

def State.readOverrides (s : State) (p : PortId) (t : Telegram) : State :=
  if t.body.isEmpty then s.reply p s.overridesReply else s.refuse p .malformed

/-- READ_OVERRIDES (R135). -/
def execReadOverrides (p : PortId) (s : State) : Host.Outcome State Fault Refusal :=
  .next (s.execTelegram p 0x05#8 fun t s => s.readOverrides p t)

def State.readSetting (s : State) (p : PortId) (t : Telegram) : State :=
  match body11 t.body with
  | some (code, q) =>
    match Item.ofCode code q with
    | some i => s.reply p (doneByte :: byteOf code :: byteOf q :: be16 (s.settings.read i))
    | none => s.refuse p .malformed
  | none => s.refuse p .malformed

/-- READ_SETTING (R163). -/
def execReadSetting (p : PortId) (s : State) : Host.Outcome State Fault Refusal :=
  .next (s.execTelegram p 0x06#8 fun t s => s.readSetting p t)

/-- Every point of a record STALE, with what it holds (R7). -/
def Station.stale (st : Station) : Station := { st with points := st.points.map fun q => { q with quality := .stale } }

def State.markStale (s : State) (p : PortId) (t : Telegram) : State :=
  match body1 t.body with
  | some code =>
    if s.cls p = .supervisor then
      match SegId.ofNumber code with
      | some g => (s.modImage g fun sts => sts.map Station.stale).reply p [doneByte]
      | none => s.refuse p .malformed
    else s.refuse p .rights
  | none => s.refuse p .malformed

/-- MARK_STALE (R7). -/
def execMarkStale (p : PortId) (s : State) : Host.Outcome State Fault Refusal :=
  .next (s.execTelegram p 0x28#8 fun t s => s.markStale p t)

end Sys2Proof.Machine
end

