-- ==== Sys2Proof/Machine/RequestCmds.lean ====
section
/-! DEFINITION. Duty requests (chapter 5) and fences (R121): POST REQUEST, WITHDRAW REQUEST, the expiry of a request, and
FENCE. -/

namespace Sys2Proof.Machine

/-! ### The merge (R84 to R86) -/

/-- The HELD requests of a loop. -/
def State.held (s : State) (l : LoopId) : List Request := PortId.all.filterMap fun p => (s.slots.get p).get l

def lowestCeiling (r : Request) (rs : List Request) : Int := rs.foldl (fun x q => min x q.ceiling) r.ceiling

def highestFloor (r : Request) (rs : List Request) : Int := rs.foldl (fun x q => max x q.floor) r.floor

def lowestTarget (r : Request) (rs : List Request) : Int := rs.foldl (fun x q => min x q.target) r.target

/-- The merge of some HELD requests, or of none, over the loop's fallback values (R84). -/
def mergeOf (fallback : LoopSettings) : List Request → Merge
  | [] => Merge.fallback fallback
  | r :: rs =>
    let tc := lowestCeiling r rs
    let tf := highestFloor r rs
    let floor := if tc < tf then tc else tf
    { target := clamp floor tc (lowestTarget r rs), floor := floor, ceiling := tc, conflict := decide (tc < tf) }

/-- A recomputation of a loop's merge, with the CONFLICT fault of a clash and the MERGE notice of a change (R84 to
R86). -/
def State.recomputeMerge (s : State) (l : LoopId) : State :=
  let m := mergeOf (s.settings.loop.get l) (s.held l)
  ((s.setMerge l m).notifyIf (m != s.merge.get l) .merge).setFaultIf m.conflict .conflict

/-! ### POST REQUEST and WITHDRAW REQUEST -/

/-- A request brought into range (R79); none when its floor is above its ceiling after clamping. -/
def storedRequest (now : Nat) (b : RequestBody) : Option Request :=
  let floor := clamp (-100) 450 b.floor
  let ceiling := clamp (-100) 450 b.ceiling
  let hold := (clamp 10 3600 b.hold).toNat
  if ceiling < floor then none
  else
    some { target := clamp floor ceiling (clamp (-100) 450 b.target), floor := floor, ceiling := ceiling, hold := hold,
           deadline := now + 1000 * hold }

/-- Some value stored differs from the value carried (R79). -/
def Request.clamped (r : Request) (b : RequestBody) : Bool :=
  r.target != b.target || r.floor != b.floor || r.ceiling != b.ceiling || r.hold != b.hold

def outcomeByte (clamped : Bool) : Byte := if clamped then clampedByte else doneByte

/-- The reply to an accepted POST REQUEST: the four values as stored (R80). -/
def Request.reply (r : Request) (b : RequestBody) : List Byte :=
  outcomeByte (r.clamped b) ::
    (be16 (signedWord r.target) ++ be16 (signedWord r.floor) ++ be16 (signedWord r.ceiling) ++ be16 (wordOf r.hold))

def State.postRequest (s : State) (p : PortId) (t : Telegram) : State :=
  match bodyPostRequest t.body with
  | some b =>
    if s.cls p = .observer then s.refuse p .rights
    else
      match SegId.ofNumber b.loop with
      | some l =>
        match storedRequest s.now b with
        | some r => ((s.modSlot p l (some r)).recomputeMerge l).reply p (r.reply b)
        | none => s.refuse p .malformed
      | none => s.refuse p .malformed
  | none => s.refuse p .malformed

/-- POST_REQUEST (R78). -/
def execPostRequest (p : PortId) (s : State) : Host.Outcome State Fault Refusal :=
  .next (s.execTelegram p 0x10#8 fun t s => s.postRequest p t)

/-- A slot emptied; an EMPTY one brings no merge (R81). The merge may set CONFLICT again (R85; DEDUCED: log entry 27). -/
def State.emptySlot (s : State) (p : PortId) (l : LoopId) : State :=
  match (s.slots.get p).get l with
  | some _ => (s.modSlot p l none).recomputeMerge l
  | none => s

def State.withdrawRequest (s : State) (p : PortId) (t : Telegram) : State :=
  match body1 t.body with
  | some code =>
    if s.cls p = .observer then s.refuse p .rights
    else
      match SegId.ofNumber code with
      | some l => (s.emptySlot p l).reply p [doneByte]
      | none => s.refuse p .malformed
  | none => s.refuse p .malformed

/-- WITHDRAW_REQUEST (R81). -/
def execWithdrawRequest (p : PortId) (s : State) : Host.Outcome State Fault Refusal :=
  .next (s.execTelegram p 0x11#8 fun t s => s.withdrawRequest p t)

/-- REQUEST_EXPIRY (R82): the slot's hold has run out. An expiry that finds the slot EMPTY, or posted anew since it was
due, does not happen (R83). -/
def execRequestExpiry (p : PortId) (l : Expiry LoopId) (s : State) : Host.Outcome State Fault Refusal :=
  match (s.slots.get p).get l.what with
  | some r =>
    if s.runOut r.deadline l.moment then
      .next (((((s.advanceTo l.moment).modSlot p l.what none).setFault .requestExpired).recomputeMerge l.what).kickPorts)
    else .next s
  | none => .next s

/-! ### FENCE (R121) -/

/-- The port's mark put on every entry and every item of the segment. -/
def State.markAll (s : State) (p : PortId) (l : LoopId) : State :=
  (s.modBuffer l fun es => es.map fun e => { e with marks := e.marks.set true p }).modSettle l fun items =>
    items.map fun i => { i with marks := i.marks.set true p }

def State.takeFence (s : State) (p : PortId) (l : LoopId) : State :=
  (((s.setFence p l (.pending false)).markAll p l).completeFences l).reply p [doneByte]

def State.fence (s : State) (p : PortId) (t : Telegram) : State :=
  match body1 t.body with
  | some code =>
    if s.cls p = .observer then s.refuse p .rights
    else
      match SegId.ofNumber code with
      | some l => if ((s.fences.get p).get l).isPending then s.refuse p .busy else s.takeFence p l
      | none => s.refuse p .malformed
  | none => s.refuse p .malformed

/-- FENCE (R121). -/
def execFence (p : PortId) (s : State) : Host.Outcome State Fault Refusal :=
  .next (s.execTelegram p 0x12#8 fun t s => s.fence p t)

end Sys2Proof.Machine
end

