-- ==== Sys2Proof/Machine/OverrideCmds.lean ====
section
/-! DEFINITION. Overrides (chapter 8): SET OVERRIDE, RELEASE OVERRIDE and the expiry of a record. -/

namespace Sys2Proof.Machine

/-- The value of SET OVERRIDE for an output, brought into range; none for a VALVE code that is neither OPEN nor CLOSE
(R128, R129). -/
def overrideValue (o : OutputId) (v : Int) : Option OutputValue :=
  match o with
  | .fan => some (.fan (clamp 0 1000 v).toNat)
  | .bypass => some (.bypass (clamp 0 1000 v).toNat)
  | .valve => if v = 0 then some (.valve .toOpen) else if v = 1 then some (.valve .toClose) else none

/-- The number a stored value is, to be compared with the value carried. -/
def OutputValue.number : OutputValue → Int
  | .fan n => n
  | .valve v => ValveCmd.code v
  | .bypass n => n

def clampHold (hold : Nat) : Nat := (clamp 10 3600 hold).toNat

/-- The lowest index no record holds, none when all 16 are in use (R127). -/
def freeIndex (rs : List OverrideRecord) : Option Nat :=
  (List.range Config.overrideRoom).find? fun i => rs.all fun r => r.index != i

/-- A record placed among the others, in ascending index order. -/
def insertRecord (r : OverrideRecord) : List OverrideRecord → List OverrideRecord
  | [] => [r]
  | x :: xs => if r.index < x.index then r :: x :: xs else x :: insertRecord r xs

/-- The record with the output's index replaced. -/
def replaceRecord (r : OverrideRecord) (rs : List OverrideRecord) : List OverrideRecord :=
  rs.map fun x => if x.index = r.index then r else x

/-- The reply to an accepted SET OVERRIDE: the index, the value and hold as stored, and the owner (R129). -/
def OverrideRecord.reply (r : OverrideRecord) (b : OverrideBody) : List Byte :=
  outcomeByte (r.value.number != b.value || r.hold != b.hold) ::
    (byteOf r.index :: (be16 r.value.word ++ be16 (wordOf r.hold) ++ [byteOf r.owner.number]))

/-- The value of a record just set is posted where its station may be posted to (R131). -/
def State.deliverSet (s : State) (r : OverrideRecord) : State :=
  if s.answers r.seg r.station then s.postRecord r else s

/-- The record a SET OVERRIDE of a port leaves at an index (R129, R131). -/
def State.newRecord (s : State) (p : PortId) (r : Resolved) (v : OutputValue) (hold index : Nat) : OverrideRecord :=
  { index := index, seg := r.seg, station := r.station, value := v, owner := p, hold := hold,
    deadline := s.now + 1000 * hold, delivery := if s.answers r.seg r.station then .posted else .waiting }

/-- Another port's record may be displaced: by a SUPERVISOR, from an owner that is none (R130). -/
def State.mayTake (s : State) (p owner : PortId) : Bool :=
  owner == p || (s.cls p == .supervisor && s.cls owner != .supervisor)

/-- The old owner of a displaced record is told (R130). -/
def State.tellDisplaced (s : State) (p owner : PortId) : State :=
  if owner = p then s else s.notify .override owner

/-- A SET OVERRIDE of an output with a value in range (R128, steps 4 and 5; R130, R131). -/
def State.placeOverride (s : State) (p : PortId) (r : Resolved) (v : OutputValue) (b : OverrideBody) : State :=
  match s.override? r.seg r.station v.output with
  | some old =>
    if s.mayTake p old.owner then
      let new := s.newRecord p r v (clampHold b.hold) old.index
      ((((s.setOverrides (replaceRecord new s.overrides)).tellDisplaced p old.owner).deliverSet new).reply p
        (new.reply b)).arbitrate r.seg
    else s.refuse p .busy
  | none =>
    match freeIndex s.overrides with
    | some i =>
      let new := s.newRecord p r v (clampHold b.hold) i
      (((s.setOverrides (insertRecord new s.overrides)).deliverSet new).reply p (new.reply b)).arbitrate r.seg
    | none => s.refuse p .full

def State.setOverride (s : State) (p : PortId) (t : Telegram) : State :=
  match bodySetOverride t.body with
  | some b =>
    match s.resolveOverride p b.address with
    | .found r =>
      match r.target with
      | .output o =>
        match overrideValue o b.value with
        | some v => s.placeOverride p r v b
        | none => s.refuse p .malformed
      | .point _ => s.refuse p .malformed
    | other => s.unresolved p other
  | none => s.refuse p .malformed

/-- SET_OVERRIDE (R128). -/
def execSetOverride (p : PortId) (s : State) : Host.Outcome State Fault Refusal :=
  .next (s.execTelegram p 0x18#8 fun t s => s.setOverride p t)

/-- A record removed, and its output handed back to the allocator (R104, R132). -/
def State.removeRecord (s : State) (r : OverrideRecord) : State :=
  (s.setOverrides (s.overrides.filter fun x => x.index != r.index)).handBack r.seg r.station r.value.output

/-- A RELEASE OVERRIDE of an output (R132). -/
def State.releaseOutput (s : State) (p : PortId) (r : Resolved) (o : OutputId) : State :=
  match s.override? r.seg r.station o with
  | some old =>
    if old.owner = p ∨ s.cls p = .supervisor then
      (((s.removeRecord old).tellDisplaced p old.owner).reply p [doneByte]).arbitrate r.seg
    else s.refuse p .rights
  | none => s.reply p [doneByte]

def State.releaseOverride (s : State) (p : PortId) (t : Telegram) : State :=
  match body2 t.body with
  | some w =>
    match s.resolveOverride p w with
    | .found r =>
      match r.target with
      | .output o => s.releaseOutput p r o
      | .point _ => s.refuse p .malformed
    | other => s.unresolved p other
  | none => s.refuse p .malformed

/-- RELEASE_OVERRIDE (R132). -/
def execReleaseOverride (p : PortId) (s : State) : Host.Outcome State Fault Refusal :=
  .next (s.execTelegram p 0x19#8 fun t s => s.releaseOverride p t)

/-- OVERRIDE_EXPIRY (R133): the record's hold has run out. An expiry that finds no record, or one set since it was due,
does not happen. -/
def execOverrideExpiry (index : Expiry Nat) (s : State) : Host.Outcome State Fault Refusal :=
  match s.overrides.find? fun r => r.index == index.what with
  | some r =>
    if s.runOut r.deadline index.moment then
      .next ((((((s.advanceTo index.moment).removeRecord r).notify .override r.owner)).arbitrate r.seg).kickPorts)
    else .next s
  | none => .next s

end Sys2Proof.Machine
end

