-- ==== Sys2Proof/Machine/MapCmds.lean ====
section
/-! DEFINITION. The map telegrams (9.4): MAP, UNMAP, FLUSH, PROBE BY ADDRESS and PROBE BY INDEX. -/

namespace Sys2Proof.Machine

/-- A map telegram from a port that is not SUPERVISOR is refused RIGHTS, after the port's own checks (9.4, R153). -/
def State.mapTelegram {α : Type} (s : State) (p : PortId) (body : Option α) (act : α → State) : State :=
  match body with
  | some b => if s.cls p = .supervisor then act b else s.refuse p .rights
  | none => s.refuse p .malformed

/-- The fields of MAP are allowed and aligned (R144, step 2). -/
def MapBody.allowed (b : MapBody) : Bool :=
  (ownerOf b.owner).isSome && decide (b.logical < directBase) && decide (directBase ≤ b.physical) &&
    [1, 4, 16, 64].contains b.size && b.logical % b.size == 0 && b.physical % b.size == 0

/-- The new block overlaps the entry's, and their owners clash (R144, step 4). -/
def State.clashes (s : State) (owner : Option PortId) (logical size : Nat) (e : MapEntry) : Bool :=
  (e.owner == owner || e.owner == none || owner == none) &&
    decide (logical < e.logical + s.sizeOf e) && decide (e.logical < logical + size)

def Bank.first : Bank → Nat
  | .low => 0
  | .high => Config.bankRoom

/-- The lowest free index of a bank (R145). -/
def State.freeInBank (s : State) (b : Bank) : Option Nat :=
  ((List.range Config.bankRoom).map fun i => Bank.first b + i).find? fun i => s.accessMap.all fun e => e.index != i

/-- The index a new block of a size takes: in bank L when that has the size and a free index, else in bank H (R145). -/
def State.placeFor (s : State) (size : Nat) : Option Nat :=
  (if s.settings.blockLow = size then s.freeInBank .low else none) <|>
    (if s.settings.blockHigh = size then s.freeInBank .high else none)

/-- An entry placed among the others, in ascending index order. -/
def insertEntry (e : MapEntry) : List MapEntry → List MapEntry
  | [] => [e]
  | x :: xs => if e.index < x.index then e :: x :: xs else x :: insertEntry e xs

def MapBody.entry (b : MapBody) (owner : Option PortId) (index : Nat) : MapEntry :=
  { index := index, owner := owner, logical := b.logical, physical := b.physical, readRight := b.readRight,
    overrideRight := b.overrideRight }

/-- MAP with its fields allowed (R144, steps 3 to 5; R145). -/
def State.mapBlock (s : State) (p : PortId) (b : MapBody) (owner : Option PortId) : State :=
  if s.settings.blockLow ≠ b.size ∧ s.settings.blockHigh ≠ b.size then s.refuse p .size
  else if s.accessMap.any (s.clashes owner b.logical b.size) then s.refuse p .duplicate
  else
    match s.placeFor b.size with
    | some i => (s.setMap (insertEntry (b.entry owner i) s.accessMap)).reply p [doneByte, byteOf i]
    | none => s.refuse p .full

def State.map (s : State) (p : PortId) (t : Telegram) : State :=
  s.mapTelegram p (bodyMap t.body) fun b =>
    match ownerOf b.owner with
    | some owner => if b.allowed then s.mapBlock p b owner else s.refuse p .malformed
    | none => s.refuse p .malformed

/-- MAP (R144). -/
def execMap (p : PortId) (s : State) : Host.Outcome State Fault Refusal :=
  .next (s.execTelegram p 0x20#8 fun t s => s.map p t)

/-- The owner and the logical address of UNMAP and PROBE BY ADDRESS, none when one of them is not allowed (R146,
R148). -/
def ownedAddress (b : Nat × Nat) : Option (Option PortId × Nat) :=
  if b.2 < directBase then (ownerOf b.1).map fun o => (o, b.2) else none

/-- UNMAP with its fields allowed (R146): the entry of exactly this owner that covers the address. -/
def State.unmapAt (s : State) (p : PortId) (owner : Option PortId) (a : Nat) : State :=
  match s.accessMap.find? fun e => e.owner == owner && s.covers e a with
  | some e => (s.setMap (s.accessMap.filter fun x => x.index != e.index)).reply p [doneByte, byteOf e.index]
  | none => s.reply p [doneByte, absentByte]

def State.unmap (s : State) (p : PortId) (t : Telegram) : State :=
  s.mapTelegram p (bodyOwned t.body) fun b =>
    match ownedAddress b with
    | some (owner, a) => s.unmapAt p owner a
    | none => s.refuse p .malformed

/-- UNMAP (R146). -/
def execUnmap (p : PortId) (s : State) : Host.Outcome State Fault Refusal :=
  .next (s.execTelegram p 0x21#8 fun t s => s.unmap p t)

def Bank.ofCode : Nat → Option Bank
  | 0 => some .low
  | 1 => some .high
  | _ => none

/-- Every entry of a bank made invalid (R147). -/
def State.flushBank (s : State) (b : Bank) : State := s.setMap (s.accessMap.filter fun e => bankOf e.index != b)

def State.validIn (s : State) (b : Bank) : Nat := s.accessMap.countP fun e => bankOf e.index == b

def State.flush (s : State) (p : PortId) (t : Telegram) : State :=
  s.mapTelegram p (body1 t.body) fun code =>
    match Bank.ofCode code with
    | some b => (s.flushBank b).reply p [doneByte, byteOf (s.validIn b)]
    | none => s.refuse p .malformed

/-- FLUSH (R147). -/
def execFlush (p : PortId) (s : State) : Host.Outcome State Fault Refusal :=
  .next (s.execTelegram p 0x22#8 fun t s => s.flush p t)

/-- PROBE BY ADDRESS with its fields allowed (R148). -/
def State.probeAt (s : State) (p : PortId) (owner : Option PortId) (a : Nat) : State :=
  match s.match? owner a with
  | some e => s.reply p (doneByte :: (s.entryBytes e ++ be16 (wordOf (e.translate a))))
  | none => s.reply p (doneByte :: noEntryBytes 10)

def State.probeByAddress (s : State) (p : PortId) (t : Telegram) : State :=
  s.mapTelegram p (bodyOwned t.body) fun b =>
    match ownedAddress b with
    | some (owner, a) => s.probeAt p owner a
    | none => s.refuse p .malformed

/-- PROBE_BY_ADDRESS (R148). -/
def execProbeByAddress (p : PortId) (s : State) : Host.Outcome State Fault Refusal :=
  .next (s.execTelegram p 0x23#8 fun t s => s.probeByAddress p t)

def State.probeByIndex (s : State) (p : PortId) (t : Telegram) : State :=
  s.mapTelegram p (body1 t.body) fun i =>
    match s.accessMap.find? fun e => e.index == i with
    | some e => s.reply p (doneByte :: s.entryBytes e)
    | none => s.reply p (doneByte :: noEntryBytes 8)

/-- PROBE_BY_INDEX (R149). -/
def execProbeByIndex (p : PortId) (s : State) : Host.Outcome State Fault Refusal :=
  .next (s.execTelegram p 0x24#8 fun t s => s.probeByIndex p t)

end Sys2Proof.Machine
end

