-- ==== Sys2Proof/Machine/SettingsCmds.lean ====
section
/-! DEFINITION. Writing and saving settings, and RESTART (chapter 11): WRITE SETTING, SAVE SETTINGS, the end of a save,
RESTART. -/

namespace Sys2Proof.Machine

/-- A write of a port's notice enable that turns it off clears the port's bits (R158). -/
def State.noticesWritten (s : State) (p : PortId) : State :=
  if (s.settings.port.get p).notices then s else s.modPort p fun port => { port with notices := 0#8 }

/-- A write of a rotation interval starts a stopped timer at once, unless it is 0 (R107). -/
def State.rotationWritten (s : State) (l : LoopId) : State :=
  s.modAlloc l fun al =>
    { al with
      rotation := match al.rotation with
        | some t => some t
        | none => rotationEnd s.now (s.settings.loop.get l).rotation }

/-- A write of the guard fan cap re-posts the FAN of every unit of the loop in GUARD (R64, R75). -/
def State.guardCapWritten (s : State) (l : LoopId) : State :=
  s.repostAll l (((s.fpb.get l).units.filter fun u => u.frost == .guard).map UnitFrost.addr) .fan

/-- A write of a population or mask restarts the segment when it changes the value in force (R165). -/
def State.setWritten (s : State) (g : SegId) (changed populationChanged : Bool) : State :=
  if changed then s.restartSegment g populationChanged else s

/-- What an accepted WRITE SETTING brings on the other blocks, by the setting's owning rule. The settings are already
the new ones; `old` are those before. A fallback value's merge that finds a standing clash sets a cleared CONFLICT again,
with the FAULT notice of R85 and R159, where R87 says that no notice follows (DEDUCED: log entry 27). -/
def State.settingWritten (s : State) (old : Settings) : Item → State
  | .cls _ => s
  | .rate _ => s
  | .notices p => s.noticesWritten p
  | .population g => s.setWritten g ((s.settings.seg.get g).population != (old.seg.get g).population) true
  | .mask g => s.setWritten g ((s.settings.seg.get g).mask != (old.seg.get g).mask) false
  | .passInterval => s
  | .holdLimit => s
  | .nominal l => s.fpbEvent { FpbEvent.nothing with cu := onlyLoop l }
  | .minFlow l => s.fpbEvent { FpbEvent.nothing with flow := onlyLoop l }
  | .fbTarget l => s.recomputeMerge l
  | .fbFloor l => s.recomputeMerge l
  | .fbCeiling l => s.recomputeMerge l
  | .kp _ => s
  | .ki _ => s
  | .smin _ => s
  | .guardCap l => s.guardCapWritten l
  | .minService _ => s
  | .rotation l => s.rotationWritten l
  | .freeze _ => s.fpbEvent { FpbEvent.nothing with table := true }
  | .guardBand => s.fpbEvent { FpbEvent.nothing with guard := true }
  | .designMin => s.fpbEvent { FpbEvent.nothing with ta := true }
  | .settleTimeout => s
  | .icingInterval => s
  | .block b => s.flushBank b

/-- A line rate takes effect after the write's own reply has been sent (R151). -/
def replyEffect (st : Settings) : Item → FrameEffect
  | .rate p => .lineRate p (st.port.get p).rate
  | _ => .none

/-- The segment whose controller a written item has set to work: the one that a changed population or mask restarted. -/
def State.arbitrateFor (s : State) (old : Settings) : Item → State
  | .population g => if s.settings.seg.get g = old.seg.get g then s else s.arbitrate g
  | .mask g => if s.settings.seg.get g = old.seg.get g then s else s.arbitrate g
  | _ => s

/-- An accepted WRITE SETTING (R164, R165). -/
def State.applySetting (s : State) (p : PortId) (i : Item) (new : Settings) : State :=
  (((s.setSettings new).settingWritten s.settings i).replyWith p [doneByte] (replyEffect new i)).arbitrateFor s.settings i

/-- A save runs or a RESTART is pending (R164, R166, R167). -/
def State.settingsBusy (s : State) : Bool := s.saving.isSome || s.restartPending

def State.writeSetting (s : State) (p : PortId) (t : Telegram) : State :=
  match bodyWriteSetting t.body with
  | some b =>
    if s.cls p = .supervisor then
      match Item.ofCode b.item b.qualifier with
      | some i =>
        if s.settingsBusy then s.refuse p .busy
        else
          match s.settings.accept i b.value with
          | some new => s.applySetting p i new
          | none => s.refuse p .range
      | none => s.refuse p .malformed
    else s.refuse p .rights
  | none => s.refuse p .malformed

/-- WRITE_SETTING (R164). -/
def execWriteSetting (p : PortId) (s : State) : Host.Outcome State Fault Refusal :=
  .next (s.execTelegram p 0x30#8 fun t s => s.writeSetting p t)

def State.setSaving (s : State) (image : Option (List Byte)) : State := { s with saving := image }

def State.saveSettings (s : State) (p : PortId) (t : Telegram) : State :=
  if t.body.isEmpty then
    if s.cls p = .supervisor then
      if s.settingsBusy then s.refuse p .busy
      else (s.setSaving (some s.settings.image)).reply p [doneByte]
    else s.refuse p .rights
  else s.refuse p .malformed

/-- SAVE_SETTINGS (R166). -/
def execSaveSettings (p : PortId) (s : State) : Host.Outcome State Fault Refusal :=
  .next (s.execTelegram p 0x31#8 fun t s => s.saveSettings p t)

/-- SAVE_END (R166): the save succeeded when every byte was acknowledged and the read-back agrees. -/
def execSaveEnd (acknowledged : Bool) (readBack : List Byte) (s : State) : Host.Outcome State Fault Refusal :=
  match s.saving with
  | some image =>
    .next (((s.setSaving none).setFaultIf (!(acknowledged && readBack == image)) .saveFailed).kickPorts)
  | none => .next s

def State.setRestartPending (s : State) : State := { s with restartPending := true }

def State.restart (s : State) (p : PortId) (t : Telegram) : State :=
  if t.body.isEmpty then
    if s.cls p = .supervisor then
      if s.settingsBusy then s.refuse p .busy else s.setRestartPending.replyWith p [doneByte] .restart
    else s.refuse p .rights
  else s.refuse p .malformed

/-- RESTART (R167). -/
def execRestart (p : PortId) (s : State) : Host.Outcome State Fault Refusal :=
  .next (s.execTelegram p 0x32#8 fun t s => s.restart p t)

end Sys2Proof.Machine
end

