-- ==== Sys2Proof/Machine/FieldCmds.lean ====
section
/-! DEFINITION. The events of the field segments and of the timers: PASS TIMER EXPIRY, RESPONSE TAKEN, RESPONSE WINDOW
EXPIRY, READY PAUSE EXPIRY, ATTENTION LINE CHANGE, ATTENTION POLL END, SETTLE DEADLINE EXPIRY, ICING CLEAR EXPIRY,
ROTATION EXPIRY. -/

namespace Sys2Proof.Machine

/-- The pass timer has expired (R31): the next pass starts, or a start is marked due. -/
def State.passTimerExpired (s : State) (g : SegId) : State :=
  let s1 := s.modFsc g fun f => { f with passTimer := none }
  if (s.fsc.get g).passRunning then
    (s1.modFsc g fun f => { f with startDue := true }).setFault (.passOverrun g)
  else s1.startPass g

/-- PASS_TIMER_EXPIRY (R31). -/
def execPassTimerExpiry (g : SegId) (s : State) : Host.Outcome State Fault Refusal :=
  match (s.fsc.get g).passTimer with
  | some t => .next ((((s.advanceTo t).passTimerExpired g).arbitrate g).kickPorts)
  | none => .next s

/-- The call on the segment awaits a response: an attention poll does not (R21, R26). -/
def awaiting : Activity → Option Transaction
  | .busy t => match t.job with
    | .poll => none
    | _ => some t
  | _ => none

/-- RESPONSE_TAKEN (R21): characters heard with no window open are discarded (R20). -/
def execResponseTaken (g : SegId) (chars : List Byte) (s : State) : Host.Outcome State Fault Refusal :=
  match awaiting (s.fsc.get g).activity with
  | some t => if chars.isEmpty then .next s else .next (((s.answer g t chars).arbitrate g).kickPorts)
  | none => .next s

/-- The response window has ended with nothing heard (R20, R21), or the window of an abandoned attempt has run out
(R43). -/
def State.windowExpired (s : State) (g : SegId) : State :=
  match (s.fsc.get g).activity with
  | .quiet e => (((((s.advanceTo e).setActivity g .free).beginDiscovery g).arbitrate g).kickPorts)
  | a =>
    match awaiting a with
    | some t => ((((s.advanceTo t.ends).attemptFailed g t).arbitrate g).kickPorts)
    | none => s

/-- RESPONSE_WINDOW_EXPIRY (R20). -/
def execResponseWindowExpiry (g : SegId) (s : State) : Host.Outcome State Fault Refusal := .next (s.windowExpired g)

/-- READY_PAUSE_EXPIRY (R22): the segment is free, and the owed continuation has the first place. -/
def execReadyPauseExpiry (g : SegId) (s : State) : Host.Outcome State Fault Refusal :=
  match (s.fsc.get g).activity with
  | .pause e => .next ((((s.advanceTo e).setActivity g .free).arbitrate g).kickPorts)
  | _ => .next s

/-- The line's new level; a change from released to asserted arms the poll of a controller whose discovery has begun (R39,
R44). -/
def Fsc.lineChange (begun asserted : Bool) (f : Fsc) : Fsc :=
  { f with lineAsserted := asserted, pollArmed := f.pollArmed || (begun && asserted && !f.lineAsserted) }

/-- ATTENTION_LINE_CHANGE (R39). While the settings load runs the poll stays disarmed (R44) and the level alone is followed
(DEDUCED: log entry 26). -/
def execAttentionLineChange (g : SegId) (asserted : Bool) (s : State) : Host.Outcome State Fault Refusal :=
  .next (((s.modFsc g (Fsc.lineChange (s.phase == .running) asserted)).arbitrate g).kickPorts)

/-- The station's slot answered with attention; a slot that cannot be read counts as none (R26). -/
def slotAttention (slots : List (Option Byte)) (a : Nat) : Bool :=
  slots.getD (a - 1) none == some Config.attentionByte

/-- The answers of a poll taken (R16, R39): a selected station that is not LOST gets attention pending. -/
def State.takePoll (s : State) (g : SegId) (slots : List (Option Byte)) : State :=
  s.modImage g fun sts => sts.map fun st =>
    if slotAttention slots st.addr && s.settings.selects g st.addr && !(st.link == .lost) then
      { st with attention := true }
    else st

/-- ATTENTION_POLL_END (R26, R39). -/
def execAttentionPollEnd (g : SegId) (slots : List (Option Byte)) (s : State) : Host.Outcome State Fault Refusal :=
  match (s.fsc.get g).activity with
  | .busy { job := .poll, ends := e, .. } =>
    .next (((((s.advanceTo e).takePoll g slots).setActivity g .free).arbitrate g).kickPorts)
  | _ => .next s

/-- SETTLE_DEADLINE_EXPIRY (R119): an item that has settled, or that a fresh write has replaced, does not fail. -/
def execSettleDeadlineExpiry (g : SegId) (a : Nat) (o : Expiry OutputId) (s : State) :
    Host.Outcome State Fault Refusal :=
  match (s.settle.get g).find? fun i => i.isFor a o.what with
  | some i =>
    if s.runOut i.deadline o.moment then .next ((((s.advanceTo o.moment).settleFail g a o.what).arbitrate g).kickPorts)
    else .next s
  | none => .next s

/-- The icing-clear timer has expired (R70): every mark and count of both loops is cleared, and the timer restarts. -/
def State.icingExpired (s : State) : State :=
  let any := s.anyIced .fs0 || s.anyIced .fs1
  let s1 := ((s.clearIcing .fs0).clearIcing .fs1).notifyIf any .frost
  { s1 with icingTimer := icingEnd s.now s.settings.icingInterval }

/-- ICING_CLEAR_EXPIRY (R70). -/
def execIcingClearExpiry (s : State) : Host.Outcome State Fault Refusal :=
  match s.icingTimer with
  | some t => .next (((s.advanceTo t).icingExpired).kickPorts)
  | none => .next s

/-- The head of the service order goes to its end (R107). -/
def rotate : List Nat → List Nat
  | [] => []
  | a :: as => as ++ [a]

/-- ROTATION_EXPIRY (R107): the timer restarts with the interval in force, or stops. -/
def execRotationExpiry (l : LoopId) (s : State) : Host.Outcome State Fault Refusal :=
  match (s.alloc.get l).rotation with
  | some t =>
    let now := (s.advanceTo t).now
    .next ((s.advanceTo t).modAlloc l fun al =>
      { al with order := rotate al.order, rotation := rotationEnd now (s.settings.loop.get l).rotation })
  | none => .next s

end Sys2Proof.Machine
end

