-- ==== Sys2Proof/Machine/Dispatch.lean ====
section
/-! DEFINITION. The effect of every command on everything but the queue: one arm per row of spec/opcode_table.json. -/

namespace Sys2Proof.Machine

def exec (i : Instr) (s : State) : Host.Outcome State Fault Refusal :=
  match i with
  | .powerOn => Sys2Proof.Machine.execPowerOn s
  | .resetPin => Sys2Proof.Machine.execResetPin s
  | .settingsLoadEnd image => Sys2Proof.Machine.execSettingsLoadEnd image s
  | .takeFrame p chars => Sys2Proof.Machine.execTakeFrame p chars s
  | .frameGapTimeout p => Sys2Proof.Machine.execFrameGapTimeout p s
  | .unknownKind p => Sys2Proof.Machine.execUnknownKind p s
  | .readPoint p => Sys2Proof.Machine.execReadPoint p s
  | .readStation p => Sys2Proof.Machine.execReadStation p s
  | .readStatus p => Sys2Proof.Machine.execReadStatus p s
  | .readFaults p => Sys2Proof.Machine.execReadFaults p s
  | .readOverrides p => Sys2Proof.Machine.execReadOverrides p s
  | .readSetting p => Sys2Proof.Machine.execReadSetting p s
  | .postRequest p => Sys2Proof.Machine.execPostRequest p s
  | .withdrawRequest p => Sys2Proof.Machine.execWithdrawRequest p s
  | .fence p => Sys2Proof.Machine.execFence p s
  | .setOverride p => Sys2Proof.Machine.execSetOverride p s
  | .releaseOverride p => Sys2Proof.Machine.execReleaseOverride p s
  | .map p => Sys2Proof.Machine.execMap p s
  | .unmap p => Sys2Proof.Machine.execUnmap p s
  | .flush p => Sys2Proof.Machine.execFlush p s
  | .probeByAddress p => Sys2Proof.Machine.execProbeByAddress p s
  | .probeByIndex p => Sys2Proof.Machine.execProbeByIndex p s
  | .markStale p => Sys2Proof.Machine.execMarkStale p s
  | .writeSetting p => Sys2Proof.Machine.execWriteSetting p s
  | .saveSettings p => Sys2Proof.Machine.execSaveSettings p s
  | .saveEnd ack back => Sys2Proof.Machine.execSaveEnd ack back s
  | .restart p => Sys2Proof.Machine.execRestart p s
  | .transmitterFrameDone p => Sys2Proof.Machine.execTransmitterFrameDone p s
  | .noticeSpacingExpiry p => Sys2Proof.Machine.execNoticeSpacingExpiry p s
  | .passTimerExpiry g => Sys2Proof.Machine.execPassTimerExpiry g s
  | .responseTaken g chars => Sys2Proof.Machine.execResponseTaken g chars s
  | .responseWindowExpiry g => Sys2Proof.Machine.execResponseWindowExpiry g s
  | .readyPauseExpiry g => Sys2Proof.Machine.execReadyPauseExpiry g s
  | .attentionLineChange g level => Sys2Proof.Machine.execAttentionLineChange g level s
  | .attentionPollEnd g slots => Sys2Proof.Machine.execAttentionPollEnd g slots s
  | .settleDeadlineExpiry g a o => Sys2Proof.Machine.execSettleDeadlineExpiry g a o s
  | .icingClearExpiry => Sys2Proof.Machine.execIcingClearExpiry s
  | .rotationExpiry l => Sys2Proof.Machine.execRotationExpiry l s
  | .requestExpiry p l => Sys2Proof.Machine.execRequestExpiry p l s
  | .overrideExpiry n => Sys2Proof.Machine.execOverrideExpiry n s

end Sys2Proof.Machine
end

