-- ==== Sys2Proof/Safety.lean ====
section
/-! DEFINITION. The words the claims are stated in: when a port executes a telegram and what answering one is, and what
every safe state of the part keeps, block by block, with what a write in flight may carry. -/

namespace Sys2Proof.Machine

/-! ### Executing and answering a telegram (R153) -/

/-- The part runs, the port waits for no read-through, and this telegram stands at the head of its queue. -/
def State.Ready (s : State) (p : PortId) (t : Telegram) : Prop :=
  s.phase = .running ∧ s.portWaits p = false ∧ (s.ports.get p).queue.head? = some t

/-- The ports once a port has formed its reply with this body and every idle transmitter has started what is ready. -/
def State.portsAnswering (s : State) (p : PortId) (body : List Byte) : PerPort Port :=
  (s.ports.modify p (Port.form body .none)).map fun _ port => port.kick s.now

/-- Nothing but the reply: the port has answered with this body, and every other part of the state is as it was. -/
def State.onlyAnswering (s : State) (p : PortId) (body : List Byte) : State :=
  { s with ports := s.portsAnswering p body }

/-- From one state to another the port has answered its head telegram with this body, and no other queue of telegrams or
of replies has changed. -/
def State.Answered (s u : State) (p : PortId) (t : Telegram) (body : List Byte) : Prop :=
  (u.ports.get p).queue = (s.ports.get p).queue.tail ∧
    (u.ports.get p).replies = (s.ports.get p).replies ++ [replyFrame t body .none] ∧
    ∀ q, q ≠ p → (u.ports.get q).queue = (s.ports.get q).queue ∧ (u.ports.get q).replies = (s.ports.get q).replies

/-- The ports once some notice bits have been set on each port that has notices enabled, and on no other (R158). -/
def State.noticed (s : State) (bits : PortId → Byte) : PerPort Port :=
  s.ports.map fun p port =>
    if (s.settings.port.get p).notices then { port with notices := port.notices ||| bits p } else port

/-- The commands that execute a telegram on a port, with the kind code and the body length of 12.3. -/
def telegramCommands (p : PortId) : List (Instr × Byte × Nat) :=
  [(.readPoint p, 0x01#8, 3), (.readStation p, 0x02#8, 2), (.readStatus p, 0x03#8, 1), (.readFaults p, 0x04#8, 0),
   (.readOverrides p, 0x05#8, 0), (.readSetting p, 0x06#8, 2), (.postRequest p, 0x10#8, 9),
   (.withdrawRequest p, 0x11#8, 1), (.fence p, 0x12#8, 1), (.setOverride p, 0x18#8, 6), (.releaseOverride p, 0x19#8, 2),
   (.map p, 0x20#8, 7), (.unmap p, 0x21#8, 3), (.flush p, 0x22#8, 1), (.probeByAddress p, 0x23#8, 3),
   (.probeByIndex p, 0x24#8, 1), (.markStale p, 0x28#8, 1), (.writeSetting p, 0x30#8, 4), (.saveSettings p, 0x31#8, 0),
   (.restart p, 0x32#8, 0)]

/-- Those refused RIGHTS to an OBSERVER alone, whatever they carry (10.1). -/
def plantCommands (p : PortId) : List (Instr × Byte × Nat) :=
  [(.postRequest p, 0x10#8, 9), (.withdrawRequest p, 0x11#8, 1), (.fence p, 0x12#8, 1)]

/-- Those refused RIGHTS to every port that is not SUPERVISOR (10.1). -/
def supervisorCommands (p : PortId) : List (Instr × Byte × Nat) :=
  [(.map p, 0x20#8, 7), (.unmap p, 0x21#8, 3), (.flush p, 0x22#8, 1), (.probeByAddress p, 0x23#8, 3),
   (.probeByIndex p, 0x24#8, 1), (.markStale p, 0x28#8, 1), (.writeSetting p, 0x30#8, 4), (.saveSettings p, 0x31#8, 0),
   (.restart p, 0x32#8, 0)]

/-- The commands that are events of one segment. -/
def segmentCommands (g : SegId) (chars : List Byte) (level : Bool) (slots : List (Option Byte)) (a : Nat) (o : OutputId)
    (moment : Nat) : List Instr :=
  [.passTimerExpiry g, .responseTaken g chars, .responseWindowExpiry g, .readyPauseExpiry g,
   .attentionLineChange g level, .attentionPollEnd g slots, .settleDeadlineExpiry g a ⟨o, moment⟩]

/-- The station a transaction calls, none for a poll. -/
def Job.station? : Job → Option Nat
  | .discovery a => some a
  | .probe a => some a
  | .read j => some j.station
  | .write a => some a
  | .poll => none

/-- From one state to another an output has been handed back to its allocator (R104): its allocator value is posted with
no origin and is the last posted value, or nothing is posted and the last posted value is unknown. -/
def State.HandedBack (s u : State) (g : SegId) (a : Nat) (o : OutputId) : Prop :=
  match (s.commands g a).allocatorValue o with
  | some v =>
    if s.answers g a then
      u.buffer = s.buffer.modify g (mergePost a v.fields none) ∧ (u.commands g a).postedValue o = some v
    else u.buffer = s.buffer ∧ (u.commands g a).postedValue o = none
  | none => u.buffer = s.buffer ∧ (u.commands g a).postedValue o = none

/-- The settings whose writing reaches no other block at once (11.1). -/
def Item.plain : Item → Bool
  | .cls _ => true
  | .passInterval => true
  | .holdLimit => true
  | .kp _ => true
  | .ki _ => true
  | .smin _ => true
  | .minService _ => true
  | .settleTimeout => true
  | .icingInterval => true
  | _ => false

/-- The settings the Freeze Protection Block computes afresh on (R45, R46, R49, R50, R52). -/
def Item.frosts : Item → Bool
  | .nominal _ => true
  | .minFlow _ => true
  | .freeze _ => true
  | .guardBand => true
  | .designMin => true
  | _ => false

/-! ### What a safe state keeps -/

/-- R9: every quality counter is within 0 to 15. -/
def State.CountersBounded (s : State) : Prop := ∀ g, ∀ st ∈ s.image.get g, st.counter ≤ 15

/-- R1, R2: a segment has one record per configured address, in ascending order, of the kind its address fixes, with
eight points. -/
def State.ImageFollowsPopulation (s : State) : Prop :=
  ∀ g, (s.image.get g).map Station.addr = s.settings.population g ∧
    ∀ st ∈ s.image.get g, st.kind = kindOf st.addr ∧ st.points.length = 8

/-- R94: the demand index of each loop is within 0 to 1000. -/
def State.DemandBounded (s : State) : Prop := ∀ l, (s.alloc.get l).demand ≤ 1000

/-- R84, R87: each loop's merged target lies between its merged floor and ceiling, and so do its fallback values. -/
def State.MergesOrdered (s : State) : Prop :=
  ∀ l, ((s.merge.get l).floor ≤ (s.merge.get l).target ∧ (s.merge.get l).target ≤ (s.merge.get l).ceiling) ∧
    (s.settings.loop.get l).fallbackOrder = true

/-- R117: a settle list holds at most 15 items, never two for the same output of the same station. -/
def State.SettleListsBounded (s : State) : Prop :=
  ∀ g, (s.settle.get g).length ≤ 15 ∧
    (s.settle.get g).Pairwise fun i j => ¬(i.station = j.station ∧ i.value.output = j.value.output)

/-- R110: at most the head of a write buffer is IN FLIGHT, no station has two OPEN entries, every entry carries an
output, and every entry is for a configured station. -/
def State.BuffersFormed (s : State) : Prop :=
  ∀ g, (∀ e ∈ (s.buffer.get g).tail, e.state = .waiting) ∧
    ((s.buffer.get g).Pairwise fun e f => ¬(e.state = .waiting ∧ f.state = .waiting ∧ e.station = f.station)) ∧
    ∀ e ∈ s.buffer.get g, e.posted.isEmpty = false ∧ ∃ st ∈ s.image.get g, st.addr = e.station

/-- R127: the override records stand in ascending index order below 16, never two for one output, each for an output its
station's kind has on a configured station, with its hold within 10 to 3600 s. -/
def State.OverridesFormed (s : State) : Prop :=
  (s.overrides.Pairwise fun r q => r.index < q.index) ∧
    (s.overrides.Pairwise fun r q => ¬(r.seg = q.seg ∧ r.station = q.station ∧ r.value.output = q.value.output)) ∧
    ∀ r ∈ s.overrides, r.index < 16 ∧ r.station ∈ s.settings.population r.seg ∧
      (kindOf r.station).hasOutput r.value.output = true ∧ 10 ≤ r.hold ∧ r.hold ≤ 3600

/-- R139, R144: the valid entries stand in ascending index order below 64, each with both bases in their halves and
aligned to its bank's block size, and no two entries that one port could use overlap. -/
def State.MapFormed (s : State) : Prop :=
  (∀ b, s.settings.blockSize b ∈ [1, 4, 16, 64]) ∧
    (s.accessMap.Pairwise fun e f => e.index < f.index) ∧
    (s.accessMap.Pairwise fun e f =>
      (e.owner = f.owner ∨ e.owner = none ∨ f.owner = none) →
        e.logical + s.sizeOf e ≤ f.logical ∨ f.logical + s.sizeOf f ≤ e.logical) ∧
    ∀ e ∈ s.accessMap, e.index < 64 ∧ e.logical < 0x8000 ∧ 0x8000 ≤ e.physical ∧ e.physical < 0x10000 ∧
      e.logical % s.sizeOf e = 0 ∧ e.physical % s.sizeOf e = 0

/-- R154: no intake queue holds more than 16 telegrams; one of a CLEAR port holds fewer than 12, and one of a PAUSED port
more than 4. -/
def State.QueuesBounded (s : State) : Prop :=
  ∀ p, (s.ports.get p).queue.length ≤ 16 ∧
    ((s.ports.get p).paused = false → (s.ports.get p).queue.length < 12) ∧
    ((s.ports.get p).paused = true → 4 < (s.ports.get p).queue.length)

/-- R46, R164: the freeze table has 13 entries, each within -600 to 0, none warmer than the one before it, and at least
one port is of class SUPERVISOR. -/
def State.SettingsFormed (s : State) : Prop :=
  (s.settings.freezeTable.length = 13 ∧ (∀ x ∈ s.settings.freezeTable, -600 ≤ x ∧ x ≤ 0) ∧
    s.settings.freezeTable.Pairwise fun x y => y ≤ x) ∧ ∃ p, s.cls p = .supervisor

/-- R47, R50: each loop's freeze point is the one its concentration in use gives in the freeze table in force, and its
ambient margin is Ta over that freeze point and the guard band in force. -/
def State.MarginsCurrent (s : State) : Prop :=
  ∀ l, (s.fpb.get l).fp = freezePoint s.settings.freezeTable (s.fpb.get l).cu ∧
    (s.fpb.get l).ma = s.ta - ((s.fpb.get l).fp + s.settings.guardBand)

/-- R105: the service order of a loop lists every configured unit of it once, and nothing else. -/
def State.OrdersComplete (s : State) : Prop :=
  ∀ l, (s.alloc.get l).order.Perm (unitsOf (s.settings.population l))

/-- R65: the bypass cap of a loop is the one its units' frost states give, and the per-unit values are those of its
configured units in address order. -/
def State.CapsFollowFrost (s : State) : Prop :=
  ∀ l, (s.fpb.get l).bmax = bypassCap (s.fpb.get l).units ∧
    (s.fpb.get l).units.map UnitFrost.addr = unitsOf (s.settings.population l)

/-- R121 to R123: a port's fence on a loop is PENDING exactly while some entry or item of the segment bears its mark. -/
def State.FencesFollowMarks (s : State) : Prop := ∀ p l, ((s.fences.get p).get l).isPending = s.marked l p

/-- R156, R158: while the part runs, an idle transmitter has no PAUSE, RESUME, reply or NOTICE ready, and no line rate
waits for it. -/
def State.TransmittersBusy (s : State) : Prop :=
  s.phase = .running → ∀ p, (s.ports.get p).sending = none →
    (s.ports.get p).flow = [] ∧ (s.ports.get p).replies = [] ∧
      ((s.ports.get p).notices = 0#8 ∨ (s.ports.get p).spacing ≠ none) ∧ (s.ports.get p).newRate = none

/-- R41: while the part runs, a segment that is free has nothing to choose. -/
def State.SegmentsBusy (s : State) : Prop :=
  s.phase = .running → ∀ g, (s.fsc.get g).activity = .free → s.choose g = .nothing

/-- R160: until the settings are loaded the ports hold no telegram and no part of one, and send nothing. -/
def State.LoadingHeld (s : State) : Prop :=
  s.phase = .loading → ∀ p, (s.ports.get p).queue = [] ∧ (s.ports.get p).receiving = none ∧
    (s.ports.get p).replies = [] ∧ (s.ports.get p).sending = none

/-- R44: until the settings are loaded and its discovery begins, each segment controller stands as the rule gives, its poll
disarmed among the rest, with its buffer and settle list empty, its records as created, its PASS OVERRUN flag clear and no
override. -/
def State.SegmentsHeld (s : State) : Prop :=
  s.phase = .loading → s.overrides = [] ∧ ∀ g,
    ((s.fsc.get g).activity = .free ∧ (s.fsc.get g).passRunning = false ∧ (s.fsc.get g).startDue = false ∧
      (s.fsc.get g).passNumber = 0#16 ∧ (s.fsc.get g).passTimer = none ∧ (s.fsc.get g).revived = [] ∧
      (s.fsc.get g).readThroughs = [] ∧ (s.fsc.get g).owed = none ∧ (s.fsc.get g).pollArmed = false ∧ (s.fsc.get g).starvation = 0) ∧
      s.buffer.get g = [] ∧ s.settle.get g = [] ∧
      s.image.get g = (s.settings.population g).map Station.fresh ∧ s.hasFault (.passOverrun g) = false

/-- 12.2: no frame that a port sends or has ready has a body of more than 248 bytes, so that its length byte holds it. -/
def State.FramesBounded (s : State) : Prop :=
  ∀ p, (∀ f ∈ (s.ports.get p).replies, f.body.length ≤ 248) ∧
    ∀ f, (s.ports.get p).sending = some f → f.body.length ≤ 248

/-- Everything the invariants above say, together. -/
structure State.Safe (s : State) : Prop where
  counters : s.CountersBounded
  image : s.ImageFollowsPopulation
  demand : s.DemandBounded
  merges : s.MergesOrdered
  settle : s.SettleListsBounded
  buffers : s.BuffersFormed
  overrides : s.OverridesFormed
  accessMap : s.MapFormed
  queues : s.QueuesBounded
  settings : s.SettingsFormed
  margins : s.MarginsCurrent
  orders : s.OrdersComplete
  caps : s.CapsFollowFrost
  fences : s.FencesFollowMarks
  transmitters : s.TransmittersBusy
  segments : s.SegmentsBusy
  loading : s.LoadingHeld
  held : s.SegmentsHeld
  frames : s.FramesBounded

/-! ### What a write may carry (R72, R73) -/

/-- The values a WRITE to a station may carry by the states in force: to a unit, no FAN above what its frost state and
icing mark allow, and no VALVE CLOSE unless it is in NORMAL with isolation PERMITTED (log entry 21); to the loop station,
no BYPASS above the cap. -/
def State.Allows (s : State) (g : SegId) (a : Nat) (f : Fields) : Prop :=
  (kindOf a = .unit → ∀ u, s.unit? g a = some u →
    (∀ v, f.fan = some v →
      ((u.frost = .protect ∨ u.iced = true) → v = 0) ∧
        (u.frost = .guard → v ≤ (s.settings.loop.get g).guardCap)) ∧
      (f.valve = some .toClose → u.frost = .normal ∧ (s.fpb.get g).permitted = true)) ∧
    (kindOf a = .loop → ∀ v, f.bypass = some v → v ≤ (s.fpb.get g).bmax)

/-- The station of the WRITE in flight on a segment, if one is. -/
def State.writing (s : State) (g : SegId) : Option Nat :=
  match (s.fsc.get g).activity with
  | .busy t =>
    match t.job with
    | .write a => some a
    | _ => none
  | _ => none

end Sys2Proof.Machine
end

