-- ==== Sys2Proof/Certificates/Slice0/Obligations.lean ====
section
/-! DEFINITION. The statements for the provers, each with the rules of spec/ it formalises. -/

open Sys2Proof Sys2Proof.Machine

/-! ### The machine -/

/-- A step runs exec on the command at the front of the queue, with the queue's rest behind it; with no command waiting it
is one millisecond and nothing else (the model's choice, log entry 2). -/
def Obligations.StepRunsFrontCommand : Prop :=
  ∀ s : State, (∀ (c : Instr) (rest : List Instr), s.pending = c :: rest → step s = exec c { s with pending := rest }) ∧
    (s.pending = [] → step s = .next { s with now := s.now + 1 })

/-- Every command answers a next state in every state, leaves the waiting commands alone and never turns the time base
back (log entries 2 to 4). -/
def Obligations.ExecKeepsQueueAndTime : Prop :=
  ∀ (c : Instr) (s : State), ∃ t : State, exec c s = .next t ∧ t.pending = s.pending ∧ s.now ≤ t.now

/-- What reset leaves: the settings load running (log entry 1) and every block in its start-up state, with the values the
default settings give it. -/
def Obligations.ResetState : Prop :=
  State.reset.phase = .loading ∧ State.reset.settings = Settings.default ∧ State.reset.faults = 0#24 ∧
    State.reset.pending = [] ∧ State.reset.saving = none ∧ State.reset.restartPending = false ∧
    State.reset.overrides = [] ∧ State.reset.accessMap = [] ∧ State.reset.ta = -400 ∧
    (∀ p, (State.reset.ports.get p).queue = [] ∧ (State.reset.ports.get p).paused = false ∧
      (State.reset.ports.get p).replies = [] ∧ (State.reset.ports.get p).notices = 0#8 ∧
      (State.reset.ports.get p).spacing = none) ∧
    (∀ p l, (State.reset.slots.get p).get l = none ∧ (State.reset.fences.get p).get l = .none) ∧
    ∀ g, State.reset.image.get g = [1, 2, 3, 4, 5, 6, 7, 8, 11, 12].map Station.fresh ∧
      State.reset.buffer.get g = [] ∧ State.reset.settle.get g = [] ∧
      (State.reset.fsc.get g).passNumber = 0#16 ∧ (State.reset.fsc.get g).passRunning = false ∧
      (State.reset.fsc.get g).revived = [] ∧
      State.reset.merge.get g = { target := 200, floor := 120, ceiling := 300, conflict := false } ∧
      (State.reset.fpb.get g).cu = 350 ∧ (State.reset.fpb.get g).fp = -163 ∧ (State.reset.fpb.get g).ma = -297 ∧
      (State.reset.fpb.get g).flowAdequate = false ∧ (State.reset.fpb.get g).permitted = false ∧
      (State.reset.fpb.get g).bmax = 500 ∧
      (State.reset.fpb.get g).units = [1, 2, 3, 4, 5, 6, 7, 8].map (fun a =>
        { addr := a, margin := -297, frost := .guard, shortfall := 0, iced := false }) ∧
      (State.reset.alloc.get g).demand = 200 ∧ (State.reset.alloc.get g).ePrev = 0 ∧
      (State.reset.alloc.get g).order = [1, 2, 3, 4, 5, 6, 7, 8]

/-- Every invariant of a safe state holds at reset. -/
def Obligations.ResetIsSafe : Prop := State.reset.Safe

/-! ### Start-up and settings -/

/-- A power-on and the reset pin begin the settings load at any moment: every block stands as after reset, so the ports
drop what they held, a running save is abandoned, and no fault is set; the time base, the waiting commands and the levels
of the attention lines go on (log entries 1 and 4). That a frame under way is cut, so that no port is sending, is the
model's: log entry 30. -/
def Obligations.PowerOnAndResetPinBeginLoad : Prop :=
  ∀ (c : Instr) (s : State), c = .powerOn ∨ c = .resetPin →
    ∃ t : State, exec c s = .next t ∧
      t = { State.reset with
        pending := s.pending, now := s.now
        fsc := State.reset.fsc.map fun g f => { f with lineAsserted := (s.fsc.get g).lineAsserted } } ∧
      t.phase = .loading ∧ t.saving = none ∧ t.restartPending = false ∧ t.faults = 0#24 ∧
      ∀ p, (t.ports.get p).queue = [] ∧ (t.ports.get p).receiving = none ∧ (t.ports.get p).replies = [] ∧
        (t.ports.get p).flow = [] ∧ (t.ports.get p).sending = none ∧ (t.ports.get p).notices = 0#8 ∧
        (t.ports.get p).paused = false

/-- When the settings load ends, every block takes its start-up state from the settings now in force, the timers start,
and discovery calls the lowest configured address of each segment. The ports stand empty with no notice, and no fault is set
but CONFIG DEFAULTED; a segment with no configured address has its first pass start and end at once, which sets SUPPLY LOST
and with it a FAULT notice that is sent. Units stand in GUARD, every command record is unknown and no run has been made. (The
time base is the model's: log entry 2.) -/
def Obligations.StartUpState : Prop :=
  ∀ (s : State) (image : Option (List Byte)) (st : Settings), s.phase = .loading → st = (loadSettings image).1 →
    ∃ t : State, exec (.settingsLoadEnd image) s = .next t ∧ t.phase = .running ∧ t.settings = st ∧ t.saving = none ∧
      t.restartPending = false ∧ t.hasFault .configDefaulted = (loadSettings image).2 ∧ t.overrides = [] ∧
      t.faults = (if (loadSettings image).2 = true then FaultFlag.configDefaulted.mask else 0#24) |||
        ((if st.population .fs0 = [] then (FaultFlag.supplyLost .fs0).mask else 0#24) |||
          (if st.population .fs1 = [] then (FaultFlag.supplyLost .fs1).mask else 0#24)) ∧
      t.accessMap = [] ∧ t.ta = st.designMin ∧ t.icingTimer = some (s.now + st.icingInterval * 60000) ∧
      (∀ p, (t.ports.get p).queue = [] ∧ (t.ports.get p).paused = false ∧
        (t.ports.get p).rate = (st.port.get p).rate ∧ (t.ports.get p).receiving = none ∧ (t.ports.get p).replies = [] ∧
        (t.ports.get p).flow = [] ∧ (t.ports.get p).notices = 0#8 ∧
        (if (st.population .fs0 = [] ∨ st.population .fs1 = []) ∧ (st.port.get p).notices = true then
          (t.ports.get p).sending = some { sequence := 0#8, kind := 0x70#8, body := [0x20#8], effect := .none } ∧
            (t.ports.get p).spacing = some (s.now + 200)
        else (t.ports.get p).sending = none ∧ (t.ports.get p).spacing = none)) ∧
      (∀ p l, (t.slots.get p).get l = none ∧ (t.fences.get p).get l = .none) ∧
      ∀ g, t.image.get g = (st.population g).map Station.fresh ∧ t.buffer.get g = [] ∧ t.settle.get g = [] ∧
        t.merge.get g = { target := (st.loop.get g).fbTarget, floor := (st.loop.get g).fbFloor,
                          ceiling := (st.loop.get g).fbCeiling, conflict := false } ∧
        (t.fpb.get g).cu = (clamp 0 600 (((st.loop.get g).nominal : Int) - 50)).toNat ∧
        (t.fpb.get g).fp = freezePoint st.freezeTable (t.fpb.get g).cu ∧
        (t.fpb.get g).ma = st.designMin - ((t.fpb.get g).fp + st.guardBand) ∧
        (t.fpb.get g).flowAdequate = false ∧ (t.fpb.get g).permitted = false ∧
        (t.fpb.get g).bmax = (if unitsOf (st.population g) = [] then 1000 else 500) ∧
        (t.fpb.get g).units = (unitsOf (st.population g)).map (fun a =>
          { addr := a, margin := coilMargin st.designMin (t.fpb.get g).fp st.guardBand, frost := .guard, shortfall := 0,
            iced := false }) ∧
        (t.alloc.get g).demand = 200 ∧ (t.alloc.get g).ePrev = 0 ∧
        (t.alloc.get g).order = unitsOf (st.population g) ∧
        (t.alloc.get g).rotation =
          (if (st.loop.get g).rotation = 0 then none else some (s.now + (st.loop.get g).rotation * 3600000)) ∧
        (t.alloc.get g).commands.map StationCommands.addr = outputStations (st.population g) ∧
        (∀ c ∈ (t.alloc.get g).commands, ∀ o, c.allocatorValue o = none ∧ c.postedValue o = none ∧
          c.writtenValue o = none) ∧
        (t.alloc.get g).lastRun = none ∧ (t.alloc.get g).lastSupply = none ∧ (t.alloc.get g).supplyValid = false ∧
        (t.alloc.get g).passes = (if st.population g = [] then 1 else 0) ∧
        (st.population g = [] → (t.fsc.get g).passNumber = 1#16 ∧
          (t.fsc.get g).passTimer = some (s.now + st.passInterval)) ∧
        ∀ a rest, st.population g = a :: rest →
          t.callOnSegment g = some (.identify a) ∧ (t.fsc.get g).passNumber = 0#16 ∧ (t.fsc.get g).passTimer = none

/-- The image a save writes loads back as the settings it was made from, for all settings whose every item is a value
WRITE SETTING accepts. -/
def Obligations.SettingsImageRoundTrip : Prop :=
  ∀ st : Settings, st.freezeTable.length = 13 → (∀ i ∈ imageItems, st.accept i (st.read i) = some st) →
    loadSettings (some st.image) = (st, false)

/-- A wrong image gives every setting its built-in default: one of which the memory left a byte unanswered, of a wrong
size, with a wrong format word or length, or with a wrong check; one with an item out of its range; and any that is not the
image of settings whose every item, taken with the others, WRITE SETTING would accept. And what a load gives keeps every
order between settings, with a port of class SUPERVISOR. -/
def Obligations.WrongImageLoadsDefaults : Prop :=
  loadSettings none = (Settings.default, true) ∧
    (∀ b : List Byte, (b.length ≠ 102 ∨ b.take 4 ≠ be16 0x5C21#16 ++ be16 96#16 ∨
        b.drop 100 ≠ be16 (crc (b.take 100))) → loadSettings (some b) = (Settings.default, true)) ∧
    (∀ (b : List Byte) (before after : List Item) (i : Item), imageItems = before ++ i :: after →
      let at_ := 4 + (before.map fun x => if x.oneByte = true then 1 else 2).sum
      let v : Word := if i.oneByte = true then (b.getD at_ 0#8).setWidth 16
        else word16 (b.getD at_ 0#8) (b.getD (at_ + 1) 0#8)
      Settings.default.write i v = none → loadSettings (some b) = (Settings.default, true)) ∧
    (∀ b : List Byte, (∀ st : Settings, st.freezeTable.length = 13 →
        (∀ i ∈ imageItems, st.accept i (st.read i) = some st) → st.image ≠ b) →
      loadSettings (some b) = (Settings.default, true)) ∧
    ∀ image, (loadSettings image).1.allAgree = true ∧
      ((loadSettings image).2 = true → (loadSettings image).1 = Settings.default)

/-- An accepted WRITE SETTING is read back as written, and changes no other setting. -/
def Obligations.WriteSettingThenRead : Prop :=
  ∀ (st new : Settings) (code q : Nat) (i j : Item) (v : Word), st.freezeTable.length = 13 →
    Item.ofCode code q = some i → st.accept i v = some new →
      new.read i = v ∧ (j ≠ i → new.read j = st.read j)

/-! ### Invariants that every step keeps -/

/-- Each quality counter stays within 0 to 15, each demand index within 0 to 1000, and each intake queue within its room
and its pause state. -/
def Obligations.StepKeepsBounds : Prop :=
  ∀ s t, step s = .next t → (s.CountersBounded → t.CountersBounded) ∧ (s.DemandBounded → t.DemandBounded) ∧
    (s.QueuesBounded → t.QueuesBounded)

/-- The image has one record per configured address, and the service orders list every configured unit once. -/
def Obligations.StepKeepsPopulation : Prop :=
  ∀ s t, step s = .next t → (s.ImageFollowsPopulation → t.ImageFollowsPopulation) ∧
    (s.OrdersComplete → t.OrdersComplete)

/-- Each loop's merged target stays between its merged floor and ceiling, and so do its fallback values. -/
def Obligations.StepKeepsMergesOrdered : Prop := ∀ s t, s.MergesOrdered → step s = .next t → t.MergesOrdered

/-- A settle list holds at most 15 items, never two for the same output of the same station. -/
def Obligations.StepKeepsSettleLists : Prop :=
  ∀ s t, s.SettleListsBounded → step s = .next t → t.SettleListsBounded

/-- A write buffer keeps its form, and over an image that follows the population it never holds more than 13 entries. -/
def Obligations.StepKeepsBuffers : Prop :=
  (∀ s t, s.BuffersFormed → step s = .next t → t.BuffersFormed) ∧
    ∀ s : State, s.BuffersFormed → s.ImageFollowsPopulation → ∀ g, (s.buffer.get g).length ≤ 13

/-- The override table keeps its form: at most one record for an output, indices below 16 in ascending order, every record for
an output of a configured station with its hold in range. -/
def Obligations.StepKeepsOverrides : Prop := ∀ s t, s.OverridesFormed → step s = .next t → t.OverridesFormed

/-- The access map keeps its form: aligned blocks in their halves, and no two that one port could use overlap. -/
def Obligations.StepKeepsMap : Prop := ∀ s t, s.MapFormed → step s = .next t → t.MapFormed

/-- The freeze table stays in range and order, and some port stays of class SUPERVISOR. -/
def Obligations.StepKeepsSettings : Prop := ∀ s t, s.SettingsFormed → step s = .next t → t.SettingsFormed

/-- Each loop's freeze point and ambient margin are at all times those of the values they are computed from. -/
def Obligations.StepKeepsMargins : Prop := ∀ s t, s.MarginsCurrent → step s = .next t → t.MarginsCurrent

/-- Each loop's bypass cap is at all times the one its units' frost states give. -/
def Obligations.StepKeepsCaps : Prop := ∀ s t, s.CapsFollowFrost → step s = .next t → t.CapsFollowFrost

/-- A port's fence on a loop is PENDING exactly while an entry or item of the segment bears the port's mark. -/
def Obligations.StepKeepsFences : Prop := ∀ s t, s.FencesFollowMarks → step s = .next t → t.FencesFollowMarks

/-- An idle transmitter of a running part has nothing ready, while the settings load runs the ports hold nothing, and every
frame a port sends or has ready is within its length byte. (That the ports hold no frame under way while the load runs, one
begun before the start-up being cut, is the model's: log entry 30.) -/
def Obligations.StepKeepsTransmitters : Prop :=
  ∀ s t, step s = .next t → (s.TransmittersBusy → t.TransmittersBusy) ∧ (s.LoadingHeld → t.LoadingHeld) ∧
    (s.ImageFollowsPopulation → s.OrdersComplete → s.CapsFollowFrost → s.OverridesFormed → s.FramesBounded →
      t.FramesBounded)

/-- A free segment of a running part has nothing to choose: whatever could be called is called at once; and while the settings
load runs every segment stands as R44 gives, its poll disarmed whatever its line does. -/
def Obligations.StepKeepsSegments : Prop :=
  ∀ s t, step s = .next t → (s.SegmentsBusy → t.SegmentsBusy) ∧ (s.SegmentsHeld → t.SegmentsHeld)

/-- Whatever WRITE a step leaves in flight either was in flight before with the same values, or carries only what frost
protection allows as it starts. -/
def Obligations.WritesStartFiltered : Prop :=
  ∀ (s t : State) (g : SegId) (a : Nat), step s = .next t → t.writing g = some a →
    (s.writing g = some a ∧ t.flyingFields g = s.flyingFields g) ∨ t.Allows g a (t.flyingFields g)

/-- No logical address used by a port matches two valid entries of the access map. -/
def Obligations.TranslationIsUnambiguous : Prop :=
  ∀ s : State, s.MapFormed → ∀ (p : PortId) (a : Nat) (e f : MapEntry), e ∈ s.accessMap → f ∈ s.accessMap →
    e.serves (some p) = true → f.serves (some p) = true → s.covers e a = true → s.covers f a = true → e = f

/-! ### Taking and refusing telegrams -/

/-- A right frame, heard whole by a hunting receiver, joins the tail of an intake queue with room, and the occupancy
reaching 12 while the pause state is CLEAR pauses the port and makes a PAUSE ready. (That the PAUSE stands behind a RESUME
not yet begun is the model's: log entry 35.) -/
def Obligations.TakeFrameQueuesTelegram : Prop :=
  ∀ (s : State) (p : PortId) (t : Telegram) (port : Port), s.phase = .running → port = s.ports.get p →
    port.receiving = none → port.queue.length < 16 → t.body.length ≤ 48 →
    exec (.takeFrame p (frameBytes t.sequence t.kind t.body)) s = .next { s with
      ports := ((s.ports.set (if port.queue.length = 11 ∧ port.paused = false then
          { port with queue := port.queue ++ [t], paused := true, flow := port.flow ++ [.pause] }
        else { port with queue := port.queue ++ [t] }) p).map fun _ x => x.kick s.now) }

/-- A telegram at a full queue is discarded with QUEUE OVERRUN of its port; a frame with a wrong check, or a length no
supervisor's frame has, is discarded with FRAME ERROR of its port, and so is a frame that stops too long, where one is under
way. Nothing else comes of these but the FAULT notice.
(A frame gap with no frame under way, and the length byte's moment, are the model's: log entry 7.) -/
def Obligations.TakeFrameDiscards : Prop :=
  ∀ (s : State) (p : PortId),
    ((s.ports.get p).receiving ≠ none → exec (.frameGapTimeout p) s = .next (State.kickPorts (State.setFault
      { s with ports := s.ports.modify p fun port => { port with receiving := none } } (.frameError p)))) ∧
    ((s.ports.get p).receiving = none → exec (.frameGapTimeout p) s = .next s) ∧
    (s.phase = .running → (s.ports.get p).receiving = none →
    (∀ t : Telegram, t.body.length ≤ 48 → 16 ≤ (s.ports.get p).queue.length →
      exec (.takeFrame p (frameBytes t.sequence t.kind t.body)) s =
        .next (s.setFault (.queueOverrun p)).kickPorts) ∧
    (∀ (len : Byte) (more : List Byte), 2 ≤ len.toNat → len.toNat ≤ 50 → more.length = len.toNat + 2 →
      checked (len :: more) = none →
      exec (.takeFrame p (0xA5#8 :: len :: more)) s = .next (s.setFault (.frameError p)).kickPorts) ∧
    ∀ len : Byte, len.toNat < 2 ∨ 50 < len.toNat →
      exec (.takeFrame p [0xA5#8, len]) s = .next (s.setFault (.frameError p)).kickPorts)

/-- A cause sets its fault flag and no other; newly set, it sets the FAULT bit of every port with notices enabled and of
no other port, and found set it changes nothing. READ FAULTS, of every class, is answered with the flags as they stand;
a SUPERVISOR's read clears every one of them with the reply, and a read by another class clears none; nothing else
changes. No step but a SUPERVISOR's READ FAULTS and a start-up clears a flag. -/
def Obligations.FaultsAreStickyUntilRead : Prop :=
  (∀ (s : State) (f : FaultFlag),
    (s.setFault f).hasFault f = true ∧ (∀ g, g ≠ f → (s.setFault f).hasFault g = s.hasFault g) ∧
    (s.hasFault f = true → s.setFault f = s) ∧
    (s.hasFault f = false → ∀ p, ((s.setFault f).ports.get p).notices =
      if (s.settings.port.get p).notices then (s.ports.get p).notices ||| 0x20#8 else (s.ports.get p).notices)) ∧
  (∀ (s : State) (p : PortId) (t : Telegram), s.Ready p t → t.kind = 0x04#8 →
    (t.body ≠ [] → exec (.readFaults p) s = .next (s.onlyAnswering p [0x10#8])) ∧
    (t.body = [] → exec (.readFaults p) s = .next { s with
      ports := s.portsAnswering p [0x00#8, s.faults.extractLsb' 0 8, s.faults.extractLsb' 8 8, s.faults.extractLsb' 16 8]
      faults := if s.cls p = .supervisor then 0#24 else s.faults })) ∧
  ∀ (s t : State) (f : FaultFlag), step s = .next t → s.hasFault f = true →
    s.pending.head? ≠ some .powerOn → s.pending.head? ≠ some .resetPin →
    (∀ image, s.pending.head? = some (.settingsLoadEnd image) → s.phase = .running) →
    (∀ p x, s.pending.head? = some (.transmitterFrameDone p) → (s.ports.get p).sending = some x →
      x.effect ≠ .restart) →
    (∀ p, s.pending.head? = some (.readFaults p) → s.cls p ≠ .supervisor) → t.hasFault f = true

/-- The port's own two checks: a telegram whose kind code names none is answered REFUSED UNKNOWN KIND (the part's own
kinds and every code from 0x80 on name none), and one whose body has not the length of its kind REFUSED MALFORMED, whatever
the port's class; neither changes anything else. (The kind byte of the reply to an unknown kind of 0x80 or above is
the model's, the sum modulo 256: log entry 29.) -/
def Obligations.PortChecksFirst : Prop :=
  (∀ (s : State) (p : PortId) (t : Telegram), s.Ready p t → t.kind ∉ namedKinds →
    exec (.unknownKind p) s = .next (s.onlyAnswering p [0x19#8])) ∧
    (∀ k : Byte, (0x70 ≤ k.toNat ∧ k.toNat ≤ 0x72) ∨ 0x80 ≤ k.toNat → k ∉ namedKinds) ∧
    ∀ (s : State) (p : PortId) (t : Telegram) (c : Instr) (k : Byte) (n : Nat), (c, k, n) ∈ telegramCommands p →
      s.Ready p t → t.kind = k → t.body.length ≠ n → exec c s = .next (s.onlyAnswering p [0x10#8])

/-- The class table: a telegram the port's class does not allow is answered REFUSED RIGHTS and changes nothing. (A MAP with
rights bits of no meaning is MALFORMED first, the model's choice: log entry 8 and MapPlaces.) -/
def Obligations.ClassRightsEnforced : Prop :=
  ∀ (s : State) (p : PortId) (t : Telegram), s.Ready p t →
    (∀ (c : Instr) (k : Byte) (n : Nat), (c, k, n) ∈ plantCommands p → t.kind = k → t.body.length = n →
      s.cls p = .observer → exec c s = .next (s.onlyAnswering p [0x11#8])) ∧
    (∀ (c : Instr) (k : Byte) (n : Nat), (c, k, n) ∈ supervisorCommands p → t.kind = k → t.body.length = n →
      (k = 0x20#8 → bodyMap t.body ≠ none) → s.cls p ≠ .supervisor →
      exec c s = .next (s.onlyAnswering p [0x11#8])) ∧
    (∀ b : OverrideBody, t.kind = 0x18#8 → bodySetOverride t.body = some b →
      s.cls p = .observer ∨ (s.cls p = .plant ∧ 0x8000 ≤ b.address.toNat) →
      exec (.setOverride p) s = .next (s.onlyAnswering p [0x11#8])) ∧
    ∀ w : Word, t.kind = 0x19#8 → body2 t.body = some w →
      s.cls p = .observer ∨ (s.cls p = .plant ∧ 0x8000 ≤ w.toNat) →
      exec (.releaseOverride p) s = .next (s.onlyAnswering p [0x11#8])

/-! ### Reading -/

/-- READ STATION, READ STATUS, READ OVERRIDES and READ SETTING are answered DONE at once from the values held, to every
class, and change nothing; one that names no segment, loop, address or setting is refused MALFORMED, and an address
outside the population NO POINT. (What the bytes of READ STATUS and READ OVERRIDES carry where the spec gives no code or
nothing to carry: log entries 9, 15 and 31; what a point block without a value carries: log entry 36.) -/
def Obligations.ReadsAnswerFromState : Prop :=
  ∀ (s : State) (p : PortId) (t : Telegram), s.Ready p t →
    (∀ g a : Byte, t.kind = 0x02#8 → t.body = [g, a] →
      (SegId.ofNumber g.toNat = none ∨ a = 0#8 ∨ 12 < a.toNat →
        exec (.readStation p) s = .next (s.onlyAnswering p [0x10#8])) ∧
      ∀ seg, SegId.ofNumber g.toNat = some seg → 1 ≤ a.toNat → a.toNat ≤ 12 →
        (∀ st, s.station? seg a.toNat = some st → exec (.readStation p) s = .next (s.onlyAnswering p (st.reply seg))) ∧
        (s.station? seg a.toNat = none → exec (.readStation p) s = .next (s.onlyAnswering p [0x13#8]))) ∧
    (∀ b : Byte, t.kind = 0x03#8 → t.body = [b] →
      (SegId.ofNumber b.toNat = none → exec (.readStatus p) s = .next (s.onlyAnswering p [0x10#8])) ∧
      ∀ l, SegId.ofNumber b.toNat = some l → exec (.readStatus p) s = .next (s.onlyAnswering p (s.statusReply p l))) ∧
    (t.kind = 0x05#8 → t.body = [] → exec (.readOverrides p) s = .next (s.onlyAnswering p s.overridesReply)) ∧
    ∀ c q : Byte, t.kind = 0x06#8 → t.body = [c, q] →
      (∀ i, Item.ofCode c.toNat q.toNat = some i →
        exec (.readSetting p) s = .next (s.onlyAnswering p (0x00#8 :: c :: q :: be16 (s.settings.read i)))) ∧
      (Item.ofCode c.toNat q.toNat = none → exec (.readSetting p) s = .next (s.onlyAnswering p [0x10#8]))

/-- The layout of the replies. READ STATION is 48 bytes: the head, then a block of five for each point. READ STATUS is 115:
its merge, own slot, demand, service order, freeze, unit, output and segment parts each at its place. READ OVERRIDES is 2
bytes and 15 for each record, in index order. READ POINT of a measurement point is 8 bytes, its direct address and its block,
and of an output 27: the address, which of an OPEN entry, an entry IN FLIGHT, a settle item and an override carry the output,
the allocator, last posted and last written values, the values of those four, the seconds since the item was sent, and the
block of the echo point.
(The codes of READ STATUS's yes/no fields are the model's: log entry 31; what an EMPTY slot, a record without an allocator
run and a fence that is not PENDING carry: log entry 9; what fields told absent by a flag carry: log entry 36; that flag and
presence bits with no name are 0: log entry 38; the remaining hold past a deadline: log entry 15; which way a part of a
second is taken stays open: log entry 5.) -/
def Obligations.ReplySizes : Prop :=
  let block := fun q : Point =>
    let code := match q.quality with
      | .good => 0#8
      | .held => 1#8
      | .stale => 2#8
      | .none => 3#8
    match q.stored with
    | some v => be16 (signedWord v.value) ++ [0x80#8 + code] ++ be16 v.stamp
    | none => [0xFF#8, 0xFF#8, code, 0xFF#8, 0xFF#8]
  (∀ (st : Station) (g : SegId), st.points.length = 8 → (st.reply g).length = 48 ∧
      (st.reply g).take 8 = [0x00#8, byteOf g.number, byteOf st.addr,
        (match st.kind with
          | .unit => 1#8
          | .ambient => 2#8
          | .loop => 3#8),
        byteOf st.counter, (if 8 ≤ st.counter then 0#8 else if st.counter = 0 then 2#8 else 1#8),
        (if st.mode = .auto then 0#8 else 1#8),
        (if st.attention then 1#8 else 0#8) + (if st.mismatch then 2#8 else 0#8)] ∧
      ∀ q, q < 8 → ((st.reply g).drop (8 + 5 * q)).take 5 = block (st.point q)) ∧
    (∀ (s : State) (p : PortId) (l : LoopId), (s.fpb.get l).units.length ≤ 10 → (s.alloc.get l).order.length ≤ 10 →
      let r := s.statusReply p l
      let part := fun from_ size => (r.drop from_).take size
      r.length = 115 ∧ part 0 2 = [0x00#8, byteOf l.number] ∧
      part 2 7 = be16 (signedWord (s.merge.get l).target) ++ be16 (signedWord (s.merge.get l).floor) ++
        be16 (signedWord (s.merge.get l).ceiling) ++ [if (s.merge.get l).conflict then 1#8 else 0#8] ∧
      ((s.slots.get p).get l = none → part 9 11 = 0x00#8 :: List.replicate 10 0xFF#8) ∧
      (∀ x, (s.slots.get p).get l = some x → part 9 11 = [0x01#8] ++ be16 (signedWord x.target) ++
        be16 (signedWord x.floor) ++ be16 (signedWord x.ceiling) ++ be16 (wordOf x.hold) ++
        be16 (wordOf (max 1 ((x.deadline - s.now + 999) / 1000)))) ∧
      part 20 4 = be16 (wordOf (s.alloc.get l).demand) ++ be16 (signedWord (s.alloc.get l).ePrev) ∧
      part 24 2 = be16 (((s.alloc.get l).lastSupply.map signedWord).getD 0x8000#16) ∧
      part 26 2 = [if (s.alloc.get l).supplyValid then 1#8 else 0#8, if (s.alloc.get l).passes = 0 then 1#8 else 0#8] ∧
      ((s.alloc.get l).lastRun = none → part 28 7 = List.replicate 7 0xFF#8) ∧
      (∀ x, (s.alloc.get l).lastRun = some x → part 28 7 = [byteOf x.n, byteOf x.kMin, byteOf x.k] ++
        be16 (wordOf x.speed) ++ be16 (wordOf x.bypass)) ∧
      part 35 1 = [byteOf (s.alloc.get l).order.length] ∧
      part 36 10 = (s.alloc.get l).order.map byteOf ++ List.replicate (10 - (s.alloc.get l).order.length) 0xFF#8 ∧
      part 46 11 = be16 (wordOf (s.fpb.get l).cu) ++ be16 (signedWord (s.fpb.get l).fp) ++ be16 (signedWord s.ta) ++
        be16 (signedWord (s.fpb.get l).ma) ++ [if (s.fpb.get l).permitted then 1#8 else 0#8] ++
        be16 (wordOf (s.fpb.get l).bmax) ∧
      part 57 1 = [byteOf (s.fpb.get l).units.length] ∧
      (∀ n x, (s.fpb.get l).units[n]? = some x → part (58 + 5 * n) 5 = [byteOf x.addr,
        (match x.frost with
          | .normal => 0#8
          | .guard => 1#8
          | .protect => 2#8)] ++ be16 (signedWord x.margin) ++ [if x.iced then 1#8 else 0#8]) ∧
      (∀ n, (s.fpb.get l).units.length ≤ n → n < 10 → part (58 + 5 * n) 5 = List.replicate 5 0xFF#8) ∧
      part 108 3 = [byteOf (s.buffer.get l).length, byteOf (s.settle.get l).length,
        (match (s.fences.get p).get l with
          | .none => 0#8
          | .pending _ => 1#8
          | .settled => 2#8
          | .incomplete => 3#8)] ∧
      part 111 1 = [if ((s.fences.get p).get l).isPending = true then
          byteOf ((s.buffer.get l).countP (fun e => e.marks.get p) + (s.settle.get l).countP fun i => i.marks.get p)
        else 0xFF#8] ∧
      part 112 3 = be16 (s.fsc.get l).passNumber ++ [if s.hasFault (.passOverrun l) then 1#8 else 0#8]) ∧
    (∀ s : State, s.overridesReply.length = 2 + 15 * s.overrides.length ∧
      s.overridesReply.take 2 = [0x00#8, byteOf s.overrides.length] ∧
      ∀ n r, s.overrides[n]? = some r → (s.overridesReply.drop (2 + 15 * n)).take 15 =
        [byteOf r.index, byteOf r.seg.number, byteOf r.station,
          (match r.value with
            | .fan _ => 8#8
            | .valve _ => 9#8
            | .bypass _ => 10#8)] ++ be16 r.value.word ++ [byteOf r.owner.number] ++ be16 (wordOf r.hold) ++
          be16 (wordOf ((r.deadline - s.now + 999) / 1000)) ++
          [if r.delivery = .posted then 0#8 else 1#8, (s.overrideStatus r).code] ++
          be16 ((((s.commands r.seg r.station).writtenValue r.value.output).map OutputValue.word).getD 0xFFFF#16)) ∧
    (∀ s : State, s.OverridesFormed → s.overridesReply.length ≤ 248) ∧
    (∀ (s : State) (g : SegId) (a q d : Nat),
      s.pointReply g a (.point q) d = 0x00#8 :: (be16 (wordOf d) ++ block (s.point g a q))) ∧
    ∀ (s : State) (g : SegId) (a d : Nat) (o : OutputId),
      let word : OutputValue → Word := fun
        | .fan n => wordOf n
        | .valve .toOpen => 0#16
        | .valve .toClose => 1#16
        | .bypass n => wordOf n
      let field := fun v : Option OutputValue => be16 ((v.map word).getD 0xFFFF#16)
      let r := s.pointReply g a (.output o) d
      let part := fun from_ size => (r.drop from_).take size
      let opened := ((s.buffer.get g).find? fun e => e.station == a && e.state == .waiting).bind fun e => e.posted.get? o
      let flying := (s.buffer.get g).findSome? fun e => match e.state with
        | .inFlight sent => if e.station = a then some (e.posted, sent) else none
        | .waiting => none
      let item := (s.settle.get g).find? fun i => i.station == a && i.value.output == o
      let held := s.override? g a o
      r.length = 27 ∧ part 0 3 = 0x00#8 :: be16 (wordOf d) ∧
      part 3 1 = [(if opened = none then 0#8 else 1#8) + (if (flying.bind fun f => f.1.get? o) = none then 0#8 else 2#8) +
        (if item = none then 0#8 else 4#8) + (if held = none then 0#8 else 8#8)] ∧
      part 4 6 = field ((s.commands g a).allocatorValue o) ++ field ((s.commands g a).postedValue o) ++
        field ((s.commands g a).writtenValue o) ∧
      part 10 2 = field opened ∧
      part 12 4 = field (flying.bind fun f => f.1.get? o) ++ field (flying.bind fun f => f.2.get? o) ∧
      part 16 2 = field (item.map SettleItem.value) ∧ (item = none → part 18 2 = [0xFF#8, 0xFF#8]) ∧
      (∀ i, item = some i → ∃ seconds, part 18 2 = be16 (wordOf seconds) ∧ (seconds = (s.now - i.sentAt) / 1000 ∨
        ((s.now - i.sentAt) % 1000 ≠ 0 ∧ seconds = (s.now - i.sentAt) / 1000 + 1))) ∧
      part 20 2 = field (held.map OverrideRecord.value) ∧
      part 22 5 = block (s.point g a (match o with
        | .fan => 4
        | .valve => 3
        | .bypass => 5))

/-- READ POINT, to every class. A fresh code that is neither NO nor YES is refused MALFORMED, and an address that does not
resolve with the refusal its resolution gives, MISS carrying the address. A resolved one is answered at once from what is
held, or, for a station that is not LOST, read through when fresh data are asked for or a measurement point is STALE or
NONE. A read-through waits at the tail of its segment's queue while the segment is busy, and is called at once when the
segment is free with nothing to choose. (That a fresh code of no meaning is a code the kind does not allow, and so MALFORMED:
log entry 8. The bytes of the answer: ReplySizes.) -/
def Obligations.ReadPointAnswersOrReadsThrough : Prop :=
  ∀ (s : State) (p : PortId) (t : Telegram), s.Ready p t → t.kind = 0x01#8 →
    (∀ h l f : Byte, t.body = [h, l, f] → 1 < f.toNat → exec (.readPoint p) s = .next (s.onlyAnswering p [0x10#8])) ∧
    ∀ (w : Word) (fresh : Bool), bodyReadPoint t.body = some (w, fresh) →
      (s.resolveRead p w = .refused .rights → exec (.readPoint p) s = .next (s.onlyAnswering p [0x11#8])) ∧
      (s.resolveRead p w = .refused .noPoint → exec (.readPoint p) s = .next (s.onlyAnswering p [0x13#8])) ∧
      (∀ m, s.resolveRead p w = .miss m → exec (.readPoint p) s = .next (s.onlyAnswering p (0x12#8 :: be16 m))) ∧
      ∀ r : Resolved, s.resolveRead p w = .found r →
        let asks := s.isLost r.seg r.station = false ∧ (fresh = true ∨ ∃ q, r.target = .point q ∧
          ((s.point r.seg r.station q).quality = .stale ∨ (s.point r.seg r.station q).quality = .none))
        (¬asks → exec (.readPoint p) s =
          .next (s.onlyAnswering p (s.pointReply r.seg r.station r.target r.direct))) ∧
        (asks → (s.fsc.get r.seg).activity ≠ .free → exec (.readPoint p) s = .next { s with
          fsc := s.fsc.modify r.seg fun f => { f with readThroughs := f.readThroughs ++
            [{ port := p, station := r.station, target := r.target, address := r.direct, arrived := s.now }] }
          ports := s.ports.map fun _ port => port.kick s.now }) ∧
        (asks → (s.fsc.get r.seg).activity = .free → s.choose r.seg = .nothing →
          ∃ u : State, exec (.readPoint p) s = .next u ∧ u.callOnSegment r.seg = some (.read r.station r.target.number) ∧
            u.portWaits p = true ∧ (u.ports.get p).queue = (s.ports.get p).queue ∧
            u = { s with fsc := u.fsc, ports := s.ports.map fun _ port => port.kick s.now } ∧
            ∀ g, g ≠ r.seg → u.fsc.get g = s.fsc.get g)

/-- What a port's addresses lead to. A direct address names a point exactly when its segment is 0 or 1, its station is in
that segment's population, and its point number is one the station's kind has. A logical address is a MISS where no entry
of the port's own or GLOBAL covers it; an entry that covers it refuses RIGHTS without the right the telegram needs, and
else leads to the direct address at the same offset, refused NO POINT where that names none. To SET OVERRIDE and RELEASE
OVERRIDE an OBSERVER, and a PLANT port with a direct address, are refused RIGHTS first. -/
def Obligations.AddressesResolve : Prop :=
  ∀ (s : State) (p : PortId),
    let judge := fun d : Nat => match s.direct? d with
      | some r => Resolution.found r
      | none => Resolution.refused .noPoint
    let translated := fun (w : Word) (right : MapEntry → Bool) (res : Resolution) =>
      (0x8000 ≤ w.toNat → res = judge w.toNat) ∧
      (w.toNat < 0x8000 → (∀ e ∈ s.accessMap, e.owner = some p ∨ e.owner = none → s.covers e w.toNat = false) →
        res = .miss w) ∧
      ∀ e, w.toNat < 0x8000 → s.MapFormed → e ∈ s.accessMap → e.owner = some p ∨ e.owner = none →
        e.logical ≤ w.toNat → w.toNat < e.logical + s.sizeOf e →
        res = if right e = true then judge (e.physical + (w.toNat - e.logical)) else .refused .rights
    (∀ d r, 0x8000 ≤ d → (s.direct? d = some r ↔
      r.direct = d ∧ r.station ∈ s.settings.population r.seg ∧
      ((∃ q, r.target = .point q ∧ q ≤ 7 ∧ d = 0x8000 + 0x100 * r.seg.number + 0x10 * r.station + q) ∨
        (r.target = .output .fan ∧ kindOf r.station = .unit ∧
          d = 0x8000 + 0x100 * r.seg.number + 0x10 * r.station + 8) ∨
        (r.target = .output .valve ∧ kindOf r.station = .unit ∧
          d = 0x8000 + 0x100 * r.seg.number + 0x10 * r.station + 9) ∨
        (r.target = .output .bypass ∧ kindOf r.station = .loop ∧
          d = 0x8000 + 0x100 * r.seg.number + 0x10 * r.station + 10)))) ∧
    (∀ g a, a ∈ s.settings.population g → 1 ≤ a ∧ a ≤ 12) ∧
    ∀ w : Word, translated w MapEntry.readRight (s.resolveRead p w) ∧
      (s.cls p = .observer ∨ (s.cls p = .plant ∧ 0x8000 ≤ w.toNat) → s.resolveOverride p w = .refused .rights) ∧
      (s.cls p = .supervisor ∨ (s.cls p = .plant ∧ w.toNat < 0x8000) →
        translated w MapEntry.overrideRight (s.resolveOverride p w))

/-! ### Duty requests and fences -/

/-- POST REQUEST is refused RIGHTS to an OBSERVER, MALFORMED with a code of no loop, and MALFORMED with the floor above the
ceiling after clamping, with nothing changed; otherwise the four values are stored in range, the hold runs from now, the
merge is recomputed, with the MERGE bit of a change and the FAULT bit of a CONFLICT newly set, and the reply carries the
values stored, CLAMPED when one of them is not the one carried. -/
def Obligations.PostRequestStores : Prop :=
  ∀ (s : State) (p : PortId) (t : Telegram) (b : RequestBody), s.Ready p t → t.kind = 0x10#8 →
    bodyPostRequest t.body = some b →
    (s.cls p = .observer → exec (.postRequest p) s = .next (s.onlyAnswering p [0x11#8])) ∧
    (s.cls p ≠ .observer → SegId.ofNumber b.loop = none →
      exec (.postRequest p) s = .next (s.onlyAnswering p [0x10#8])) ∧
    ∀ l : LoopId, s.cls p ≠ .observer → SegId.ofNumber b.loop = some l →
    let floor := clamp (-100) 450 b.floor
    let ceiling := clamp (-100) 450 b.ceiling
    let hold := (clamp 10 3600 b.hold).toNat
    let r : Request := { target := clamp floor ceiling (clamp (-100) 450 b.target), floor := floor, ceiling := ceiling,
                         hold := hold, deadline := s.now + 1000 * hold }
    let slots := s.slots.modify p fun x => x.set (some r) l
    let m := mergeOf (s.settings.loop.get l) (PortId.all.filterMap fun q => (slots.get q).get l)
    let faults := if m.conflict = true then s.faults ||| FaultFlag.conflict.mask else s.faults
    let body := (if r.target = b.target ∧ r.floor = b.floor ∧ r.ceiling = b.ceiling ∧ r.hold = b.hold then 0x00#8
        else 0x01#8) ::
      (be16 (signedWord r.target) ++ be16 (signedWord r.floor) ++ be16 (signedWord r.ceiling) ++ be16 (wordOf r.hold))
    (ceiling < floor → exec (.postRequest p) s = .next (s.onlyAnswering p [0x10#8])) ∧
    (floor ≤ ceiling → ∃ u : State, exec (.postRequest p) s = .next u.kickPorts ∧
      u = { s with
        slots := slots, merge := s.merge.set m l, faults := faults
        ports := (s.noticed fun _ => (if m = s.merge.get l then 0#8 else 0x04#8) |||
          (if faults = s.faults then 0#8 else 0x20#8)).modify p (Port.form body .none) } ∧
      s.Answered u p t body)

/-- WITHDRAW REQUEST is refused RIGHTS to an OBSERVER and MALFORMED with a code of no loop; otherwise it empties the port's
own slot and answers DONE, with a merge where the slot was HELD. The expiry of a hold that has run out empties the slot too,
sets REQUEST EXPIRED and merges, with the MERGE bit of a change and the FAULT bit of a flag newly set; one that finds the slot
EMPTY, or posted anew so that its hold has not run out, does nothing.
(The time base, and the moment an expiry carries, are the model's: log entry 2; CONFLICT at a withdrawal: log entry 27.) -/
def Obligations.WithdrawAndExpiryEmptySlot : Prop :=
  (∀ (s : State) (p : PortId) (t : Telegram) (b : Byte), s.Ready p t → t.kind = 0x11#8 → t.body = [b] →
    (s.cls p = .observer → exec (.withdrawRequest p) s = .next (s.onlyAnswering p [0x11#8])) ∧
    (s.cls p ≠ .observer → SegId.ofNumber b.toNat = none →
      exec (.withdrawRequest p) s = .next (s.onlyAnswering p [0x10#8]))) ∧
  ∀ (s : State) (p : PortId) (l : LoopId),
    let slots := s.slots.modify p fun x => x.set none l
    let m := mergeOf (s.settings.loop.get l) (PortId.all.filterMap fun q => (slots.get q).get l)
    let withConflict := fun f : BitVec 24 => if m.conflict = true then f ||| FaultFlag.conflict.mask else f
    let bits := fun faults : BitVec 24 =>
      (if m = s.merge.get l then 0#8 else 0x04#8) ||| (if faults = s.faults then 0#8 else 0x20#8)
    (∀ (t : Telegram) (b : Byte), s.Ready p t → t.kind = 0x11#8 → t.body = [b] → SegId.ofNumber b.toNat = some l →
      s.cls p ≠ .observer →
      ((s.slots.get p).get l = none → exec (.withdrawRequest p) s = .next (s.onlyAnswering p [0x00#8])) ∧
      ((s.slots.get p).get l ≠ none → ∃ u : State, exec (.withdrawRequest p) s = .next u.kickPorts ∧
        u = { s with
          slots := slots, merge := s.merge.set m l, faults := withConflict s.faults
          ports := (s.noticed fun _ => bits (withConflict s.faults)).modify p (Port.form [0x00#8] .none) } ∧
        s.Answered u p t [0x00#8])) ∧
    ∀ moment : Nat,
      ((s.slots.get p).get l = none → exec (.requestExpiry p ⟨l, moment⟩) s = .next s) ∧
      ∀ r, (s.slots.get p).get l = some r →
        (max s.now moment < r.deadline → exec (.requestExpiry p ⟨l, moment⟩) s = .next s) ∧
        (r.deadline ≤ max s.now moment →
          let faults := withConflict (s.faults ||| FaultFlag.requestExpired.mask)
          exec (.requestExpiry p ⟨l, moment⟩) s = .next (State.kickPorts { s with
            now := max s.now moment, slots := slots, merge := s.merge.set m l, faults := faults
            ports := s.noticed fun _ => bits faults }))

/-- The merge of some requests: the lowest ceiling, the highest floor or, at a clash, that ceiling, and the lowest target
kept between them; over no request, the fallback values; and the order of the requests does not matter. -/
def Obligations.MergeRule : Prop :=
  ∀ d : LoopSettings,
    mergeOf d [] = { target := d.fbTarget, floor := d.fbFloor, ceiling := d.fbCeiling, conflict := false } ∧
    ∀ rs : List Request, rs ≠ [] →
      let m := mergeOf d rs
      ((∃ r ∈ rs, r.ceiling = m.ceiling) ∧ ∀ r ∈ rs, m.ceiling ≤ r.ceiling) ∧
      (m.conflict = false → (∃ r ∈ rs, r.floor = m.floor) ∧ ∀ r ∈ rs, r.floor ≤ m.floor) ∧
      (m.conflict = true → m.floor = m.ceiling ∧ m.target = m.ceiling ∧ ∃ r ∈ rs, m.ceiling < r.floor) ∧
      (m.floor ≤ m.target ∧ m.target ≤ m.ceiling) ∧
      (∃ r ∈ rs, (∀ q ∈ rs, r.target ≤ q.target) ∧ m.target = clamp m.floor m.ceiling r.target) ∧
      ∀ qs, rs.Perm qs → mergeOf d qs = m

/-- FENCE is refused RIGHTS to an OBSERVER, MALFORMED with a code of no loop, and BUSY while the port's fence on the loop is
PENDING; otherwise the port's mark goes on every entry and item of the segment, the record is PENDING with no failure mark,
or SETTLED at once, with the port's FENCE bit where its notices are enabled, with nothing outstanding, and the reply is
DONE. -/
def Obligations.FenceTaken : Prop :=
  ∀ (s : State) (p : PortId) (t : Telegram) (b : Byte), s.FencesFollowMarks → s.Ready p t →
    t.kind = 0x12#8 → t.body = [b] →
    (s.cls p = .observer → exec (.fence p) s = .next (s.onlyAnswering p [0x11#8])) ∧
    (s.cls p ≠ .observer → SegId.ofNumber b.toNat = none → exec (.fence p) s = .next (s.onlyAnswering p [0x10#8])) ∧
    ∀ l : LoopId, s.cls p ≠ .observer → SegId.ofNumber b.toNat = some l →
    (((s.fences.get p).get l).isPending = true → exec (.fence p) s = .next (s.onlyAnswering p [0x14#8])) ∧
    (((s.fences.get p).get l).isPending = false → ∃ u : State, exec (.fence p) s = .next u.kickPorts ∧
      u = { s with
        buffer := s.buffer.modify l fun es => es.map fun e => { e with marks := e.marks.set true p }
        settle := s.settle.modify l fun is => is.map fun i => { i with marks := i.marks.set true p }
        fences := s.fences.modify p fun x => x.set
          (if s.buffer.get l = [] ∧ s.settle.get l = [] then .settled else .pending false) l
        ports := (s.noticed fun q => if q = p ∧ s.buffer.get l = [] ∧ s.settle.get l = [] then 0x10#8 else 0#8).modify p
          (Port.form [0x00#8] .none) } ∧
      s.Answered u p t [0x00#8])

/-! ### Overrides -/

/-- SET OVERRIDE. An address that does not resolve is refused as its resolution gives; a measurement point, or a VALVE code
that is neither OPEN nor CLOSE, MALFORMED; BUSY against another port's record that may not be displaced; FULL with no
record and all 16 indices in use. Otherwise there is a record, new at the lowest free index or the old one replaced, with its
hold running from now; the reply carries the index, the value and hold stored and the owner, CLAMPED where one differs from
what was carried; its value is posted with the port's tag where the station is neither LOCAL nor LOST, and else WAITS. A
displaced owner with notices enabled gets its OVERRIDE bit. A post merges into the station's OPEN entry, which keeps its place
and its marks, takes each field posted and the origin; with no OPEN entry of the station it joins the tail, with no mark. -/
def Obligations.SetOverridePlaces : Prop :=
  (∀ (a : Nat) (f : Fields) (origin : Option PortId),
    let origins : PortSet := { p0 := decide (origin = some .sp0), p1 := decide (origin = some .sp1),
                               p2 := decide (origin = some .sp2), p3 := decide (origin = some .sp3) }
    (∀ es : List Entry, (∀ x ∈ es, x.station = a → x.state ≠ .waiting) → mergePost a f origin es =
      es ++ [{ station := a, posted := f, origins := origins, marks := PortSet.empty, state := .waiting }]) ∧
    ∀ (before after : List Entry) (e : Entry), (∀ x ∈ before, x.station = a → x.state ≠ .waiting) → e.station = a →
      e.state = .waiting → mergePost a f origin (before ++ e :: after) = before ++ { e with
        posted := { fan := if f.fan = none then e.posted.fan else f.fan
                    valve := if f.valve = none then e.posted.valve else f.valve
                    bypass := if f.bypass = none then e.posted.bypass else f.bypass }
        origins := e.origins.union origins } :: after) ∧
  ∀ (s : State) (p : PortId) (t : Telegram) (b : OverrideBody),
    s.Ready p t → t.kind = 0x18#8 → bodySetOverride t.body = some b →
    let answer := fun body => exec (.setOverride p) s = .next (s.onlyAnswering p body)
    (s.resolveOverride p b.address = .refused .rights → answer [0x11#8]) ∧
    (s.resolveOverride p b.address = .refused .noPoint → answer [0x13#8]) ∧
    (∀ m, s.resolveOverride p b.address = .miss m → answer (0x12#8 :: be16 m)) ∧
    ∀ r : Resolved, s.resolveOverride p b.address = .found r →
    (∀ q, r.target = .point q → answer [0x10#8]) ∧
    ∀ o, r.target = .output o →
    (o = .valve → b.value ≠ 0 → b.value ≠ 1 → answer [0x10#8]) ∧
    ∀ v, overrideValue o b.value = some v →
    let hold := (clamp 10 3600 b.hold).toNat
    let placed := fun i : Nat => ({ index := i, seg := r.seg, station := r.station, value := v, owner := p, hold := hold,
                                    deadline := s.now + 1000 * hold,
                                    delivery := if s.answers r.seg r.station then .posted else .waiting } : OverrideRecord)
    let buffer := if s.answers r.seg r.station then s.buffer.modify r.seg (mergePost r.station v.fields (some p))
      else s.buffer
    let number : Int := match v with
      | .fan n => n
      | .valve .toOpen => 0
      | .valve .toClose => 1
      | .bypass n => n
    let reply := fun i : Nat => (if number = b.value ∧ hold = b.hold then 0x00#8 else 0x01#8) ::
      (byteOf i :: (be16 (signedWord number) ++ be16 (wordOf hold) ++ [byteOf p.number]))
    (o = .fan → v = .fan (clamp 0 1000 b.value).toNat) ∧ (o = .bypass → v = .bypass (clamp 0 1000 b.value).toNat) ∧
    (o = .valve → v = .valve (if b.value = 0 then .toOpen else .toClose)) ∧
    (s.answers r.seg r.station = true ↔
      ∃ st, s.station? r.seg r.station = some st ∧ st.counter ≠ 0 ∧ st.mode = .auto) ∧
    (s.override? r.seg r.station o = none → (∀ i, i < 16 → ∃ x ∈ s.overrides, x.index = i) → answer [0x15#8]) ∧
    (s.override? r.seg r.station o = none → ∀ i, i < 16 → (∀ x ∈ s.overrides, x.index ≠ i) →
      (∀ j, j < i → ∃ x ∈ s.overrides, x.index = j) → ∃ u : State,
      exec (.setOverride p) s = .next (u.arbitrate r.seg).kickPorts ∧
      u = { s with
        overrides := insertRecord (placed i) s.overrides, buffer := buffer
        ports := s.ports.modify p (Port.form (reply i) .none) } ∧
      s.Answered u p t (reply i)) ∧
    ∀ old, s.override? r.seg r.station o = some old →
      let may := old.owner = p ∨ (s.cls p = .supervisor ∧ s.cls old.owner ≠ .supervisor)
      (¬may → answer [0x14#8]) ∧
      (may → ∃ u : State, exec (.setOverride p) s = .next (u.arbitrate r.seg).kickPorts ∧
        u = { s with
          overrides := s.overrides.map fun x => if x.index = old.index then placed old.index else x
          buffer := buffer
          ports := (s.noticed fun q => if q = old.owner ∧ q ≠ p then 0x08#8 else 0#8).modify p
            (Port.form (reply old.index) .none) } ∧
        s.Answered u p t (reply old.index))

/-- RELEASE OVERRIDE is refused as SET OVERRIDE is where its address does not resolve to an output. Of an output: DONE with
no change where it has no record, RIGHTS from a port that neither owns the
record nor is SUPERVISOR, and otherwise the record is removed and the output handed back to its allocator. The expiry of a
record whose hold has run out removes it and hands back in the same way, with the owner's OVERRIDE bit where its notices are
enabled; one that finds no record, or one set anew so that its hold has not run out, does nothing.
(The time base, and the moment an expiry carries, are the model's: log entry 2.) -/
def Obligations.ReleaseAndExpiryHandBack : Prop :=
  ∀ s : State,
    (∀ (p : PortId) (t : Telegram) (w : Word), s.Ready p t → t.kind = 0x19#8 → body2 t.body = some w →
      let answer := fun body => exec (.releaseOverride p) s = .next (s.onlyAnswering p body)
      (s.resolveOverride p w = .refused .rights → answer [0x11#8]) ∧
      (s.resolveOverride p w = .refused .noPoint → answer [0x13#8]) ∧
      (∀ m, s.resolveOverride p w = .miss m → answer (0x12#8 :: be16 m)) ∧
      ∀ r q, s.resolveOverride p w = .found r → r.target = .point q → answer [0x10#8]) ∧
    (∀ (p : PortId) (t : Telegram) (w : Word) (r : Resolved) (o : OutputId), s.Ready p t → t.kind = 0x19#8 →
      body2 t.body = some w → s.resolveOverride p w = .found r → r.target = .output o →
      (s.override? r.seg r.station o = none → exec (.releaseOverride p) s = .next (s.onlyAnswering p [0x00#8])) ∧
      ∀ old, s.override? r.seg r.station o = some old →
        (old.owner ≠ p → s.cls p ≠ .supervisor →
          exec (.releaseOverride p) s = .next (s.onlyAnswering p [0x11#8])) ∧
        (old.owner = p ∨ s.cls p = .supervisor → ∃ u : State,
          exec (.releaseOverride p) s = .next (u.arbitrate r.seg).kickPorts ∧
          u = { s with
            overrides := s.overrides.filter fun x => x.index != old.index
            buffer := u.buffer, alloc := u.alloc
            ports := (s.noticed fun q => if q = old.owner ∧ q ≠ p then 0x08#8 else 0#8).modify p
              (Port.form [0x00#8] .none) } ∧
          s.HandedBack u r.seg r.station o ∧ s.Answered u p t [0x00#8])) ∧
    (∀ i moment : Nat, (∀ x ∈ s.overrides, x.index ≠ i) → exec (.overrideExpiry ⟨i, moment⟩) s = .next s) ∧
    ∀ (i moment : Nat) (r : OverrideRecord), s.overrides.find? (fun x => x.index == i) = some r →
      (max s.now moment < r.deadline → exec (.overrideExpiry ⟨i, moment⟩) s = .next s) ∧
      (r.deadline ≤ max s.now moment → ∃ u : State,
      exec (.overrideExpiry ⟨i, moment⟩) s = .next (u.arbitrate r.seg).kickPorts ∧
      u = { s with
        now := max s.now moment, overrides := s.overrides.filter fun x => x.index != i
        buffer := u.buffer, alloc := u.alloc
        ports := s.noticed fun p => if p = r.owner then 0x08#8 else 0#8 } ∧
      s.HandedBack u r.seg r.station r.value.output)

/-! ### The access map -/

/-- MAP, in the order of its checks: RIGHTS from a port that is not SUPERVISOR, MALFORMED, SIZE, DUPLICATE, FULL, or the
entry is placed at the index answered, which is the lowest free one of a bank of the block's size, bank L before bank
H. (That rights bits other than READ and OVERRIDE are a code the kind does not allow, and so MALFORMED before the class is
looked at, is the model's: log entry 8.) -/
def Obligations.MapPlaces : Prop :=
  (∀ (s : State) (p : PortId) (t : Telegram) (owner l1 l0 size p1 p0 rights : Byte), s.Ready p t → t.kind = 0x20#8 →
    t.body = [owner, l1, l0, size, p1, p0, rights] → 3 < rights.toNat →
    exec (.map p) s = .next (s.onlyAnswering p [0x10#8])) ∧
  ∀ (s : State) (p : PortId) (t : Telegram) (b : MapBody), s.Ready p t → t.kind = 0x20#8 → bodyMap t.body = some b →
    let answer := fun body => exec (.map p) s = .next (s.onlyAnswering p body)
    let allowed := (b.owner < 4 ∨ b.owner = 0xFF) ∧ b.logical < 0x8000 ∧ 0x8000 ≤ b.physical ∧ b.size ∈ [1, 4, 16, 64] ∧
      b.logical % b.size = 0 ∧ b.physical % b.size = 0
    let clash := fun (owner : Option PortId) (e : MapEntry) =>
      (e.owner = owner ∨ e.owner = none ∨ owner = none) ∧ b.logical < e.logical + s.sizeOf e ∧ e.logical < b.logical + b.size
    let free := fun i : Nat => i < 64 ∧ s.settings.blockSize (bankOf i) = b.size ∧ ∀ e ∈ s.accessMap, e.index ≠ i
    (s.cls p ≠ .supervisor → answer [0x11#8]) ∧
    (s.cls p = .supervisor → ¬allowed → answer [0x10#8]) ∧
    ∀ owner, s.cls p = .supervisor → ownerOf b.owner = some owner → allowed →
      (s.settings.blockLow ≠ b.size → s.settings.blockHigh ≠ b.size → answer [0x17#8]) ∧
      (s.settings.blockLow = b.size ∨ s.settings.blockHigh = b.size →
        ((∃ e ∈ s.accessMap, clash owner e) → answer [0x16#8]) ∧
        ((∀ e ∈ s.accessMap, ¬clash owner e) →
          ((∀ i, ¬free i) → answer [0x15#8]) ∧
          ∀ i, free i → (∀ j, j < i → ¬free j) →
            exec (.map p) s = .next { s with
              accessMap := insertEntry { index := i, owner := owner, logical := b.logical, physical := b.physical,
                                         readRight := b.readRight, overrideRight := b.overrideRight } s.accessMap
              ports := s.portsAnswering p [0x00#8, byteOf i] }))

/-- The other map telegrams are refused RIGHTS from a port that is not SUPERVISOR, and MALFORMED with an owner code, an
address or a bank code that is none. UNMAP removes the entry of exactly its owner that covers the address, and answers its
index or 0xFF; FLUSH empties its bank and answers how many entries it held; the probes answer the entry found, or none, and
change nothing. (The filler of a reply that finds no entry is the model's reading: log entry 9; that rights bits with no name
are 0: log entry 38.) -/
def Obligations.UnmapFlushAndProbe : Prop :=
  (∀ (s : State) (p : PortId) (t : Telegram) (c : Instr) (k : Byte) (n : Nat),
    (c, k, n) ∈ [(Instr.unmap p, 0x21#8, 3), (Instr.flush p, 0x22#8, 1), (Instr.probeByAddress p, 0x23#8, 3),
      (Instr.probeByIndex p, 0x24#8, 1)] → s.Ready p t → t.kind = k → t.body.length = n → s.cls p ≠ .supervisor →
      exec c s = .next (s.onlyAnswering p [0x11#8])) ∧
  ∀ (s : State) (p : PortId) (t : Telegram), s.Ready p t → s.cls p = .supervisor →
    (∀ o a : Nat, bodyOwned t.body = some (o, a) → (4 ≤ o ∧ o ≠ 0xFF) ∨ 0x8000 ≤ a →
      (t.kind = 0x21#8 → exec (.unmap p) s = .next (s.onlyAnswering p [0x10#8])) ∧
      (t.kind = 0x23#8 → exec (.probeByAddress p) s = .next (s.onlyAnswering p [0x10#8]))) ∧
    (∀ (o a : Nat) (owner : Option PortId), bodyOwned t.body = some (o, a) → ownerOf o = some owner → a < 0x8000 →
      (t.kind = 0x21#8 →
        (∀ e, s.accessMap.find? (fun e => e.owner == owner && s.covers e a) = some e →
          exec (.unmap p) s = .next { s with
            accessMap := s.accessMap.filter fun x => x.index != e.index
            ports := s.portsAnswering p [0x00#8, byteOf e.index] }) ∧
        ((∀ e ∈ s.accessMap, e.owner = owner → s.covers e a = false) →
          exec (.unmap p) s = .next (s.onlyAnswering p [0x00#8, 0xFF#8]))) ∧
      (t.kind = 0x23#8 →
        (∀ e, s.match? owner a = some e → exec (.probeByAddress p) s = .next (s.onlyAnswering p
          (0x00#8 :: (s.entryBytes e ++ be16 (wordOf (e.physical + (a - e.logical))))))) ∧
        (s.match? owner a = none → exec (.probeByAddress p) s = .next (s.onlyAnswering p
          (0x00#8 :: 0x00#8 :: List.replicate 10 0xFF#8))))) ∧
    (∀ c : Byte, t.kind = 0x22#8 → t.body = [c] →
      (1 < c.toNat → exec (.flush p) s = .next (s.onlyAnswering p [0x10#8])) ∧
      ∀ k : Bank, (c = 0#8 ∧ k = .low ∨ c = 1#8 ∧ k = .high) → exec (.flush p) s = .next { s with
        accessMap := s.accessMap.filter fun e => bankOf e.index != k
        ports := s.portsAnswering p [0x00#8, byteOf (s.accessMap.countP fun e => bankOf e.index == k)] }) ∧
    ∀ i : Byte, t.kind = 0x24#8 → t.body = [i] →
      (∀ e, s.accessMap.find? (fun e => e.index == i.toNat) = some e →
        exec (.probeByIndex p) s = .next (s.onlyAnswering p (0x00#8 :: s.entryBytes e))) ∧
      ((∀ e ∈ s.accessMap, e.index ≠ i.toNat) →
        exec (.probeByIndex p) s = .next (s.onlyAnswering p (0x00#8 :: 0x00#8 :: List.replicate 8 0xFF#8))) ∧
      ∀ e : MapEntry, s.entryBytes e = [0x01#8, byteOf e.index, (match e.owner with
          | some .sp0 => 0#8
          | some .sp1 => 1#8
          | some .sp2 => 2#8
          | some .sp3 => 3#8
          | none => 0xFF#8)] ++ be16 (wordOf e.logical) ++ [byteOf (s.settings.blockSize (bankOf e.index))] ++
        be16 (wordOf e.physical) ++ [(if e.readRight then 1#8 else 0#8) + (if e.overrideRight then 2#8 else 0#8)]

/-! ### Marking stale, settings, saving, RESTART -/

/-- MARK STALE from a SUPERVISOR port makes every point of the segment STALE, with its value and stamp, and changes
nothing else; from another port it is refused RIGHTS, and with a segment number other than 0 or 1 MALFORMED. -/
def Obligations.MarkStaleMarks : Prop :=
  ∀ (s : State) (p : PortId) (t : Telegram) (b : Byte), s.Ready p t → t.kind = 0x28#8 → t.body = [b] →
    (s.cls p ≠ .supervisor → exec (.markStale p) s = .next (s.onlyAnswering p [0x11#8])) ∧
    (s.cls p = .supervisor → ∀ g, SegId.ofNumber b.toNat = some g → exec (.markStale p) s = .next { s with
      image := s.image.modify g fun sts => sts.map fun st =>
        { st with points := st.points.map fun q => { q with quality := .stale } }
      ports := s.portsAnswering p [0x00#8] }) ∧
    (s.cls p = .supervisor → SegId.ofNumber b.toNat = none →
      exec (.markStale p) s = .next (s.onlyAnswering p [0x10#8]))

/-- WRITE SETTING from a SUPERVISOR port: MALFORMED for no setting, BUSY while a save runs or a RESTART is pending, RANGE
for a value not accepted, each with nothing changed; an accepted write changes the setting in force and what its owning
rule says: nothing more, the notice bits of a port turned off, the rate of a port once the reply has left, the merge, the
rotation timer, the last posted FAN of units in GUARD, the bank; or the Freeze Protection Block's values: the loop's
concentration in use for its nominal concentration, its flow adequate mark for its minimum flow, every freeze point for the
freeze table, the yard ambient, with AMBIENT LOST where no mast reading is valid, for the design minimum, and every margin
and frost state for the guard band. A population or mask equal to the one in force is answered DONE and changes nothing.
(A population or mask that changes the value in force: the next statement. That a standing clash sets a cleared CONFLICT
again, with its FAULT bit: log entry 27.) -/
def Obligations.WriteSettingApplies : Prop :=
  ∀ (s : State) (p : PortId) (t : Telegram) (b : SettingBody), s.Ready p t → t.kind = 0x30#8 →
    bodyWriteSetting t.body = some b → s.cls p = .supervisor →
    let run := exec (.writeSetting p) s
    let busy := s.saving ≠ none ∨ s.restartPending = true
    (Item.ofCode b.item b.qualifier = none → run = .next (s.onlyAnswering p [0x10#8])) ∧
    ∀ i, Item.ofCode b.item b.qualifier = some i →
      (busy → run = .next (s.onlyAnswering p [0x14#8])) ∧
      (¬busy → s.settings.accept i b.value = none → run = .next (s.onlyAnswering p [0x18#8])) ∧
      ∀ new, ¬busy → s.settings.accept i b.value = some new →
        let done := s.portsAnswering p [0x00#8]
        (i.plain = true → run = .next { s with settings := new, ports := done }) ∧
        (∀ g, i = .population g ∨ i = .mask g → new.seg.get g = s.settings.seg.get g →
          run = .next (s.onlyAnswering p [0x00#8])) ∧
        (∀ q, i = .notices q → ∃ u : State, run = .next u.kickPorts ∧
          u = { s with settings := new, ports := u.ports } ∧ s.Answered u p t [0x00#8] ∧
          ((new.port.get q).notices = false → (u.ports.get q).notices = 0#8)) ∧
        (∀ q, i = .rate q → run = .next { s with
          settings := new
          ports := (s.ports.modify p (Port.form [0x00#8] (.lineRate q (new.port.get q).rate))).map fun _ x =>
            x.kick s.now }) ∧
        (∀ l, i = .fbTarget l ∨ i = .fbFloor l ∨ i = .fbCeiling l →
          let m := mergeOf (new.loop.get l) (s.held l)
          let faults := if m.conflict = true then s.faults ||| FaultFlag.conflict.mask else s.faults
          ∃ u : State, run = .next u.kickPorts ∧
          u = { s with
            settings := new, merge := s.merge.set m l, faults := faults
            ports := (s.noticed fun _ => (if m = s.merge.get l then 0#8 else 0x04#8) |||
              (if faults = s.faults then 0#8 else 0x20#8)).modify p (Port.form [0x00#8] .none) } ∧
          s.Answered u p t [0x00#8] ∧ (s.held l ≠ [] → ∀ old, m = mergeOf old (s.held l))) ∧
        (∀ l, i = .rotation l → run = .next { s with
          settings := new, ports := done
          alloc := s.alloc.modify l fun al => { al with
            rotation := if al.rotation = none ∧ (new.loop.get l).rotation ≠ 0 then
                some (s.now + (new.loop.get l).rotation * 3600000) else al.rotation } }) ∧
        (∀ l, i = .guardCap l → ∃ u : State, run = .next u.kickPorts ∧
          u = { s with settings := new, alloc := u.alloc, ports := u.ports } ∧ s.Answered u p t [0x00#8] ∧
          ∀ x ∈ (s.fpb.get l).units, x.frost = .guard → (u.commands l x.addr).fan.posted = none) ∧
        (∀ k, i = .block k → run = .next { s with
          settings := new, ports := done, accessMap := s.accessMap.filter fun e => bankOf e.index != k }) ∧
        (i.frosts = true → ∃ u : State, run = .next u.kickPorts ∧
          u = { s with
            settings := new, fpb := u.fpb, ta := u.ta, alloc := u.alloc, faults := u.faults, ports := u.ports } ∧
          s.Answered u p t [0x00#8] ∧ (∀ f, s.hasFault f = true → u.hasFault f = true) ∧
          (∀ l, i = .nominal l → u.ta = s.ta ∧ (∀ k, k ≠ l → u.fpb.get k = s.fpb.get k) ∧
            (u.fpb.get l).flowAdequate = (s.fpb.get l).flowAdequate ∧
            (∀ v, s.validPoint l 12 3 = some v →
              ((u.fpb.get l).cu : Int) = max 0 (min 600 (min v (new.loop.get l).nominal))) ∧
            (s.validPoint l 12 3 = none → (u.fpb.get l).cu = (new.loop.get l).nominal - 50) ∧
            (u.fpb.get l).fp = if (u.fpb.get l).cu = (s.fpb.get l).cu then (s.fpb.get l).fp
              else freezePoint new.freezeTable (u.fpb.get l).cu) ∧
          (∀ l, i = .minFlow l → u.ta = s.ta ∧ (∀ k, k ≠ l → u.fpb.get k = s.fpb.get k) ∧
            (u.fpb.get l).cu = (s.fpb.get l).cu ∧ (u.fpb.get l).fp = (s.fpb.get l).fp ∧
            ((u.fpb.get l).flowAdequate = true ↔
              ∃ v, s.validPoint l 12 2 = some v ∧ ((new.loop.get l).minFlow : Int) ≤ v)) ∧
          (∀ n, i = .freeze n → u.ta = s.ta ∧ ∀ l, (u.fpb.get l).cu = (s.fpb.get l).cu ∧
            (u.fpb.get l).flowAdequate = (s.fpb.get l).flowAdequate ∧
            (u.fpb.get l).fp = freezePoint new.freezeTable (s.fpb.get l).cu) ∧
          (i = .designMin →
            ((∀ g q, q < 2 → s.validPoint g 11 q = none) → u.ta = new.designMin ∧ u.hasFault .ambientLost = true) ∧
            (∀ g q v, q < 2 → s.validPoint g 11 q = some v →
              (∀ h r w, r < 2 → s.validPoint h 11 r = some w → v ≤ w) → u.ta = v) ∧
            ∀ l, (u.fpb.get l).cu = (s.fpb.get l).cu ∧ (u.fpb.get l).fp = (s.fpb.get l).fp ∧
              (u.fpb.get l).flowAdequate = (s.fpb.get l).flowAdequate) ∧
          (i = .guardBand → u.ta = s.ta ∧ ∀ l, (u.fpb.get l).cu = (s.fpb.get l).cu ∧
            (u.fpb.get l).fp = (s.fpb.get l).fp ∧ (u.fpb.get l).flowAdequate = (s.fpb.get l).flowAdequate ∧
            (u.fpb.get l).ma = s.ta - ((s.fpb.get l).fp + new.guardBand) ∧
            (u.fpb.get l).permitted = (if (s.fpb.get l).permitted then decide (30 ≤ (u.fpb.get l).ma)
              else decide (50 ≤ (u.fpb.get l).ma)) ∧
            ∀ (n : Nat) x, (s.fpb.get l).units[n]? = some x → ∃ y, (u.fpb.get l).units[n]? = some y ∧
              y.addr = x.addr ∧ y.shortfall = x.shortfall ∧ y.iced = x.iced ∧
              y.margin = coilMargin (s.outletUsed l x.addr) (s.fpb.get l).fp new.guardBand ∧
              y.frost = frostNext x.frost y.margin))

/-- An accepted write of a population, or of an attention mask, that changes the value in force is answered DONE and restarts
the segment with the setting: fresh records, an empty buffer, settle list and read-through queue, pending fences INCOMPLETE,
the allocator at its warm-up with its demand kept, command records kept with the last posted values unknown, created or
dropped, override records WAITING or gone; freeze protection computed afresh in one event, isolation WITHDRAWN until the
ambient margin computed permits it, units kept with their frost state and icing mark, or created in GUARD, their shortfall 0;
the OVERRIDE and FENCE bits of the ports concerned; and discovery from the lowest address, at once or when the window of the
abandoned attempt has run out; with no address configured, discovery ends there, and the first pass starts and ends at once.
The read-throughs that stood are answered from the fresh records. The other segment and the access map are not touched. (What
a fresh point's block carries: log entry 36; that an abandoned attempt, an attention poll among them, is waited out to the
end it had: log entry 11; that the read-throughs are answered after every block has been restarted: log entry 20.) -/
def Obligations.WriteSettingRestartsSegment : Prop :=
  ∀ (s : State) (p : PortId) (t : Telegram) (b : SettingBody) (i : Item) (g : SegId) (new : Settings),
    s.Ready p t → t.kind = 0x30#8 → bodyWriteSetting t.body = some b → s.cls p = .supervisor →
    s.saving = none → s.restartPending = false → Item.ofCode b.item b.qualifier = some i →
    s.settings.accept i b.value = some new → i = .population g ∨ i = .mask g → new.seg.get g ≠ s.settings.seg.get g →
    let waits := match (s.fsc.get g).activity with
      | .busy x => some x.ends
      | .quiet e => some e
      | _ => none
    ∃ u : State, exec (.writeSetting p) s = .next u.kickPorts ∧ u.settings = new ∧ u.accessMap = s.accessMap ∧
      u.slots = s.slots ∧
      (u.ports.get p).queue = (s.ports.get p).queue.tail ∧
      (u.ports.get p).replies = (s.ports.get p).replies ++ [replyFrame t [0x00#8] .none] ∧
      (∀ q, q ≠ p → (∀ e ∈ (s.fsc.get g).readThroughs, e.port ≠ q) →
        (u.ports.get q).queue = (s.ports.get q).queue ∧ (u.ports.get q).replies = (s.ports.get q).replies) ∧
      (∀ e t', (s.fsc.get g).readThroughs.filter (fun x => x.port == e.port) = [e] →
        (s.ports.get e.port).queue.head? = some t' → (u.ports.get e.port).queue = (s.ports.get e.port).queue.tail ∧
        ∀ n, e.target = .point n → (u.ports.get e.port).replies = (s.ports.get e.port).replies ++
          [replyFrame t' (0x00#8 :: be16 (wordOf e.address) ++ [0xFF#8, 0xFF#8, 0x03#8, 0xFF#8, 0xFF#8]) .none]) ∧
      u.image.get g = (new.population g).map Station.fresh ∧ u.buffer.get g = [] ∧ u.settle.get g = [] ∧
      (∀ q, (u.fences.get q).get g = if ((s.fences.get q).get g).isPending then .incomplete
        else (s.fences.get q).get g) ∧
      (u.fsc.get g).readThroughs = [] ∧ (u.fsc.get g).owed = none ∧ (u.fsc.get g).passRunning = false ∧
      (u.fsc.get g).startDue = false ∧ (u.fsc.get g).revived = [] ∧
      (u.alloc.get g).demand = (s.alloc.get g).demand ∧ (u.alloc.get g).ePrev = (s.alloc.get g).ePrev ∧
      (i = .population g → (u.alloc.get g).order = unitsOf (new.population g)) ∧
      (i = .mask g → (u.alloc.get g).order = (s.alloc.get g).order) ∧
      (∀ r, r ∈ u.overrides ↔ ∃ x ∈ s.overrides, (x.seg = g → x.station ∈ new.population g) ∧
        r = if x.seg = g then { x with delivery := .waiting } else x) ∧
      -- the loop's command records
      (u.alloc.get g).commands = (outputStations (new.population g)).map (fun a => match s.commands? g a with
        | some c => { c with
          fan := { c.fan with posted := none }, valve := { c.valve with posted := none }
          bypass := { c.bypass with posted := none } }
        | none => StationCommands.fresh a) ∧
      -- freeze protection
      (let old := s.fpb.get g
       let f := u.fpb.get g
       let mast := fun v : Int => ∃ h q, h ≠ g ∧ q < 2 ∧ s.validPoint h 11 q = some v
       f.cu = (clamp 0 600 (((new.loop.get g).nominal : Int) - 50)).toNat ∧
       f.fp = (if f.cu = old.cu then old.fp else freezePoint new.freezeTable f.cu) ∧ f.flowAdequate = false ∧
       ((∀ v, ¬mast v) → u.ta = new.designMin ∧ u.hasFault .ambientLost = true) ∧
       (∀ v, mast v → (∀ w, mast w → v ≤ w) → u.ta = v) ∧
       f.ma = u.ta - (f.fp + new.guardBand) ∧ f.permitted = decide (50 ≤ f.ma) ∧
       f.units.map UnitFrost.addr = unitsOf (new.population g) ∧ f.bmax = bypassCap f.units ∧
       (∀ y ∈ f.units, y.margin = coilMargin u.ta f.fp new.guardBand ∧ y.shortfall = 0 ∧
         let before := ((s.unit? g y.addr).map UnitFrost.frost).getD .guard
         y.frost = frostNext before y.margin ∧ y.iced = ((s.unit? g y.addr).map UnitFrost.iced).getD false ∧
         (y.frost = .protect → before ≠ .protect → u.hasFault .frostProtect = true) ∧
         (y.frost ≠ before → ∀ q, (s.settings.port.get q).notices = true →
           (u.ports.get q).notices &&& 0x01#8 = 0x01#8)) ∧
       ∀ h, h ≠ g → (u.fpb.get h).cu = (s.fpb.get h).cu ∧ (u.fpb.get h).fp = (s.fpb.get h).fp ∧
         (u.fpb.get h).flowAdequate = (s.fpb.get h).flowAdequate ∧ (u.ta = s.ta → u.fpb.get h = s.fpb.get h)) ∧
      -- the OVERRIDE and FENCE bits
      (∀ q, (u.ports.get q).notices &&& 0x18#8 = ((s.ports.get q).notices &&& 0x18#8) |||
        if (s.settings.port.get q).notices = true then
          (if ∃ r ∈ s.overrides, r.seg = g ∧ r.station ∉ new.population g ∧ r.owner = q then 0x08#8 else 0#8) |||
            (if ((s.fences.get q).get g).isPending = true then 0x10#8 else 0#8)
        else 0#8) ∧
      (∀ h, h ≠ g → u.image.get h = s.image.get h ∧ u.buffer.get h = s.buffer.get h ∧
        u.settle.get h = s.settle.get h ∧ u.fsc.get h = s.fsc.get h) ∧
      (waits ≠ none ∨ new.population g ≠ [] →
        (u.fsc.get g).passNumber = 0#16 ∧ (u.fsc.get g).passTimer = none ∧ (u.fsc.get g).pollArmed = false ∧
        (u.fsc.get g).starvation = 0 ∧ (u.alloc.get g).passes = 0) ∧
      (∀ e, waits = some e → (u.fsc.get g).activity = .quiet e) ∧
      (waits = none → ∀ a rest, new.population g = a :: rest →
        (u.fsc.get g).activity = .busy { job := .discovery a, retries := 2, ends := s.now + 4 }) ∧
      (waits = none → new.population g = [] →
        (u.fsc.get g).passNumber = 1#16 ∧ (u.fsc.get g).passTimer = some (s.now + new.passInterval) ∧
        (u.alloc.get g).passes = 1 ∧ (u.alloc.get g).supplyValid = false ∧ u.hasFault (.supplyLost g) = true ∧
        (if (s.fsc.get g).lineAsserted then
          (u.fsc.get g).activity = .busy { job := .poll, retries := 0, ends := s.now + 12 } ∧
            (u.fsc.get g).pollArmed = false ∧ (u.fsc.get g).starvation = 1
        else (u.fsc.get g).activity = .free ∧ (u.fsc.get g).pollArmed = true ∧ (u.fsc.get g).starvation = 0))

/-- SAVE SETTINGS takes the settings in force as the image to be written and answers DONE at once; the end of a save
returns to IDLE, with SAVE FAILED, and the FAULT bit where it was clear, where a byte was not acknowledged or the read-back
disagrees. RESTART answers DONE and is pending. While a save runs or a RESTART is pending both are refused BUSY. -/
def Obligations.SaveAndRestart : Prop :=
  ∀ s : State,
    (∀ (p : PortId) (t : Telegram), s.Ready p t → t.body = [] → s.cls p = .supervisor →
      (s.saving ≠ none ∨ s.restartPending = true →
        (t.kind = 0x31#8 → exec (.saveSettings p) s = .next (s.onlyAnswering p [0x14#8])) ∧
        (t.kind = 0x32#8 → exec (.restart p) s = .next (s.onlyAnswering p [0x14#8]))) ∧
      (s.saving = none → s.restartPending = false →
        (t.kind = 0x31#8 → exec (.saveSettings p) s = .next { s with
          saving := some s.settings.image, ports := s.portsAnswering p [0x00#8] }) ∧
        (t.kind = 0x32#8 → exec (.restart p) s = .next { s with
          restartPending := true
          ports := (s.ports.modify p (Port.form [0x00#8] .restart)).map fun _ x => x.kick s.now }))) ∧
    ∀ (image readBack : List Byte) (acknowledged : Bool), s.saving = some image →
      let faults := if acknowledged = true ∧ readBack = image then s.faults else s.faults ||| FaultFlag.saveFailed.mask
      exec (.saveEnd acknowledged readBack) s = .next (State.kickPorts { s with
        saving := none, faults := faults
        ports := s.noticed fun _ => if faults = s.faults then 0#8 else 0x20#8 })

/-! ### The transmitter -/

/-- A frame that ends frees the transmitter, on which a line rate that waited for it takes effect, and which starts the first
of what is ready: a PAUSE or RESUME, the oldest reply, then, with the spacing run out, a NOTICE of every bit set, which
clears them and restarts the spacing. The frame of a RESTART's reply begins the start-up, as the reset pin does, and that of
a line rate's write brings the rate to an idle target. When the notice spacing runs out, an idle port with a bit set and
nothing before it sends a NOTICE; a port that is sending keeps its bits. (The time base is the model's: log entry 2; that a
rate equal to the one in force drops no frame being received: log entry 14; that a start-up cuts what other ports are
sending: log entry 30; the order of a PAUSE and a RESUME both ready: log entry 35; which of two rates that wait for one frame
holds: log entry 37.) -/
def Obligations.TransmitterStartsNext : Prop :=
  ∀ (s : State) (p : PortId), s.phase = .running →
    (∀ f, (s.ports.get p).sending = some f →
    (f.effect = .restart → ∃ u : State, exec (.transmitterFrameDone p) s = .next u ∧ exec .resetPin s = .next u ∧
      u.phase = .loading ∧ u.restartPending = false ∧ ∀ q, (u.ports.get q).queue = [] ∧ (u.ports.get q).replies = []) ∧
    (∀ q r, f.effect = .lineRate q r → (q = p ∨ (s.ports.get q).sending = none) → ∃ u : State,
      exec (.transmitterFrameDone p) s = .next u ∧ u = { s with ports := u.ports } ∧
      (u.ports.get q).rate = r ∧ (u.ports.get q).newRate = none ∧
      (u.ports.get q).queue = (s.ports.get q).queue ∧ (u.ports.get q).paused = (s.ports.get q).paused ∧
      (r ≠ (s.ports.get q).rate → (u.ports.get q).receiving = none)) ∧
    (∀ q r, f.effect = .lineRate q r → q ≠ p → (s.ports.get q).sending ≠ none → ∃ u : State,
      exec (.transmitterFrameDone p) s = .next u ∧ u = { s with ports := u.ports } ∧
      u.ports.get q = { s.ports.get q with newRate := some r }) ∧
    (f.effect = .none → ∃ u : State, exec (.transmitterFrameDone p) s = .next u ∧ u = { s with ports := u.ports } ∧
      let port := match (s.ports.get p).newRate with
        | some r => { s.ports.get p with
          rate := r, newRate := none
          receiving := if r = (s.ports.get p).rate then (s.ports.get p).receiving else none }
        | none => s.ports.get p
      u.ports.get p = (match port.flow, port.replies with
        | .pause :: rest, _ => { port with
          sending := some { sequence := 0#8, kind := 0x71#8, body := [], effect := .none }, flow := rest }
        | .resume :: rest, _ => { port with
          sending := some { sequence := 0#8, kind := 0x72#8, body := [], effect := .none }, flow := rest }
        | [], r :: rest => { port with sending := some r, replies := rest }
        | [], [] => if port.notices ≠ 0#8 ∧ port.spacing = none then { port with
            sending := some { sequence := 0#8, kind := 0x70#8, body := [port.notices], effect := .none }
            notices := 0#8, spacing := some (s.now + 200) }
          else { port with sending := none }))) ∧
    ∀ (d : Nat) (port : Port), port = s.ports.get p → port.spacing = some d →
      ∃ u : State, exec (.noticeSpacingExpiry p) s = .next u ∧ u = { s with now := max s.now d, ports := u.ports } ∧
      (port.sending ≠ none → u.ports.get p = { port with spacing := none }) ∧
      (port.sending = none → port.flow = [] → port.replies = [] → port.newRate = none → port.notices ≠ 0#8 →
        u.ports.get p = { port with
          sending := some { sequence := 0#8, kind := 0x70#8, body := [port.notices], effect := .none }
          notices := 0#8, spacing := some (max s.now d + 200) })

/-! ### Segments -/

/-- The pass timer's expiry: with a pass running, a start is due, PASS OVERRUN of the segment is set, with the FAULT bit
where it was clear, and the timer stays stopped; with none running and some station due a call, one that answers or, in a
pass that probes, one that is LOST, a pass starts: the pass number goes up, the timer restarts, every point ages, the poll is
armed, the starvation count is 0 and the scan position is the lowest address; with every station LOST and no probe due, or
none configured, the pass that starts so ends at its start. When a pass ends, its end of pass comes first, and a due start
begins the next pass right after it in the same way. In ageing GOOD becomes HELD, and what is then HELD becomes STALE
when more passes than the hold limit have gone since its stamp. (The time base is the model's: log entry 2.) -/
def Obligations.PassTimerStartsPass : Prop :=
  (∀ (limit : Nat) (pass : Word) (q : Point), (q.age limit pass).stored = q.stored ∧
    ((q.quality = .stale ∨ q.quality = .none) → q.age limit pass = q) ∧
    ∀ v, q.stored = some v → (q.quality = .good ∨ q.quality = .held) →
      (q.age limit pass).quality = if limit < (pass - v.stamp).toNat then .stale else .held) ∧
  let pass := fun (s : State) (g : SegId) => (s.fsc.get g).passNumber + 1#16
  let opened := fun (s : State) (g : SegId) => { s with
    fsc := s.fsc.modify g fun f => { f with
      passNumber := pass s g, passTimer := some (s.now + s.settings.passInterval), passRunning := true
      startDue := false, pollArmed := true, starvation := 0, scanPosition := (s.settings.population g).headD 13
      revived := [] }
    image := s.image.modify g fun sts => sts.map (Station.age s.settings.holdLimit (pass s g)) }
  let called := fun (s : State) (g : SegId) => (∃ a ∈ s.settings.population g, s.isLost g a = false) ∨
    ((pass s g).toNat % 10 = 0 ∧ s.settings.population g ≠ [])
  let uncalled := fun (s : State) (g : SegId) => (∀ a ∈ s.settings.population g, s.isLost g a = true) ∧
    ((pass s g).toNat % 10 ≠ 0 ∨ s.settings.population g = [])
  (∀ (s : State) (g : SegId) (d : Nat), (s.fsc.get g).passTimer = some d →
    let v := { s with now := max s.now d }
    ((s.fsc.get g).passRunning = true → exec (.passTimerExpiry g) s = .next (State.arbitrate { s with
        now := max s.now d, fsc := s.fsc.modify g fun f => { f with passTimer := none, startDue := true }
        faults := s.faults ||| (FaultFlag.passOverrun g).mask
        ports := s.noticed fun _ => if s.hasFault (.passOverrun g) = true then 0#8 else 0x20#8 } g).kickPorts) ∧
    ((s.fsc.get g).passRunning = false →
      (called s g → exec (.passTimerExpiry g) s = .next ((opened v g).arbitrate g).kickPorts) ∧
      (uncalled s g → exec (.passTimerExpiry g) s = .next (((opened v g).closePass g).arbitrate g).kickPorts))) ∧
  ∀ (s : State) (g : SegId),
    ((s.fsc.get g).startDue = false → s.endPass g = s.closePass g) ∧
    ((s.fsc.get g).startDue = true →
      (called s g → s.endPass g = opened (s.closePass g) g) ∧
      (uncalled s g → s.endPass g = (opened (s.closePass g) g).closePass g))

/-- What the events of a segment leave alone: the settings, the requests and merges, the access map, the save and RESTART
states; of the overrides, all but whether they are WAITING; of the other segment, all but what a change of the yard ambient
or of a frost state reaches; what a port that waits for no read-through has queued; and of the segment's own records, every
address, and all but the points of every station other than the one that was called. -/
def Obligations.SegmentCommandsFrame : Prop :=
  ∀ (s t : State) (g : SegId) (chars : List Byte) (level : Bool) (slots : List (Option Byte)) (a : Nat) (o : OutputId)
    (moment : Nat) (c : Instr), c ∈ segmentCommands g chars level slots a o moment → exec c s = .next t →
    (t.phase = s.phase ∧ t.settings = s.settings ∧ t.slots = s.slots ∧ t.merge = s.merge ∧ t.accessMap = s.accessMap ∧
      t.saving = s.saving ∧ t.restartPending = s.restartPending ∧ t.icingTimer = s.icingTimer) ∧
    (t.overrides.map fun r => { r with delivery := .posted }) = (s.overrides.map fun r => { r with delivery := .posted }) ∧
    (∀ f, s.hasFault f = true → t.hasFault f = true) ∧
    (∀ p, ((s.ports.get p).newRate = none →
        (t.ports.get p).rate = (s.ports.get p).rate ∧ (t.ports.get p).receiving = (s.ports.get p).receiving) ∧
      (s.portWaits p = false → (t.ports.get p).queue = (s.ports.get p).queue)) ∧
    (∀ h, h ≠ g → t.image.get h = s.image.get h ∧ t.fsc.get h = s.fsc.get h ∧ t.buffer.get h = s.buffer.get h ∧
      t.settle.get h = s.settle.get h ∧ (∀ p, (t.fences.get p).get h = (s.fences.get p).get h) ∧
      (t.fpb.get h).cu = (s.fpb.get h).cu ∧ (t.fpb.get h).flowAdequate = (s.fpb.get h).flowAdequate ∧
      ((t.fpb.get h).units.map fun x => (x.addr, x.shortfall, x.iced)) =
        ((s.fpb.get h).units.map fun x => (x.addr, x.shortfall, x.iced)) ∧
      { t.alloc.get h with commands := [] } = { s.alloc.get h with commands := [] }) ∧
    (t.image.get g).map Station.addr = (s.image.get g).map Station.addr ∧
    ∀ x b, (s.fsc.get g).activity = .busy x → x.job ≠ .poll → x.job.station? ≠ some b →
      ((t.station? g b).map fun st => { st with points := [] }) = (s.station? g b).map fun st => { st with points := [] }

/-- R3's table gives the value stored for one delivered: the nearer end of its range for temperatures, speeds, positions,
humidity, concentration and the fan count, 0 for a flow, wind or snow below 0, FAULT, LOCAL and precipitation 1 for a code
that is none, the three health flags alone. A well-formed answer to a READ: with accept = 1 each point delivered is stored
so, GOOD, with the pass number held, or is STALE with what it held for a no reading; no other point, of this station or
another, changes, but for the ageing of a due pass that starts with this event; with accept = 0 none does. The counter goes
up to at most 15. A point 6 gives the mode, and LOCAL makes the last posted values unknown and the overrides WAITING. The
points reach freeze protection: a unit's margin and frost state, a loop's concentration and flow adequate mark, the yard
ambient. A scan READ's point 2 is compared for shortfall, and the count reaching 3 sets the icing mark. Every settle item
whose criterion the points meet leaves, its marks released as a success: a PENDING fence with no mark left is then SETTLED,
or INCOMPLETE with its failure mark set, with its port's FENCE bit. The scan READ of the last address ends the pass, and a
due pass starts right then. A short answer is owed one continuation after the ready pause; with none owed, the read-throughs
served, and the one the READ was made for, leave and are answered. (The order of these: log entry 12; R118's differences
inclusive: log entry 13; served entries fixed as the READ begins: log entry 17; fences looked at once, after the event: log
entry 18; points made STALE since they were delivered settle all the same: log entry 33; the run heard is one response: log
entry 34; the block of a point without a value: log entry 36.) -/
def Obligations.ReadResponseStores : Prop :=
  (∀ v : Int,
    (∀ q ∈ [0, 1], ∀ k, bringInto k q v = max (-600) (min 800 v)) ∧
    (∀ x ∈ [(StationKind.unit, 2), (.unit, 4), (.loop, 4), (.loop, 5), (.ambient, 2)],
      bringInto x.1 x.2 v = max 0 (min 1000 v)) ∧
    bringInto .loop 3 v = max 0 (min 600 v) ∧ bringInto .unit 5 v = max 0 (min 8 v) ∧
    (∀ x ∈ [(StationKind.loop, 2), (.ambient, 3), (.ambient, 4)],
      bringInto x.1 x.2 v = if 0 ≤ v ∧ v ≤ 32767 then v else 0) ∧
    bringInto .unit 3 v = (if v = 0 ∨ v = 1 ∨ v = 2 then v else 3) ∧
    bringInto .ambient 5 v = (if v = 0 then 0 else 1) ∧
    ∀ k, bringInto k 6 v = (if v = 0 then 0 else 1) ∧ 0 ≤ bringInto k 7 v ∧ bringInto k 7 v < 8 ∧
      8 ∣ v - bringInto k 7 v) ∧
  ∀ (s : State) (g : SegId) (j : ReadJob) (retries ends : Nat) (chars : List Byte) (h : Heard) (vs : List Int)
    (st : Station), (s.fsc.get g).activity = .busy { job := .read j, retries := retries, ends := ends } →
    s.station? g j.station = some st → st.points.length = 8 →
    hear j.station chars = some h → readContent j.next h = some vs →
    let a := j.station
    let pass := (s.fsc.get g).passNumber
    let came := fun q => h.accept = true ∧ j.next ≤ q ∧ q < j.next + vs.length
    let carried := fun q => vs.getD (q - j.next) 0
    let valued := fun q => came q ∧ carried q ≠ -32768
    let stored : Nat → Point := fun q =>
      if came q then
        if carried q = -32768 then { st.point q with quality := .stale }
        else { stored := some { value := bringInto st.kind q (carried q), stamp := pass }, quality := .good }
      else st.point q
    let value := fun q => ((stored q).stored.map Stored.value).getD 0
    let owes := h.accept = true ∧ h.ready = false ∧ j.next + vs.length < 8 ∧ j.continues = false
    let leaves := fun e : ReadThrough => e.port ∈ (match j.purpose with
        | .readThrough p => [p]
        | _ => []) ∨
      (j.serves.get e.port = true ∧ e.station = a ∧ j.first ≤ e.target.number ∧
        e.target.number < if h.accept = true then j.next + vs.length else j.next)
    ∃ u : State, ∃ st' : Station, exec (.responseTaken g chars) s = .next u.kickPorts ∧
      u.station? g a = some st' ∧
      st'.counter = min 15 (st.counter + 1) ∧
      -- the points, and the pass that may start with this event
      ((u.fsc.get g).passNumber = pass ∨ (s.fsc.get g).startDue = true ∧ (u.fsc.get g).passNumber = pass + 1#16) ∧
      (∀ q, q < 8 → st'.point q = if (u.fsc.get g).passNumber = pass then stored q
        else (stored q).age s.settings.holdLimit (pass + 1#16)) ∧
      (∀ b, b ≠ a → u.station? g b = if (u.fsc.get g).passNumber = pass then s.station? g b
        else (s.station? g b).map (Station.age s.settings.holdLimit (pass + 1#16))) ∧
      -- attention and mode
      st'.attention = (st.attention && !(h.accept && j.next == 0)) ∧
      (valued 6 → st'.mode = if carried 6 = 0 then .auto else .inLocal) ∧
      (¬valued 6 → st'.mode = st.mode) ∧
      (st'.mode ≠ st.mode → ∀ q, (s.settings.port.get q).notices = true →
        (u.ports.get q).notices &&& 0x02#8 = 0x02#8) ∧
      (st'.mode ≠ st.mode → st'.mode = .inLocal → (∀ o, (u.commands g a).postedValue o = none) ∧
        ∀ r ∈ u.overrides, r.seg = g → r.station = a → r.delivery = .waiting) ∧
      -- freeze protection
      (∀ x, kindOf a = .unit → s.unit? g a = some x → ∃ y, u.unit? g a = some y ∧
        ((came 0 ∨ came 3) →
          y.margin = coilMargin
            (if (stored 3).validValue = some 0 ∧ (s.fpb.get g).flowAdequate = true then
              ((stored 0).validValue).getD s.ta else s.ta) (s.fpb.get g).fp s.settings.guardBand ∧
          y.frost = frostNext x.frost y.margin ∧
          (y.frost = .protect → x.frost ≠ .protect → u.hasFault .frostProtect = true) ∧
          (y.frost ≠ x.frost → ∀ q, (s.settings.port.get q).notices = true →
            (u.ports.get q).notices &&& 0x01#8 = 0x01#8)) ∧
        (¬(came 0 ∨ came 3) → y.margin = x.margin ∧ y.frost = x.frost) ∧
        (j.purpose = .scan → valued 2 →
          let command := (s.commands g a).fan.written.getD 0
          y.shortfall = (if st'.mode = .inLocal then 0
            else if 300 ≤ command ∧ value 2 < (command * 6 / 10 : Nat) then min 3 (x.shortfall + 1) else 0) ∧
          (y.iced = true ↔ x.iced = true ∨ (x.shortfall = 2 ∧ y.shortfall = 3)) ∧
          (x.shortfall = 2 → y.shortfall = 3 → u.hasFault .icing = true)) ∧
        (¬(j.purpose = .scan ∧ valued 2) → y.shortfall = x.shortfall ∧ y.iced = x.iced)) ∧
      (kindOf a = .loop →
        (u.fpb.get g).cu = (if came 3 then concentrationInUse (stored 3).validValue (s.settings.loop.get g).nominal
          else (s.fpb.get g).cu) ∧
        ((u.fpb.get g).flowAdequate = true ↔ if came 2 then
            ∃ v, (stored 2).validValue = some v ∧ ((s.settings.loop.get g).minFlow : Int) ≤ v
          else (s.fpb.get g).flowAdequate = true)) ∧
      (kindOf a = .ambient → (came 0 ∨ came 1) → (s.fsc.get g).startDue = false →
        (u.ambientReadings = [] → u.ta = s.settings.designMin ∧ u.hasFault .ambientLost = true) ∧
        ∀ v ∈ u.ambientReadings, (∀ w ∈ u.ambientReadings, v ≤ w) → u.ta = v) ∧
      (kindOf a ≠ .ambient → u.ta = s.ta) ∧
      -- settling
      (h.accept = false → u.settle.get g = s.settle.get g) ∧
      (h.accept = true → ∀ i, i ∈ u.settle.get g ↔ i ∈ s.settle.get g ∧ ¬(i.station = a ∧
        let shown := fun q => q ∈ j.valued ∨ valued q
        match i.value with
        | .fan n => shown 2 ∧ shown 4 ∧ value 4 = n ∧
            (if n = 0 then value 2 < 50 else (n : Int) - 100 ≤ value 2 ∧ value 2 ≤ n + 100)
        | .valve .toOpen => shown 3 ∧ value 3 = 0
        | .valve .toClose => shown 3 ∧ value 3 = 1
        | .bypass n => shown 4 ∧ (n : Int) - 30 ≤ value 4 ∧ value 4 ≤ n + 30)) ∧
      -- the fences whose marks have left with them
      (let bears := fun p => (∃ e ∈ s.buffer.get g, e.marks.get p = true) ∨ ∃ i ∈ u.settle.get g, i.marks.get p = true
       ∀ p, (u.fences.get p).get g = (match (s.fences.get p).get g with
           | .pending failed => if h.accept = false ∨ bears p then .pending failed
             else if failed = true then .incomplete else .settled
           | r => r) ∧
         (∀ l, l ≠ g → (u.fences.get p).get l = (s.fences.get p).get l) ∧
         (u.ports.get p).notices &&& 0x10#8 = ((s.ports.get p).notices &&& 0x10#8) |||
           if (s.settings.port.get p).notices = true ∧ ((s.fences.get p).get g).isPending = true ∧ h.accept = true ∧
             ¬bears p then 0x10#8 else 0#8) ∧
      -- the end of pass after the scan READ of the last address
      (¬owes → j.purpose = .scan → (∀ b ∈ s.settings.population g, b ≤ a) →
        ((s.fsc.get g).startDue = true → (u.fsc.get g).passNumber = pass + 1#16) ∧
        ((s.fsc.get g).startDue = false → (u.fsc.get g).passNumber = pass ∧ (u.fsc.get g).passRunning = false)) ∧
      -- the continuation, or the end of the READ with the read-throughs it served
      (owes → (u.fsc.get g).activity = .pause (s.now + 10) ∧ (u.fsc.get g).readThroughs = (s.fsc.get g).readThroughs ∧
        ∃ j', (u.fsc.get g).owed = some j' ∧ j'.station = a ∧ j'.next = j.next + vs.length ∧ j'.first = j.first ∧
          j'.continues = true ∧ j'.purpose = j.purpose ∧ j'.serves = j.serves) ∧
      (¬owes → (∀ e, e ∈ (u.fsc.get g).readThroughs ↔ e ∈ (s.fsc.get g).readThroughs ∧ ¬leaves e) ∧
        ∀ e t, leaves e → (s.fsc.get g).readThroughs.filter (fun x => x.port == e.port) = [e] → e.station = a →
          (s.ports.get e.port).queue.head? = some t → (u.ports.get e.port).queue = (s.ports.get e.port).queue.tail ∧
          ∀ q, e.target = .point q → (u.ports.get e.port).replies = (s.ports.get e.port).replies ++
            [replyFrame t (0x00#8 :: be16 (wordOf e.address) ++ (stored q).block) .none])

/-- The window of a call to a station ends with nothing heard, or is answered with characters that are no answer to it, which
counts the same at once. While the retries last and the counter stays above 0 the same call follows at once. Past the last
retry a READ ends, and the read-throughs it served, with the one it was made for, are answered from the image; a WRITE's
entry is back at the head as OPEN, combined with a newer OPEN entry of its station, whose values stand; in discovery the
station is LOST and the next address is called, or the first pass starts. A probe leaves the station as it was, and the scan
goes on. A counter that reaches 0 makes the station LOST, with STATION LOST set, its attention clear, its write entries gone,
its last posted values unknown, their marks failed, with the FENCE bit of a fence that so ends and the OVERRIDE bit of the
ports among their origins, its overrides WAITING, and its read-throughs gone and answered, all that having been done by then
(log entry 32). The window of an attempt that a restart abandoned ends in the discovery of the lowest address. (The time base
is the model's: log entry 2; the abandoned attempt's window: log entry 11; fences looked at once: log entry 18; noise around
a right answer: log entry 34.) -/
def Obligations.ResponseWindowEnds : Prop :=
  ∀ (s : State) (g : SegId),
    (∀ (x : Transaction) (st : Station) (a : Nat), (s.fsc.get g).activity = .busy x → s.station? g a = some st →
      let next := (s.settings.population g).find? fun b => decide (a < b)
      let run := exec (.responseWindowExpiry g) s
      let now := max s.now x.ends
      let again := Activity.busy { job := x.job, retries := x.retries - 1, ends := now + 4 }
      let alone := fun e : ReadThrough => (s.fsc.get g).readThroughs.filter (fun y => y.port == e.port) = [e]
      let answered := fun (u : State) (e : ReadThrough) (t : Telegram) (values : State) =>
        (u.ports.get e.port).queue = (s.ports.get e.port).queue.tail ∧ (u.ports.get e.port).replies =
          (s.ports.get e.port).replies ++ [replyFrame t (values.pointReply g e.station e.target e.address) .none]
      ((∃ j, x.job = .read j ∧ j.station = a) ∨ x.job = .write a →
        (0 < x.retries → 2 < st.counter → ∃ u : State, run = .next u ∧ (u.fsc.get g).activity = again ∧
          u.station? g a = some { st with counter := st.counter - 2 } ∧ u.buffer = s.buffer) ∧
        (1 ≤ st.counter → st.counter ≤ 2 → ∃ u : State, ∃ st' : Station,
          run = .next u.kickPorts ∧ u.station? g a = some st' ∧ st'.counter = 0 ∧
          st'.attention = false ∧ u.hasFault .stationLost = true ∧ (∀ e ∈ u.buffer.get g, e.station ≠ a) ∧
          (∀ e ∈ (u.fsc.get g).readThroughs, e.station ≠ a) ∧
          (∀ e t, e.station = a → alone e → (s.ports.get e.port).queue.head? = some t →
            answered u e t ({ s with
              now := now, buffer := s.buffer.modify g fun es => es.filter fun x => x.station != a
              alloc := s.alloc.modify g fun al => { al with commands := al.commands.map fun c =>
                if c.addr = a then { c with
                  fan := { c.fan with posted := none }, valve := { c.valve with posted := none }
                  bypass := { c.bypass with posted := none } } else c } } : State)) ∧
          (∀ o, (u.commands g a).postedValue o = none) ∧
          (let gone := fun (set : Entry → PortSet) p => ∃ e ∈ s.buffer.get g, e.station = a ∧ (set e).get p = true
           let bears := fun p => (∃ e ∈ s.buffer.get g, e.station ≠ a ∧ e.marks.get p = true) ∨
             ∃ i ∈ s.settle.get g, i.marks.get p = true
           ∀ p, (u.fences.get p).get g = (match (s.fences.get p).get g with
               | .pending failed =>
                 if bears p then .pending (if gone Entry.marks p then true else failed)
                 else if gone Entry.marks p ∨ failed = true then .incomplete else .settled
               | r => r) ∧
             (u.ports.get p).notices &&& 0x18#8 = ((s.ports.get p).notices &&& 0x18#8) |||
               if (s.settings.port.get p).notices = true then
                 (if gone Entry.origins p then 0x08#8 else 0#8) |||
                   (if ((s.fences.get p).get g).isPending = true ∧ ¬bears p then 0x10#8 else 0#8)
               else 0#8) ∧
          ∀ r ∈ u.overrides, r.seg = g → r.station = a → r.delivery = .waiting)) ∧
      (∀ j, x.job = .read j → j.station = a → x.retries = 0 → 2 < st.counter → ∃ u : State, ∃ st' : Station,
        let leaves := fun e : ReadThrough => j.purpose = .readThrough e.port ∨
          (j.serves.get e.port = true ∧ e.station = a ∧ j.first ≤ e.target.number ∧ e.target.number < j.next)
        run = .next u.kickPorts ∧ u.station? g a = some st' ∧ st'.counter = st.counter - 2 ∧ st'.mode = st.mode ∧
        st'.attention = st.attention ∧ u.settle = s.settle ∧
        (∀ e, e ∈ (u.fsc.get g).readThroughs ↔ e ∈ (s.fsc.get g).readThroughs ∧ ¬leaves e) ∧
        ∀ e t, leaves e → alone e → (s.ports.get e.port).queue.head? = some t → answered u e t { s with now := now }) ∧
      (∀ (e : Entry) (es : List Entry) (sent : Fields), x.job = .write a → x.retries = 0 → 2 < st.counter →
        s.buffer.get g = e :: es → e.station = a → e.state = .inFlight sent → ∃ u : State,
        run = .next (u.arbitrate g).kickPorts ∧ (u.fsc.get g).activity = .free ∧ u.now = now ∧
        u.station? g a = some { st with counter := st.counter - 2 } ∧ u.settle = s.settle ∧ u.fences = s.fences ∧
        ((∀ y ∈ es, y.station = a → y.state ≠ .waiting) → u.buffer.get g = { e with state := .waiting } :: es) ∧
        ∀ (before after : List Entry) (n : Entry), es = before ++ n :: after →
          (∀ y ∈ before, y.station = a → y.state ≠ .waiting) → n.station = a → n.state = .waiting →
          u.buffer.get g = { station := a
                             posted := { fan := if n.posted.fan = none then e.posted.fan else n.posted.fan
                                         valve := if n.posted.valve = none then e.posted.valve else n.posted.valve
                                         bypass := if n.posted.bypass = none then e.posted.bypass else n.posted.bypass }
                             origins := e.origins.union n.origins
                             marks := e.marks.union n.marks
                             state := .waiting } :: (before ++ after)) ∧
      (x.job = .discovery a →
        (0 < x.retries → run = .next (State.kickPorts { s with
          now := now, fsc := s.fsc.modify g fun f => { f with activity := again } })) ∧
        (x.retries = 0 → ∃ u : State, ∃ st' : Station, run = .next u ∧ u.station? g a = some st' ∧ st'.counter = 0 ∧
          st'.attention = false ∧ st'.mode = st.mode ∧ u.hasFault .stationLost = true ∧
          (∀ b, next = some b →
            (u.fsc.get g).activity = .busy { job := .discovery b, retries := 2, ends := now + 4 }) ∧
          (next = none → (u.fsc.get g).passNumber = (s.fsc.get g).passNumber + 1#16))) ∧
      (x.job = .probe a →
        let passed := fun n => { s with
          now := now, fsc := s.fsc.modify g fun f => { f with activity := .free, scanPosition := n } }
        (∀ b, next = some b → run = .next ((State.arbitrate (passed b) g).kickPorts)) ∧
        (next = none → run = .next (((State.endPass (passed 13) g).arbitrate g).kickPorts)))) ∧
    (∀ (x : Transaction) (chars : List Byte), (s.fsc.get g).activity = .busy x → chars ≠ [] →
      (match x.job with
        | .discovery a => ∀ h, hear a chars = some h → h.data.length ≠ 1
        | .probe a => ∀ h, hear a chars = some h → h.data.length ≠ 1
        | .read j => ∀ h, hear j.station chars = some h → readContent j.next h = none
        | .write a => ∀ h, hear a chars = some h → h.data ≠ []
        | .poll => False) →
      exec (.responseTaken g chars) s = exec (.responseWindowExpiry g) { s with
        fsc := s.fsc.modify g fun f => { f with activity := .busy { x with ends := s.now } } }) ∧
    ∀ (e a : Nat) (rest : List Nat), s.phase = .running → (s.fsc.get g).activity = .quiet e →
      s.settings.population g = a :: rest → 0 < a → ∃ u : State, exec (.responseWindowExpiry g) s = .next u ∧
        u.callOnSegment g = some (.identify a) ∧ u.now = max s.now e ∧ u.image = s.image

/-- The answer to a WRITE in flight. Accepted: the entry leaves, the outputs its station has become last written at the
values sent, FAN before VALVE, and each joins the settle list with a fresh deadline, the entry's marks and those of the item it
replaces; a list that would pass 15 items loses its oldest as a failure, with SETTLE TIMEOUT and its marks failed. Refused: the
entry leaves, the station is LOCAL, the last posted values of what it carried are unknown, its marks fail, and the ports
among its origins with notices enabled get the OVERRIDE bit. (A list that more than one item would overfill, which no run
reaches, loses as many: log entry 16.) -/
def Obligations.WriteAnswered : Prop :=
  ∀ (s : State) (g : SegId) (a retries ends : Nat) (chars : List Byte) (h : Heard) (e : Entry) (es : List Entry)
    (sent : Fields), (s.fsc.get g).activity = .busy { job := .write a, retries := retries, ends := ends } →
    s.buffer.get g = e :: es → e.station = a → e.state = .inFlight sent → hear a chars = some h → h.data = [] →
    ∃ u : State, exec (.responseTaken g chars) s = .next (u.arbitrate g).kickPorts ∧ u.buffer.get g = es ∧
      (u.fsc.get g).activity = .free ∧
      (h.accept = true →
        let values : List OutputValue := match kindOf a with
          | .unit => (sent.fan.map OutputValue.fan).toList ++ (sent.valve.map OutputValue.valve).toList
          | .loop => (sent.bypass.map OutputValue.bypass).toList
          | .ambient => []
        let kept := (s.settle.get g).filter fun i =>
          !(i.station == a && values.any fun v => v.output == i.value.output)
        let excess := kept.length + values.length - 15
        (∃ fresh : List SettleItem, u.settle.get g = kept.drop excess ++ fresh ∧
          fresh.map (fun i => (i.station, i.value, i.sentAt, i.deadline)) =
            values.map (fun v => (a, v, s.now, s.now + 1000 * s.settings.settleTimeout)) ∧
          ∀ i ∈ fresh, ∀ p, i.marks.get p = (e.marks.get p || (s.settle.get g).any fun x =>
            x.station == a && x.value.output == i.value.output && x.marks.get p)) ∧
        u.faults = (if kept.take excess = [] then s.faults else s.faults ||| FaultFlag.settleTimeout.mask) ∧
        (∀ i ∈ kept.take excess, ∀ p, i.marks.get p = true → ((s.fences.get p).get g).isPending = true →
          (u.fences.get p).get g = .pending true ∨ (u.fences.get p).get g = .incomplete) ∧
        ∀ v ∈ values, s.commands? g a ≠ none → (u.commands g a).writtenValue v.output = some v) ∧
      (h.accept = false →
        (∀ st, s.station? g a = some st → ∃ st', u.station? g a = some st' ∧ st'.mode = .inLocal) ∧
        u.settle = s.settle ∧
        (∀ o, e.posted.has o = true → (u.commands g a).postedValue o = none) ∧
        (∀ p, e.marks.get p = true → ((s.fences.get p).get g).isPending = true →
          (u.fences.get p).get g = .pending true ∨ (u.fences.get p).get g = .incomplete) ∧
        ∀ p, e.origins.get p = true → (s.settings.port.get p).notices = true →
          (u.ports.get p).notices &&& 0x08#8 = 0x08#8)

/-- The answer to an IDENTIFY. In discovery the station is ACTIVE at 12 with its own kind, and LOST with kind mismatch and
its fault with any other, and the next address is called. As a probe the right kind makes the station WEAK at 4, with no READ
for the rest of the pass (ReadyPauseEndsInArbitration), and any other leaves it LOST with kind mismatch; the STATION bit
follows a changed link state or mismatch, and the scan goes on with the next address, or the pass ends. (That the pass of the
probe lasts until its end of pass: log entry 28.) -/
def Obligations.IdentifyAnswered : Prop :=
  ∀ (s : State) (g : SegId) (a retries ends : Nat) (job : Job) (chars : List Byte) (h : Heard) (k : Byte)
    (st : Station), (s.fsc.get g).activity = .busy { job := job, retries := retries, ends := ends } →
    s.station? g a = some st → hear a chars = some h → h.data = [k] →
    (job = .discovery a →
      ∃ u : State, ∃ st' : Station, exec (.responseTaken g chars) s = .next u ∧ u.station? g a = some st' ∧
        (k = (kindOf a).code → st'.counter = 12 ∧ st'.mismatch = false) ∧
        (k ≠ (kindOf a).code → st'.counter = 0 ∧ st'.mismatch = true ∧ u.hasFault .kindMismatch = true ∧
          u.hasFault .stationLost = true) ∧
        ∀ b, (s.settings.population g).find? (fun x => decide (a < x)) = some b →
          u.callOnSegment g = some (.identify b)) ∧
    (job = .probe a → st.counter = 0 →
      ∃ u : State, ∃ st' : Station, exec (.responseTaken g chars) s = .next u ∧ u.station? g a = some st' ∧
        (k = (kindOf a).code → st'.counter = 4 ∧ st'.mismatch = false) ∧
        (k ≠ (kindOf a).code → st'.counter = 0 ∧ st'.mismatch = true ∧ u.hasFault .kindMismatch = true)) ∧
    (job = .probe a → st.counter = 0 →
      let fits := decide (k = (kindOf a).code)
      let faults := if fits = true then s.faults else s.faults ||| FaultFlag.kindMismatch.mask
      let probed := fun n => { s with
        fsc := s.fsc.modify g fun f => { f with
          activity := .free, scanPosition := n, revived := if fits = true then f.revived ++ [a] else f.revived }
        image := s.image.modify g fun sts => sts.map fun x => if x.addr = a then
          { x with counter := if fits = true then 4 else x.counter, mismatch := !fits } else x
        faults := faults
        ports := s.noticed fun _ => (if fits = true ∨ st.mismatch = false then 0x02#8 else 0#8) |||
          (if faults = s.faults then 0#8 else 0x20#8) }
      let next := (s.settings.population g).find? fun x => decide (a < x)
      (∀ b, next = some b → exec (.responseTaken g chars) s = .next ((State.arbitrate (probed b) g).kickPorts)) ∧
      (next = none →
        exec (.responseTaken g chars) s = .next (((State.endPass (probed 13) g).arbitrate g).kickPorts)))

/-- The end of the ready pause frees the segment, which then makes the first call there is: an owed continuation; with the
starvation count at 8 and a scan call left in the pass, that scan call; the armed poll with the line asserted; the event
READ of the lowest-addressed station with attention pending; the WRITE of the buffer's head, unless the settle list is full;
the oldest read-through's READ; the scan call, which is a READ or, to a LOST station in a pass that probes, an IDENTIFY. A
station that a probe of the running pass has brought back gets neither event READ nor read-through. A pass with no call left
ends, and the choice is made again. A scan call clears the starvation count, and all but it and the continuation add one.
(That a READ so withheld lets the next station or entry go first, and waits for the end of pass: log entry 28; the time base:
log entry 2; stations due no call are passed over: log entry 23.) -/
def Obligations.ReadyPauseEndsInArbitration : Prop :=
  (∀ (s : State) (g : SegId) (e : Nat), (s.fsc.get g).activity = .pause e →
    exec (.readyPauseExpiry g) s = .next (State.arbitrate { s with
      now := max s.now e, fsc := s.fsc.modify g fun f => { f with activity := .free } } g).kickPorts) ∧
  ∀ (s : State) (g : SegId), s.phase = .running → s.ImageFollowsPopulation → (s.fsc.get g).activity = .free →
    let f := s.fsc.get g
    let allowance := fun a => match s.link g a with
      | .active => 1
      | .weak => 2
      | .lost => 0
    let calls := fun (job : Job) (retries time : Nat) (more : Fsc → Fsc) => { s with fsc := s.fsc.modify g fun x =>
      { more x with activity := .busy { job := job, retries := retries, ends := s.now + time } } }
    let reads := fun (purpose : ReadPurpose) (a first : Nat) (more : Fsc → Fsc) =>
      calls (.read { purpose := purpose, station := a, first := first, next := first, continues := false,
                     serves := s.servable g a first, valued := [] }) (allowance a) 4 more
    let counted := fun x : Fsc => { x with starvation := x.starvation + 1 }
    let due := fun a => a ∈ s.settings.population g ∧ f.scanPosition ≤ a ∧
      (s.isLost g a = false ∨ f.passNumber.toNat % 10 = 0)
    let scan := fun a => f.passRunning = true ∧ due a ∧ ∀ b, due b → a ≤ b
    let may := fun a => f.passRunning = true → a ∉ f.revived
    let scanned := fun a (x : Fsc) => { x with starvation := 0, scanPosition := a }
    let scanCall := fun a => if s.isLost g a = true then calls (.probe a) 0 4 (scanned a) else reads .scan a 0 (scanned a)
    (∀ j, f.owed = some j →
      s.arbitrate g = calls (.read j) (allowance j.station) 4 fun x => { x with owed := none }) ∧
    (f.owed = none →
      (∀ a, 8 ≤ f.starvation → scan a → s.arbitrate g = scanCall a) ∧
      (f.starvation < 8 ∨ (∀ a, ¬scan a) →
        (f.pollArmed = true → f.lineAsserted = true →
          s.arbitrate g = calls .poll 0 12 fun x => { x with pollArmed := false, starvation := x.starvation + 1 }) ∧
        (f.pollArmed = false ∨ f.lineAsserted = false →
          (∀ st ∈ s.image.get g, st.attention = true → may st.addr →
            (∀ x ∈ s.image.get g, x.attention = true → may x.addr → st.addr ≤ x.addr) →
            s.arbitrate g = reads .event st.addr 0 counted) ∧
          ((∀ st ∈ s.image.get g, may st.addr → st.attention = false) →
            (∀ e es, s.buffer.get g = e :: es → (s.settle.get g).length < 15 →
              s.arbitrate g = { calls (.write e.station) (allowance e.station) 4 counted with
                buffer := s.buffer.set
                  ({ e with state := .inFlight (s.sendFilter g e.station e.posted) } :: es) g }) ∧
            (s.buffer.get g = [] ∨ 15 ≤ (s.settle.get g).length →
              (∀ before e after, f.readThroughs = before ++ e :: after → (∀ x ∈ before, ¬may x.station) →
                may e.station →
                s.arbitrate g = reads (.readThrough e.port) e.station e.target.number counted) ∧
              ((∀ e ∈ f.readThroughs, ¬may e.station) →
                (∀ a, scan a → s.arbitrate g = scanCall a) ∧
                (f.passRunning = false → s.arbitrate g = s) ∧
                (f.passRunning = true → (∀ a, ¬due a) → s.arbitrate g = (s.endPass g).arbitrate g)))))))

/-- The attention line: its new level is held, a change from released to asserted arms the poll of a running part, and an
armed poll with the line asserted starts at once on a free segment that owes no continuation and is not under the starvation
guard. At the end of the poll exactly the selected stations that are not LOST and answered with attention get attention
pending.
(That the level is followed while the settings load runs, where R44 keeps the poll disarmed, is the model's: log entry 26;
and so is the time base: log entry 2.) -/
def Obligations.AttentionPolled : Prop :=
  (∀ (s : State) (g : SegId) (asserted : Bool), ∃ u : State,
    exec (.attentionLineChange g asserted) s = .next (u.arbitrate g).kickPorts ∧
    u = { s with fsc := s.fsc.modify g fun f => { f with
      lineAsserted := asserted
      pollArmed := if s.phase = .running ∧ f.lineAsserted = false ∧ asserted = true then true else f.pollArmed } } ∧
    (s.phase = .running → (s.fsc.get g).activity = .free → (s.fsc.get g).owed = none → s.guardActs g = false →
      asserted = true → ((s.fsc.get g).pollArmed = true ∨ (s.fsc.get g).lineAsserted = false) →
      ((u.arbitrate g).fsc.get g).activity = .busy { job := .poll, retries := 0, ends := s.now + 12 } ∧
        ((u.arbitrate g).fsc.get g).pollArmed = false)) ∧
  ∀ (s : State) (g : SegId) (retries ends : Nat) (slots : List (Option Byte)),
    (s.fsc.get g).activity = .busy { job := .poll, retries := retries, ends := ends } → ∃ u : State,
    exec (.attentionPollEnd g slots) s = .next (u.arbitrate g).kickPorts ∧
    u = { s with
      now := max s.now ends
      fsc := s.fsc.modify g fun f => { f with activity := .free }
      image := s.image.modify g fun sts => sts.map fun st => { st with
        attention := st.attention || (slots.getD (st.addr - 1) none == some 0xA1#8 && s.settings.selects g st.addr &&
          decide (st.counter ≠ 0)) } }

/-- An item whose deadline has come is removed as a failure: SETTLE TIMEOUT is set, with the FAULT bit where it was clear,
and a fence whose mark it bore has failed, complete as INCOMPLETE, with its port's FENCE bit, when that was its last mark. An
expiry that finds no item of the output, or one whose deadline has not come, does nothing.
(The time base, and the moment an expiry carries, are the model's: log entry 2.) -/
def Obligations.SettleDeadlineFails : Prop :=
  ∀ (s : State) (g : SegId) (a : Nat) (o : OutputId) (moment : Nat),
    ((∀ i ∈ s.settle.get g, i.station = a → i.value.output ≠ o) →
      exec (.settleDeadlineExpiry g a ⟨o, moment⟩) s = .next s) ∧
    ∀ i : SettleItem, s.SettleListsBounded → s.FencesFollowMarks → i ∈ s.settle.get g → i.station = a →
      i.value.output = o →
      (max s.now moment < i.deadline → exec (.settleDeadlineExpiry g a ⟨o, moment⟩) s = .next s) ∧
      (i.deadline ≤ max s.now moment →
        let faults := s.faults ||| FaultFlag.settleTimeout.mask
        ∃ u : State, exec (.settleDeadlineExpiry g a ⟨o, moment⟩) s = .next (u.arbitrate g).kickPorts ∧
        u = { s with
          now := max s.now moment
          settle := s.settle.modify g fun is => is.filter fun x => !(x.station == a && x.value.output == o)
          faults := faults, fences := u.fences
          ports := s.noticed fun p => (if faults = s.faults then 0#8 else 0x20#8) |||
            (if i.marks.get p = true ∧ u.marked g p = false then 0x10#8 else 0#8) } ∧
        ∀ p, (u.fences.get p).get g =
          (if i.marks.get p then (if u.marked g p then .pending true else .incomplete) else (s.fences.get p).get g) ∧
          ∀ l, l ≠ g → (u.fences.get p).get l = (s.fences.get p).get l)

/-- The icing-clear timer's expiry clears every icing mark and shortfall count of both loops, makes the last posted FAN of
each unit that was marked unknown, with the FROST bit where one was, and restarts the timer; the rotation timer's expiry
moves the head of the service order to its end and restarts the timer, or stops it with an interval of 0.
(The time base is the model's: log entry 2.) -/
def Obligations.IcingAndRotationExpire : Prop :=
  (∀ (s : State) (d : Nat), s.icingTimer = some d →
    let reposted := fun (l : LoopId) (c : StationCommands) =>
      if (s.fpb.get l).units.any (fun x => x.addr == c.addr && x.iced) = true then { c with fan := { c.fan with posted := none } }
      else c
    exec .icingClearExpiry s = .next (State.kickPorts { s with
      now := max s.now d, icingTimer := some (max s.now d + s.settings.icingInterval * 60000)
      fpb := s.fpb.map fun _ f => { f with units := f.units.map fun x => { x with shortfall := 0, iced := false } }
      alloc := s.alloc.map fun l al => { al with commands := al.commands.map (reposted l) }
      ports := s.noticed fun _ => if (s.fpb.s0.units ++ s.fpb.s1.units).any UnitFrost.iced then 0x01#8 else 0#8 })) ∧
  ∀ (s : State) (l : LoopId) (d : Nat), (s.alloc.get l).rotation = some d →
    exec (.rotationExpiry l) s = .next { s with
      now := max s.now d
      alloc := s.alloc.modify l fun al => { al with
        order := al.order.drop 1 ++ al.order.take 1
        rotation := if (s.settings.loop.get l).rotation = 0 then none
          else some (max s.now d + (s.settings.loop.get l).rotation * 3600000) } }

/-! ### Arithmetic -/

/-- The send filter: to a loop station the BYPASS goes as the lower of the posted value and the cap, and the rest as posted;
to a unit each FAN and VALVE goes as the table of R72 gives. It adds no field and removes none, lets through only what
frost protection allows, and sends nothing above what was posted; and an override record's status says what it would make
of the record's value. (Where R72's table and its closing sentences differ, over VALVE CLOSE to a unit in NORMAL with an
icing mark, this is the table's choice: log entry 21.) -/
def Obligations.SendFilterRule : Prop :=
  ∀ (s : State) (g : SegId) (a : Nat) (f : Fields),
    (kindOf a = .loop → s.sendFilter g a f = { f with bypass := f.bypass.map fun v => min v (s.fpb.get g).bmax }) ∧
    (kindOf a = .unit → ∀ x, s.unit? g a = some x →
      (s.sendFilter g a f).bypass = f.bypass ∧
      (∀ v, f.fan = some v → (s.sendFilter g a f).fan = some (
        if x.frost = .protect ∨ x.iced = true then 0
        else if x.frost = .guard then min v (s.settings.loop.get g).guardCap else v)) ∧
      (∀ v, f.valve = some v → (s.sendFilter g a f).valve = some (
        if v = .toClose ∧ x.frost = .normal ∧ (s.fpb.get g).permitted = true then .toClose else .toOpen))) ∧
    s.Allows g a (s.sendFilter g a f) ∧ (∀ o, (s.sendFilter g a f).has o = f.has o) ∧
    (∀ v w, f.fan = some v → (s.sendFilter g a f).fan = some w → w ≤ v) ∧
    (∀ v w, f.bypass = some v → (s.sendFilter g a f).bypass = some w → w ≤ v) ∧
    ((s.sendFilter g a f).valve = some .toClose → f.valve = some .toClose) ∧
    ∀ r : OverrideRecord, (kindOf r.station).hasOutput r.value.output = true →
      (s.overrideStatus r = .applied ↔ s.sendFilter r.seg r.station r.value.fields = r.value.fields) ∧
      (s.overrideStatus r = .suppressed →
        (s.sendFilter r.seg r.station r.value.fields).get? r.value.output =
          match r.value with
          | .fan _ => some (.fan 0)
          | .valve _ => some (.valve .toOpen)
          | .bypass _ => some (.bypass 0))

/-- Freeze protection on plain values: the frost state after an evaluation is the one R59's table gives; over a formed table
the freeze point lies between the two entries around it and is the entry itself where the concentration is a multiple of 50;
weaker glycol never freezes at a lower temperature; a coil taken at the ambient leaves NORMAL exactly when isolation is
withdrawn; and one evaluation moves a unit at most one step toward NORMAL. -/
def Obligations.FreezeArithmetic : Prop :=
  (∀ m : Int, ((frostNext .normal m = .normal ↔ 30 ≤ m) ∧ (frostNext .normal m = .guard ↔ 0 ≤ m ∧ m < 30) ∧
      (frostNext .normal m = .protect ↔ m < 0)) ∧
    ((frostNext .guard m = .normal ↔ 50 ≤ m) ∧ (frostNext .guard m = .guard ↔ 0 ≤ m ∧ m < 50) ∧
      (frostNext .guard m = .protect ↔ m < 0)) ∧
    (frostNext .protect m = .guard ↔ 20 ≤ m) ∧ (frostNext .protect m = .protect ↔ m < 20)) ∧
  (∀ table : List Int, table.length = 13 → (table.Pairwise fun x y => y ≤ x) →
    (∀ cu, cu < 600 → table.getD (cu / 50 + 1) 0 ≤ freezePoint table cu ∧
      freezePoint table cu ≤ table.getD (cu / 50) 0 ∧
      50 * (freezePoint table cu - table.getD (cu / 50) 0) ≥
        (table.getD (cu / 50 + 1) 0 - table.getD (cu / 50) 0) * (cu % 50 : Nat) ∧
      50 * (freezePoint table cu - table.getD (cu / 50) 0) <
        (table.getD (cu / 50 + 1) 0 - table.getD (cu / 50) 0) * (cu % 50 : Nat) + 50) ∧
    (∀ i, i ≤ 12 → freezePoint table (50 * i) = table.getD i 0) ∧
    ∀ c d, c ≤ d → d ≤ 600 → freezePoint table d ≤ freezePoint table c) ∧
  (∀ m : Int, (isolationNext true m = false ↔ frostNext .normal m ≠ .normal) ∧
    (isolationNext false m = true ↔ frostNext .guard m = .normal) ∧ frostNext .protect m ≠ .normal) ∧
  ∀ outlet fp g : Int, -999 ≤ coilMargin outlet fp g ∧ coilMargin outlet fp g ≤ 999 ∧
    (-600 ≤ outlet → outlet ≤ 800 → -600 ≤ fp → fp ≤ 0 → 20 ≤ g → g ≤ 150 →
      coilMargin outlet fp g = min 999 (outlet - (fp + g)))

/-- The demand index moves by the increment over 64 rounded to the nearest, halves away from zero, within 0 to 1000. Below a
demand of 200 the ladder turns no fan, keeps k_min units in service and opens the bypass by 5 for each step, no further
than Bmax; from 200 on it shuts the bypass, keeps k_min and the rounded-up share of the rest in service, at most N, and
turns the fans at five quarters of what is above 200, never between 0 and Smin. More demand never takes a unit out. -/
def Obligations.AllocatorArithmetic : Prop :=
  (∀ x : Int, (2 * (64 * roundBy64 x - x)).natAbs ≤ 64 ∧
    ((2 * (64 * roundBy64 x - x)).natAbs = 64 → (0 < x → x < 64 * roundBy64 x) ∧ (x < 0 → 64 * roundBy64 x < x))) ∧
  (∀ (d : Nat) (inc : Int), (demandNext d inc : Int) = max 0 (min 1000 ((d : Int) + roundBy64 inc))) ∧
  ∀ d d' n kMin smin bmax : Nat, d ≤ 1000 → d' ≤ 1000 → kMin ≤ n → 1 ≤ smin →
    let r := ladder d n kMin smin bmax
    (kMin ≤ r.k ∧ r.k ≤ n) ∧ (d ≤ d' → r.k ≤ (ladder d' n kMin smin bmax).k) ∧
    (d < 200 → r.k = kMin ∧ r.speed = 0 ∧ r.bypass = min ((200 - d) * 5) bmax) ∧
    (200 ≤ d → r.bypass = 0 ∧ (r.speed = 0 ↔ d = 200) ∧ (d ≠ 200 → smin ≤ r.speed) ∧
      (∀ c, 400 * c < (n - kMin) * (d - 200) + 400 → (n - kMin) * (d - 200) ≤ 400 * c → r.k = min n (kMin + c)) ∧
      ∀ q, 4 * q ≤ (d - 200) * 5 → (d - 200) * 5 < 4 * q + 4 → r.speed = if q = 0 then 0 else max q smin) ∧
    (600 ≤ d → r.k = n) ∧ (smin ≤ 1000 → r.speed ≤ 1000)

/-- A full allocation run takes the ladder at the demand, with every eligible unit as its minimum in service while isolation
is WITHDRAWN; of the eligible units it serves the first k of the service order, k being what that ladder asks for, with those
in PROTECT, or in GUARD with their valve not CLOSED, and no other, so that at least k are served; a unit served wishes VALVE
OPEN and the common speed, one not served VALVE CLOSE and FAN 0, and one not eligible keeps its wish. And what an end of pass
brings, whole: the demand stage, with a warm-up run holding the demand and an invalid supply setting SUPPLY LOST; after the
warm-up the full run, whose changed values are posted in address order for stations that may be posted to and outputs with no
override; then the WAITING records whose stations may be posted to, in index order. -/
def Obligations.FullRunServes : Prop :=
  (∀ (s : State) (l : LoopId), s.OrdersComplete → (s.alloc.get l).commands.map StationCommands.addr =
      outputStations (s.settings.population l) →
    let u := s.fullStages l
    let n := (s.eligible l).length
    ∃ run, (u.alloc.get l).lastRun = some run ∧
      run = ladder (s.alloc.get l).demand n
        (if (s.fpb.get l).permitted = true then min (s.settings.loop.get l).minService n else n)
        (s.settings.loop.get l).smin (s.fpb.get l).bmax ∧
      (∀ a, a ∈ s.eligible l ↔ a ∈ s.settings.population l ∧ kindOf a = .unit ∧
        ∃ st, s.station? l a = some st ∧ st.counter ≠ 0 ∧ st.mode = .auto) ∧
      (∀ a ∈ s.eligible l, ∀ x, s.unit? l a = some x →
        (x.frost = .protect ∨ (x.frost = .guard ∧ s.validPoint l a 3 ≠ some 1)) →
        (u.commands l a).valve.allocator = some .toOpen ∧ (u.commands l a).fan.allocator = some run.speed) ∧
      (∀ a ∈ s.eligible l, ((u.commands l a).valve.allocator = some .toOpen ↔
        a ∈ ((s.alloc.get l).order.filter fun b => decide (b ∈ s.eligible l)).take run.k ∨
          ∃ x, s.unit? l a = some x ∧ (x.frost = .protect ∨ (x.frost = .guard ∧ s.validPoint l a 3 ≠ some 1)))) ∧
      (∀ a ∈ s.eligible l, kindOf a = .unit →
        ((u.commands l a).valve.allocator = some .toOpen ∧ (u.commands l a).fan.allocator = some run.speed) ∨
        ((u.commands l a).valve.allocator = some .toClose ∧ (u.commands l a).fan.allocator = some 0)) ∧
      run.k ≤ ((s.eligible l).filter fun a => (u.commands l a).valve.allocator == some .toOpen).length ∧
      (∀ a, a ∉ s.eligible l → kindOf a = .unit → u.commands l a = s.commands l a) ∧
      (12 ∈ s.settings.population l → (u.commands l 12).bypass.allocator = some run.bypass)) ∧
  ∀ (s : State) (l : LoopId), (s.alloc.get l).commands.map StationCommands.addr =
      outputStations (s.settings.population l) →
    let st := s.settings.loop.get l
    let old := s.alloc.get l
    let e := fun ts : Int => max (-200) (min 200 (ts - (s.merge.get l).target))
    let faults := if s.validPoint l 12 0 = none then s.faults ||| (FaultFlag.supplyLost l).mask else s.faults
    let demanded : State := { s with
      fsc := s.fsc.modify l fun f => { f with passRunning := false }
      alloc := s.alloc.modify l fun al => match s.validPoint l 12 0 with
        | some ts => { al with
          passes := min 2 (al.passes + 1), ePrev := e ts, lastSupply := some ts, supplyValid := true
          demand := if old.passes = 0 then old.demand
            else demandNext old.demand (st.kp * (e ts - old.ePrev) + st.ki * e ts) }
        | none => { al with passes := min 2 (al.passes + 1), supplyValid := false }
      faults := faults, ports := s.noticed fun _ => if faults = s.faults then 0#8 else 0x20#8 }
    let ran := if old.passes = 0 then demanded else demanded.fullStages l
    let sent : StationCommands → Fields := fun c =>
      if old.passes ≠ 0 ∧ s.answers l c.addr = true then
        { fan := if s.override? l c.addr .fan = none ∧ c.fan.allocator ≠ c.fan.posted then c.fan.allocator else none
          valve := if s.override? l c.addr .valve = none ∧ c.valve.allocator ≠ c.valve.posted then c.valve.allocator
            else none
          bypass := if s.override? l c.addr .bypass = none ∧ c.bypass.allocator ≠ c.bypass.posted then
              c.bypass.allocator else none }
      else { fan := none, valve := none, bypass := none }
    let due := fun r : OverrideRecord => r.seg = l ∧ r.delivery = .waiting ∧ s.answers l r.station = true
    let posts := ((ran.alloc.get l).commands.filter fun c => !(sent c).isEmpty).map (fun c => (c.addr, sent c, none)) ++
      (s.overrides.filter fun r => decide (due r)).map (fun r => (r.station, r.value.fields, some r.owner))
    s.closePass l = { ran with
      buffer := s.buffer.modify l fun es => posts.foldl (fun es x => mergePost x.1 x.2.1 x.2.2 es) es
      alloc := ran.alloc.modify l fun al => { al with commands := al.commands.map fun c => { c with
        fan := { c.fan with posted := if (sent c).fan = none then c.fan.posted else (sent c).fan }
        valve := { c.valve with posted := if (sent c).valve = none then c.valve.posted else (sent c).valve }
        bypass := { c.bypass with posted := if (sent c).bypass = none then c.bypass.posted else (sent c).bypass } } }
      overrides := s.overrides.map fun r => if due r then { r with delivery := .posted } else r }
end

