-- ==== Sys2Proof/Laws/State.lean ====
section
/-! SUPPORT. The state after each named update, field by field, and the two fixed-size tables after theirs. -/

namespace Sys2Proof

/-! ### The tables -/

@[simp] theorem PerPort.get_set_self {α : Type} (t : PerPort α) (v : α) (p : PortId) : (t.set v p).get p = v := by
  cases p <;> rfl

theorem PerPort.get_set_other {α : Type} (t : PerPort α) (v : α) {p q : PortId} (h : q ≠ p) :
    (t.set v p).get q = t.get q := by
  cases p <;> cases q <;> first | rfl | exact absurd rfl h

@[simp] theorem PerPort.get_modify_self {α : Type} (t : PerPort α) (p : PortId) (f : α → α) :
    (t.modify p f).get p = f (t.get p) := t.get_set_self _ p

theorem PerPort.get_modify_other {α : Type} (t : PerPort α) {p q : PortId} (f : α → α) (h : q ≠ p) :
    (t.modify p f).get q = t.get q := t.get_set_other _ h

theorem PerPort.get_modify {α : Type} (t : PerPort α) (p q : PortId) (f : α → α) :
    (t.modify p f).get q = if q = p then f (t.get q) else t.get q := by
  cases p <;> cases q <;> rfl

@[simp] theorem PerPort.get_map {α β : Type} (t : PerPort α) (f : PortId → α → β) (p : PortId) :
    (t.map f).get p = f p (t.get p) := by
  cases p <;> rfl

@[simp] theorem PerPort.get_const {α : Type} (v : α) (p : PortId) : (PerPort.const v).get p = v := by
  cases p <;> rfl

/-- Two tables with the same value at every port are one. -/
theorem PerPort.ext_get {α : Type} {t u : PerPort α} (h : ∀ p, t.get p = u.get p) : t = u := by
  cases t; cases u
  have h0 := h .sp0; have h1 := h .sp1; have h2 := h .sp2; have h3 := h .sp3
  simp only [PerPort.get] at h0 h1 h2 h3
  subst h0 h1 h2 h3; rfl

@[simp] theorem PerSeg.get_set_self {α : Type} (t : PerSeg α) (v : α) (g : SegId) : (t.set v g).get g = v := by
  cases g <;> rfl

theorem PerSeg.get_set_other {α : Type} (t : PerSeg α) (v : α) {g h : SegId} (n : h ≠ g) :
    (t.set v g).get h = t.get h := by
  cases g <;> cases h <;> first | rfl | exact absurd rfl n

theorem PerSeg.get_set {α : Type} (t : PerSeg α) (v : α) (g h : SegId) :
    (t.set v g).get h = if h = g then v else t.get h := by
  cases g <;> cases h <;> rfl

@[simp] theorem PerSeg.get_modify_self {α : Type} (t : PerSeg α) (g : SegId) (f : α → α) :
    (t.modify g f).get g = f (t.get g) := t.get_set_self _ g

theorem PerSeg.get_modify_other {α : Type} (t : PerSeg α) {g h : SegId} (f : α → α) (n : h ≠ g) :
    (t.modify g f).get h = t.get h := t.get_set_other _ n

theorem PerSeg.get_modify {α : Type} (t : PerSeg α) (g h : SegId) (f : α → α) :
    (t.modify g f).get h = if h = g then f (t.get h) else t.get h := by
  cases g <;> cases h <;> rfl

@[simp] theorem PerSeg.get_map {α β : Type} (t : PerSeg α) (f : SegId → α → β) (g : SegId) :
    (t.map f).get g = f g (t.get g) := by
  cases g <;> rfl

/-- Two tables with the same value at both segments are one. -/
theorem PerSeg.ext_get {α : Type} {t u : PerSeg α} (h : ∀ g, t.get g = u.get g) : t = u := by
  cases t; cases u
  have h0 := h .fs0; have h1 := h .fs1
  simp only [PerSeg.get] at h0 h1
  subst h0 h1; rfl

end Sys2Proof

namespace Sys2Proof.Machine

/-! ### After modPort -/

section

variable (s : State) (p : PortId) (f : Port → Port)

@[simp] theorem State.modPort_pending : (s.modPort p f).pending = s.pending := rfl
@[simp] theorem State.modPort_now : (s.modPort p f).now = s.now := rfl
@[simp] theorem State.modPort_phase : (s.modPort p f).phase = s.phase := rfl
@[simp] theorem State.modPort_settings : (s.modPort p f).settings = s.settings := rfl
@[simp] theorem State.modPort_saving : (s.modPort p f).saving = s.saving := rfl
@[simp] theorem State.modPort_restartPending : (s.modPort p f).restartPending = s.restartPending := rfl
@[simp] theorem State.modPort_faults : (s.modPort p f).faults = s.faults := rfl
@[simp] theorem State.modPort_ports : (s.modPort p f).ports = s.ports.modify p f := rfl
@[simp] theorem State.modPort_image : (s.modPort p f).image = s.image := rfl
@[simp] theorem State.modPort_fsc : (s.modPort p f).fsc = s.fsc := rfl
@[simp] theorem State.modPort_ta : (s.modPort p f).ta = s.ta := rfl
@[simp] theorem State.modPort_fpb : (s.modPort p f).fpb = s.fpb := rfl
@[simp] theorem State.modPort_icingTimer : (s.modPort p f).icingTimer = s.icingTimer := rfl
@[simp] theorem State.modPort_slots : (s.modPort p f).slots = s.slots := rfl
@[simp] theorem State.modPort_merge : (s.modPort p f).merge = s.merge := rfl
@[simp] theorem State.modPort_alloc : (s.modPort p f).alloc = s.alloc := rfl
@[simp] theorem State.modPort_buffer : (s.modPort p f).buffer = s.buffer := rfl
@[simp] theorem State.modPort_settle : (s.modPort p f).settle = s.settle := rfl
@[simp] theorem State.modPort_fences : (s.modPort p f).fences = s.fences := rfl
@[simp] theorem State.modPort_overrides : (s.modPort p f).overrides = s.overrides := rfl
@[simp] theorem State.modPort_accessMap : (s.modPort p f).accessMap = s.accessMap := rfl

end

/-! ### After mapPorts -/

section

variable (s : State) (f : PortId → Port → Port)

@[simp] theorem State.mapPorts_pending : (s.mapPorts f).pending = s.pending := rfl
@[simp] theorem State.mapPorts_now : (s.mapPorts f).now = s.now := rfl
@[simp] theorem State.mapPorts_phase : (s.mapPorts f).phase = s.phase := rfl
@[simp] theorem State.mapPorts_settings : (s.mapPorts f).settings = s.settings := rfl
@[simp] theorem State.mapPorts_saving : (s.mapPorts f).saving = s.saving := rfl
@[simp] theorem State.mapPorts_restartPending : (s.mapPorts f).restartPending = s.restartPending := rfl
@[simp] theorem State.mapPorts_faults : (s.mapPorts f).faults = s.faults := rfl
@[simp] theorem State.mapPorts_ports : (s.mapPorts f).ports = s.ports.map f := rfl
@[simp] theorem State.mapPorts_image : (s.mapPorts f).image = s.image := rfl
@[simp] theorem State.mapPorts_fsc : (s.mapPorts f).fsc = s.fsc := rfl
@[simp] theorem State.mapPorts_ta : (s.mapPorts f).ta = s.ta := rfl
@[simp] theorem State.mapPorts_fpb : (s.mapPorts f).fpb = s.fpb := rfl
@[simp] theorem State.mapPorts_icingTimer : (s.mapPorts f).icingTimer = s.icingTimer := rfl
@[simp] theorem State.mapPorts_slots : (s.mapPorts f).slots = s.slots := rfl
@[simp] theorem State.mapPorts_merge : (s.mapPorts f).merge = s.merge := rfl
@[simp] theorem State.mapPorts_alloc : (s.mapPorts f).alloc = s.alloc := rfl
@[simp] theorem State.mapPorts_buffer : (s.mapPorts f).buffer = s.buffer := rfl
@[simp] theorem State.mapPorts_settle : (s.mapPorts f).settle = s.settle := rfl
@[simp] theorem State.mapPorts_fences : (s.mapPorts f).fences = s.fences := rfl
@[simp] theorem State.mapPorts_overrides : (s.mapPorts f).overrides = s.overrides := rfl
@[simp] theorem State.mapPorts_accessMap : (s.mapPorts f).accessMap = s.accessMap := rfl

end

/-! ### After modImage -/

section

variable (s : State) (g : SegId) (f : List Station → List Station)

@[simp] theorem State.modImage_pending : (s.modImage g f).pending = s.pending := rfl
@[simp] theorem State.modImage_now : (s.modImage g f).now = s.now := rfl
@[simp] theorem State.modImage_phase : (s.modImage g f).phase = s.phase := rfl
@[simp] theorem State.modImage_settings : (s.modImage g f).settings = s.settings := rfl
@[simp] theorem State.modImage_saving : (s.modImage g f).saving = s.saving := rfl
@[simp] theorem State.modImage_restartPending : (s.modImage g f).restartPending = s.restartPending := rfl
@[simp] theorem State.modImage_faults : (s.modImage g f).faults = s.faults := rfl
@[simp] theorem State.modImage_ports : (s.modImage g f).ports = s.ports := rfl
@[simp] theorem State.modImage_image : (s.modImage g f).image = s.image.modify g f := rfl
@[simp] theorem State.modImage_fsc : (s.modImage g f).fsc = s.fsc := rfl
@[simp] theorem State.modImage_ta : (s.modImage g f).ta = s.ta := rfl
@[simp] theorem State.modImage_fpb : (s.modImage g f).fpb = s.fpb := rfl
@[simp] theorem State.modImage_icingTimer : (s.modImage g f).icingTimer = s.icingTimer := rfl
@[simp] theorem State.modImage_slots : (s.modImage g f).slots = s.slots := rfl
@[simp] theorem State.modImage_merge : (s.modImage g f).merge = s.merge := rfl
@[simp] theorem State.modImage_alloc : (s.modImage g f).alloc = s.alloc := rfl
@[simp] theorem State.modImage_buffer : (s.modImage g f).buffer = s.buffer := rfl
@[simp] theorem State.modImage_settle : (s.modImage g f).settle = s.settle := rfl
@[simp] theorem State.modImage_fences : (s.modImage g f).fences = s.fences := rfl
@[simp] theorem State.modImage_overrides : (s.modImage g f).overrides = s.overrides := rfl
@[simp] theorem State.modImage_accessMap : (s.modImage g f).accessMap = s.accessMap := rfl

end

/-! ### After modFsc -/

section

variable (s : State) (g : SegId) (f : Fsc → Fsc)

@[simp] theorem State.modFsc_pending : (s.modFsc g f).pending = s.pending := rfl
@[simp] theorem State.modFsc_now : (s.modFsc g f).now = s.now := rfl
@[simp] theorem State.modFsc_phase : (s.modFsc g f).phase = s.phase := rfl
@[simp] theorem State.modFsc_settings : (s.modFsc g f).settings = s.settings := rfl
@[simp] theorem State.modFsc_saving : (s.modFsc g f).saving = s.saving := rfl
@[simp] theorem State.modFsc_restartPending : (s.modFsc g f).restartPending = s.restartPending := rfl
@[simp] theorem State.modFsc_faults : (s.modFsc g f).faults = s.faults := rfl
@[simp] theorem State.modFsc_ports : (s.modFsc g f).ports = s.ports := rfl
@[simp] theorem State.modFsc_image : (s.modFsc g f).image = s.image := rfl
@[simp] theorem State.modFsc_fsc : (s.modFsc g f).fsc = s.fsc.modify g f := rfl
@[simp] theorem State.modFsc_ta : (s.modFsc g f).ta = s.ta := rfl
@[simp] theorem State.modFsc_fpb : (s.modFsc g f).fpb = s.fpb := rfl
@[simp] theorem State.modFsc_icingTimer : (s.modFsc g f).icingTimer = s.icingTimer := rfl
@[simp] theorem State.modFsc_slots : (s.modFsc g f).slots = s.slots := rfl
@[simp] theorem State.modFsc_merge : (s.modFsc g f).merge = s.merge := rfl
@[simp] theorem State.modFsc_alloc : (s.modFsc g f).alloc = s.alloc := rfl
@[simp] theorem State.modFsc_buffer : (s.modFsc g f).buffer = s.buffer := rfl
@[simp] theorem State.modFsc_settle : (s.modFsc g f).settle = s.settle := rfl
@[simp] theorem State.modFsc_fences : (s.modFsc g f).fences = s.fences := rfl
@[simp] theorem State.modFsc_overrides : (s.modFsc g f).overrides = s.overrides := rfl
@[simp] theorem State.modFsc_accessMap : (s.modFsc g f).accessMap = s.accessMap := rfl

end

/-! ### After modFpb -/

section

variable (s : State) (l : LoopId) (f : Fpb → Fpb)

@[simp] theorem State.modFpb_pending : (s.modFpb l f).pending = s.pending := rfl
@[simp] theorem State.modFpb_now : (s.modFpb l f).now = s.now := rfl
@[simp] theorem State.modFpb_phase : (s.modFpb l f).phase = s.phase := rfl
@[simp] theorem State.modFpb_settings : (s.modFpb l f).settings = s.settings := rfl
@[simp] theorem State.modFpb_saving : (s.modFpb l f).saving = s.saving := rfl
@[simp] theorem State.modFpb_restartPending : (s.modFpb l f).restartPending = s.restartPending := rfl
@[simp] theorem State.modFpb_faults : (s.modFpb l f).faults = s.faults := rfl
@[simp] theorem State.modFpb_ports : (s.modFpb l f).ports = s.ports := rfl
@[simp] theorem State.modFpb_image : (s.modFpb l f).image = s.image := rfl
@[simp] theorem State.modFpb_fsc : (s.modFpb l f).fsc = s.fsc := rfl
@[simp] theorem State.modFpb_ta : (s.modFpb l f).ta = s.ta := rfl
@[simp] theorem State.modFpb_fpb : (s.modFpb l f).fpb = s.fpb.modify l f := rfl
@[simp] theorem State.modFpb_icingTimer : (s.modFpb l f).icingTimer = s.icingTimer := rfl
@[simp] theorem State.modFpb_slots : (s.modFpb l f).slots = s.slots := rfl
@[simp] theorem State.modFpb_merge : (s.modFpb l f).merge = s.merge := rfl
@[simp] theorem State.modFpb_alloc : (s.modFpb l f).alloc = s.alloc := rfl
@[simp] theorem State.modFpb_buffer : (s.modFpb l f).buffer = s.buffer := rfl
@[simp] theorem State.modFpb_settle : (s.modFpb l f).settle = s.settle := rfl
@[simp] theorem State.modFpb_fences : (s.modFpb l f).fences = s.fences := rfl
@[simp] theorem State.modFpb_overrides : (s.modFpb l f).overrides = s.overrides := rfl
@[simp] theorem State.modFpb_accessMap : (s.modFpb l f).accessMap = s.accessMap := rfl

end

/-! ### After modAlloc -/

section

variable (s : State) (l : LoopId) (f : Allocator → Allocator)

@[simp] theorem State.modAlloc_pending : (s.modAlloc l f).pending = s.pending := rfl
@[simp] theorem State.modAlloc_now : (s.modAlloc l f).now = s.now := rfl
@[simp] theorem State.modAlloc_phase : (s.modAlloc l f).phase = s.phase := rfl
@[simp] theorem State.modAlloc_settings : (s.modAlloc l f).settings = s.settings := rfl
@[simp] theorem State.modAlloc_saving : (s.modAlloc l f).saving = s.saving := rfl
@[simp] theorem State.modAlloc_restartPending : (s.modAlloc l f).restartPending = s.restartPending := rfl
@[simp] theorem State.modAlloc_faults : (s.modAlloc l f).faults = s.faults := rfl
@[simp] theorem State.modAlloc_ports : (s.modAlloc l f).ports = s.ports := rfl
@[simp] theorem State.modAlloc_image : (s.modAlloc l f).image = s.image := rfl
@[simp] theorem State.modAlloc_fsc : (s.modAlloc l f).fsc = s.fsc := rfl
@[simp] theorem State.modAlloc_ta : (s.modAlloc l f).ta = s.ta := rfl
@[simp] theorem State.modAlloc_fpb : (s.modAlloc l f).fpb = s.fpb := rfl
@[simp] theorem State.modAlloc_icingTimer : (s.modAlloc l f).icingTimer = s.icingTimer := rfl
@[simp] theorem State.modAlloc_slots : (s.modAlloc l f).slots = s.slots := rfl
@[simp] theorem State.modAlloc_merge : (s.modAlloc l f).merge = s.merge := rfl
@[simp] theorem State.modAlloc_alloc : (s.modAlloc l f).alloc = s.alloc.modify l f := rfl
@[simp] theorem State.modAlloc_buffer : (s.modAlloc l f).buffer = s.buffer := rfl
@[simp] theorem State.modAlloc_settle : (s.modAlloc l f).settle = s.settle := rfl
@[simp] theorem State.modAlloc_fences : (s.modAlloc l f).fences = s.fences := rfl
@[simp] theorem State.modAlloc_overrides : (s.modAlloc l f).overrides = s.overrides := rfl
@[simp] theorem State.modAlloc_accessMap : (s.modAlloc l f).accessMap = s.accessMap := rfl

end

/-! ### After modBuffer -/

section

variable (s : State) (g : SegId) (f : List Entry → List Entry)

@[simp] theorem State.modBuffer_pending : (s.modBuffer g f).pending = s.pending := rfl
@[simp] theorem State.modBuffer_now : (s.modBuffer g f).now = s.now := rfl
@[simp] theorem State.modBuffer_phase : (s.modBuffer g f).phase = s.phase := rfl
@[simp] theorem State.modBuffer_settings : (s.modBuffer g f).settings = s.settings := rfl
@[simp] theorem State.modBuffer_saving : (s.modBuffer g f).saving = s.saving := rfl
@[simp] theorem State.modBuffer_restartPending : (s.modBuffer g f).restartPending = s.restartPending := rfl
@[simp] theorem State.modBuffer_faults : (s.modBuffer g f).faults = s.faults := rfl
@[simp] theorem State.modBuffer_ports : (s.modBuffer g f).ports = s.ports := rfl
@[simp] theorem State.modBuffer_image : (s.modBuffer g f).image = s.image := rfl
@[simp] theorem State.modBuffer_fsc : (s.modBuffer g f).fsc = s.fsc := rfl
@[simp] theorem State.modBuffer_ta : (s.modBuffer g f).ta = s.ta := rfl
@[simp] theorem State.modBuffer_fpb : (s.modBuffer g f).fpb = s.fpb := rfl
@[simp] theorem State.modBuffer_icingTimer : (s.modBuffer g f).icingTimer = s.icingTimer := rfl
@[simp] theorem State.modBuffer_slots : (s.modBuffer g f).slots = s.slots := rfl
@[simp] theorem State.modBuffer_merge : (s.modBuffer g f).merge = s.merge := rfl
@[simp] theorem State.modBuffer_alloc : (s.modBuffer g f).alloc = s.alloc := rfl
@[simp] theorem State.modBuffer_buffer : (s.modBuffer g f).buffer = s.buffer.modify g f := rfl
@[simp] theorem State.modBuffer_settle : (s.modBuffer g f).settle = s.settle := rfl
@[simp] theorem State.modBuffer_fences : (s.modBuffer g f).fences = s.fences := rfl
@[simp] theorem State.modBuffer_overrides : (s.modBuffer g f).overrides = s.overrides := rfl
@[simp] theorem State.modBuffer_accessMap : (s.modBuffer g f).accessMap = s.accessMap := rfl

end

/-! ### After modSettle -/

section

variable (s : State) (g : SegId) (f : List SettleItem → List SettleItem)

@[simp] theorem State.modSettle_pending : (s.modSettle g f).pending = s.pending := rfl
@[simp] theorem State.modSettle_now : (s.modSettle g f).now = s.now := rfl
@[simp] theorem State.modSettle_phase : (s.modSettle g f).phase = s.phase := rfl
@[simp] theorem State.modSettle_settings : (s.modSettle g f).settings = s.settings := rfl
@[simp] theorem State.modSettle_saving : (s.modSettle g f).saving = s.saving := rfl
@[simp] theorem State.modSettle_restartPending : (s.modSettle g f).restartPending = s.restartPending := rfl
@[simp] theorem State.modSettle_faults : (s.modSettle g f).faults = s.faults := rfl
@[simp] theorem State.modSettle_ports : (s.modSettle g f).ports = s.ports := rfl
@[simp] theorem State.modSettle_image : (s.modSettle g f).image = s.image := rfl
@[simp] theorem State.modSettle_fsc : (s.modSettle g f).fsc = s.fsc := rfl
@[simp] theorem State.modSettle_ta : (s.modSettle g f).ta = s.ta := rfl
@[simp] theorem State.modSettle_fpb : (s.modSettle g f).fpb = s.fpb := rfl
@[simp] theorem State.modSettle_icingTimer : (s.modSettle g f).icingTimer = s.icingTimer := rfl
@[simp] theorem State.modSettle_slots : (s.modSettle g f).slots = s.slots := rfl
@[simp] theorem State.modSettle_merge : (s.modSettle g f).merge = s.merge := rfl
@[simp] theorem State.modSettle_alloc : (s.modSettle g f).alloc = s.alloc := rfl
@[simp] theorem State.modSettle_buffer : (s.modSettle g f).buffer = s.buffer := rfl
@[simp] theorem State.modSettle_settle : (s.modSettle g f).settle = s.settle.modify g f := rfl
@[simp] theorem State.modSettle_fences : (s.modSettle g f).fences = s.fences := rfl
@[simp] theorem State.modSettle_overrides : (s.modSettle g f).overrides = s.overrides := rfl
@[simp] theorem State.modSettle_accessMap : (s.modSettle g f).accessMap = s.accessMap := rfl

end

/-! ### After modSlot -/

section

variable (s : State) (p : PortId) (l : LoopId) (r : Option Request)

@[simp] theorem State.modSlot_pending : (s.modSlot p l r).pending = s.pending := rfl
@[simp] theorem State.modSlot_now : (s.modSlot p l r).now = s.now := rfl
@[simp] theorem State.modSlot_phase : (s.modSlot p l r).phase = s.phase := rfl
@[simp] theorem State.modSlot_settings : (s.modSlot p l r).settings = s.settings := rfl
@[simp] theorem State.modSlot_saving : (s.modSlot p l r).saving = s.saving := rfl
@[simp] theorem State.modSlot_restartPending : (s.modSlot p l r).restartPending = s.restartPending := rfl
@[simp] theorem State.modSlot_faults : (s.modSlot p l r).faults = s.faults := rfl
@[simp] theorem State.modSlot_ports : (s.modSlot p l r).ports = s.ports := rfl
@[simp] theorem State.modSlot_image : (s.modSlot p l r).image = s.image := rfl
@[simp] theorem State.modSlot_fsc : (s.modSlot p l r).fsc = s.fsc := rfl
@[simp] theorem State.modSlot_ta : (s.modSlot p l r).ta = s.ta := rfl
@[simp] theorem State.modSlot_fpb : (s.modSlot p l r).fpb = s.fpb := rfl
@[simp] theorem State.modSlot_icingTimer : (s.modSlot p l r).icingTimer = s.icingTimer := rfl
@[simp] theorem State.modSlot_slots : (s.modSlot p l r).slots = s.slots.modify p fun t => t.set r l := rfl
@[simp] theorem State.modSlot_merge : (s.modSlot p l r).merge = s.merge := rfl
@[simp] theorem State.modSlot_alloc : (s.modSlot p l r).alloc = s.alloc := rfl
@[simp] theorem State.modSlot_buffer : (s.modSlot p l r).buffer = s.buffer := rfl
@[simp] theorem State.modSlot_settle : (s.modSlot p l r).settle = s.settle := rfl
@[simp] theorem State.modSlot_fences : (s.modSlot p l r).fences = s.fences := rfl
@[simp] theorem State.modSlot_overrides : (s.modSlot p l r).overrides = s.overrides := rfl
@[simp] theorem State.modSlot_accessMap : (s.modSlot p l r).accessMap = s.accessMap := rfl

end

/-! ### After setMerge -/

section

variable (s : State) (l : LoopId) (m : Merge)

@[simp] theorem State.setMerge_pending : (s.setMerge l m).pending = s.pending := rfl
@[simp] theorem State.setMerge_now : (s.setMerge l m).now = s.now := rfl
@[simp] theorem State.setMerge_phase : (s.setMerge l m).phase = s.phase := rfl
@[simp] theorem State.setMerge_settings : (s.setMerge l m).settings = s.settings := rfl
@[simp] theorem State.setMerge_saving : (s.setMerge l m).saving = s.saving := rfl
@[simp] theorem State.setMerge_restartPending : (s.setMerge l m).restartPending = s.restartPending := rfl
@[simp] theorem State.setMerge_faults : (s.setMerge l m).faults = s.faults := rfl
@[simp] theorem State.setMerge_ports : (s.setMerge l m).ports = s.ports := rfl
@[simp] theorem State.setMerge_image : (s.setMerge l m).image = s.image := rfl
@[simp] theorem State.setMerge_fsc : (s.setMerge l m).fsc = s.fsc := rfl
@[simp] theorem State.setMerge_ta : (s.setMerge l m).ta = s.ta := rfl
@[simp] theorem State.setMerge_fpb : (s.setMerge l m).fpb = s.fpb := rfl
@[simp] theorem State.setMerge_icingTimer : (s.setMerge l m).icingTimer = s.icingTimer := rfl
@[simp] theorem State.setMerge_slots : (s.setMerge l m).slots = s.slots := rfl
@[simp] theorem State.setMerge_merge : (s.setMerge l m).merge = s.merge.set m l := rfl
@[simp] theorem State.setMerge_alloc : (s.setMerge l m).alloc = s.alloc := rfl
@[simp] theorem State.setMerge_buffer : (s.setMerge l m).buffer = s.buffer := rfl
@[simp] theorem State.setMerge_settle : (s.setMerge l m).settle = s.settle := rfl
@[simp] theorem State.setMerge_fences : (s.setMerge l m).fences = s.fences := rfl
@[simp] theorem State.setMerge_overrides : (s.setMerge l m).overrides = s.overrides := rfl
@[simp] theorem State.setMerge_accessMap : (s.setMerge l m).accessMap = s.accessMap := rfl

end

/-! ### After mapFences -/

section

variable (s : State) (l : LoopId) (f : PortId → FenceRecord → FenceRecord)

@[simp] theorem State.mapFences_pending : (s.mapFences l f).pending = s.pending := rfl
@[simp] theorem State.mapFences_now : (s.mapFences l f).now = s.now := rfl
@[simp] theorem State.mapFences_phase : (s.mapFences l f).phase = s.phase := rfl
@[simp] theorem State.mapFences_settings : (s.mapFences l f).settings = s.settings := rfl
@[simp] theorem State.mapFences_saving : (s.mapFences l f).saving = s.saving := rfl
@[simp] theorem State.mapFences_restartPending : (s.mapFences l f).restartPending = s.restartPending := rfl
@[simp] theorem State.mapFences_faults : (s.mapFences l f).faults = s.faults := rfl
@[simp] theorem State.mapFences_ports : (s.mapFences l f).ports = s.ports := rfl
@[simp] theorem State.mapFences_image : (s.mapFences l f).image = s.image := rfl
@[simp] theorem State.mapFences_fsc : (s.mapFences l f).fsc = s.fsc := rfl
@[simp] theorem State.mapFences_ta : (s.mapFences l f).ta = s.ta := rfl
@[simp] theorem State.mapFences_fpb : (s.mapFences l f).fpb = s.fpb := rfl
@[simp] theorem State.mapFences_icingTimer : (s.mapFences l f).icingTimer = s.icingTimer := rfl
@[simp] theorem State.mapFences_slots : (s.mapFences l f).slots = s.slots := rfl
@[simp] theorem State.mapFences_merge : (s.mapFences l f).merge = s.merge := rfl
@[simp] theorem State.mapFences_alloc : (s.mapFences l f).alloc = s.alloc := rfl
@[simp] theorem State.mapFences_buffer : (s.mapFences l f).buffer = s.buffer := rfl
@[simp] theorem State.mapFences_settle : (s.mapFences l f).settle = s.settle := rfl
@[simp] theorem State.mapFences_fences : (s.mapFences l f).fences = s.fences.map fun p t => t.modify l (f p) := rfl
@[simp] theorem State.mapFences_overrides : (s.mapFences l f).overrides = s.overrides := rfl
@[simp] theorem State.mapFences_accessMap : (s.mapFences l f).accessMap = s.accessMap := rfl

end

/-! ### After setFence -/

section

variable (s : State) (p : PortId) (l : LoopId) (r : FenceRecord)

@[simp] theorem State.setFence_pending : (s.setFence p l r).pending = s.pending := rfl
@[simp] theorem State.setFence_now : (s.setFence p l r).now = s.now := rfl
@[simp] theorem State.setFence_phase : (s.setFence p l r).phase = s.phase := rfl
@[simp] theorem State.setFence_settings : (s.setFence p l r).settings = s.settings := rfl
@[simp] theorem State.setFence_saving : (s.setFence p l r).saving = s.saving := rfl
@[simp] theorem State.setFence_restartPending : (s.setFence p l r).restartPending = s.restartPending := rfl
@[simp] theorem State.setFence_faults : (s.setFence p l r).faults = s.faults := rfl
@[simp] theorem State.setFence_ports : (s.setFence p l r).ports = s.ports := rfl
@[simp] theorem State.setFence_image : (s.setFence p l r).image = s.image := rfl
@[simp] theorem State.setFence_fsc : (s.setFence p l r).fsc = s.fsc := rfl
@[simp] theorem State.setFence_ta : (s.setFence p l r).ta = s.ta := rfl
@[simp] theorem State.setFence_fpb : (s.setFence p l r).fpb = s.fpb := rfl
@[simp] theorem State.setFence_icingTimer : (s.setFence p l r).icingTimer = s.icingTimer := rfl
@[simp] theorem State.setFence_slots : (s.setFence p l r).slots = s.slots := rfl
@[simp] theorem State.setFence_merge : (s.setFence p l r).merge = s.merge := rfl
@[simp] theorem State.setFence_alloc : (s.setFence p l r).alloc = s.alloc := rfl
@[simp] theorem State.setFence_buffer : (s.setFence p l r).buffer = s.buffer := rfl
@[simp] theorem State.setFence_settle : (s.setFence p l r).settle = s.settle := rfl
@[simp] theorem State.setFence_fences : (s.setFence p l r).fences = s.fences.modify p fun t => t.set r l := rfl
@[simp] theorem State.setFence_overrides : (s.setFence p l r).overrides = s.overrides := rfl
@[simp] theorem State.setFence_accessMap : (s.setFence p l r).accessMap = s.accessMap := rfl

end

/-! ### After setOverrides -/

section

variable (s : State) (rs : List OverrideRecord)

@[simp] theorem State.setOverrides_pending : (s.setOverrides rs).pending = s.pending := rfl
@[simp] theorem State.setOverrides_now : (s.setOverrides rs).now = s.now := rfl
@[simp] theorem State.setOverrides_phase : (s.setOverrides rs).phase = s.phase := rfl
@[simp] theorem State.setOverrides_settings : (s.setOverrides rs).settings = s.settings := rfl
@[simp] theorem State.setOverrides_saving : (s.setOverrides rs).saving = s.saving := rfl
@[simp] theorem State.setOverrides_restartPending : (s.setOverrides rs).restartPending = s.restartPending := rfl
@[simp] theorem State.setOverrides_faults : (s.setOverrides rs).faults = s.faults := rfl
@[simp] theorem State.setOverrides_ports : (s.setOverrides rs).ports = s.ports := rfl
@[simp] theorem State.setOverrides_image : (s.setOverrides rs).image = s.image := rfl
@[simp] theorem State.setOverrides_fsc : (s.setOverrides rs).fsc = s.fsc := rfl
@[simp] theorem State.setOverrides_ta : (s.setOverrides rs).ta = s.ta := rfl
@[simp] theorem State.setOverrides_fpb : (s.setOverrides rs).fpb = s.fpb := rfl
@[simp] theorem State.setOverrides_icingTimer : (s.setOverrides rs).icingTimer = s.icingTimer := rfl
@[simp] theorem State.setOverrides_slots : (s.setOverrides rs).slots = s.slots := rfl
@[simp] theorem State.setOverrides_merge : (s.setOverrides rs).merge = s.merge := rfl
@[simp] theorem State.setOverrides_alloc : (s.setOverrides rs).alloc = s.alloc := rfl
@[simp] theorem State.setOverrides_buffer : (s.setOverrides rs).buffer = s.buffer := rfl
@[simp] theorem State.setOverrides_settle : (s.setOverrides rs).settle = s.settle := rfl
@[simp] theorem State.setOverrides_fences : (s.setOverrides rs).fences = s.fences := rfl
@[simp] theorem State.setOverrides_overrides : (s.setOverrides rs).overrides = rs := rfl
@[simp] theorem State.setOverrides_accessMap : (s.setOverrides rs).accessMap = s.accessMap := rfl

end

/-! ### After setMap -/

section

variable (s : State) (es : List MapEntry)

@[simp] theorem State.setMap_pending : (s.setMap es).pending = s.pending := rfl
@[simp] theorem State.setMap_now : (s.setMap es).now = s.now := rfl
@[simp] theorem State.setMap_phase : (s.setMap es).phase = s.phase := rfl
@[simp] theorem State.setMap_settings : (s.setMap es).settings = s.settings := rfl
@[simp] theorem State.setMap_saving : (s.setMap es).saving = s.saving := rfl
@[simp] theorem State.setMap_restartPending : (s.setMap es).restartPending = s.restartPending := rfl
@[simp] theorem State.setMap_faults : (s.setMap es).faults = s.faults := rfl
@[simp] theorem State.setMap_ports : (s.setMap es).ports = s.ports := rfl
@[simp] theorem State.setMap_image : (s.setMap es).image = s.image := rfl
@[simp] theorem State.setMap_fsc : (s.setMap es).fsc = s.fsc := rfl
@[simp] theorem State.setMap_ta : (s.setMap es).ta = s.ta := rfl
@[simp] theorem State.setMap_fpb : (s.setMap es).fpb = s.fpb := rfl
@[simp] theorem State.setMap_icingTimer : (s.setMap es).icingTimer = s.icingTimer := rfl
@[simp] theorem State.setMap_slots : (s.setMap es).slots = s.slots := rfl
@[simp] theorem State.setMap_merge : (s.setMap es).merge = s.merge := rfl
@[simp] theorem State.setMap_alloc : (s.setMap es).alloc = s.alloc := rfl
@[simp] theorem State.setMap_buffer : (s.setMap es).buffer = s.buffer := rfl
@[simp] theorem State.setMap_settle : (s.setMap es).settle = s.settle := rfl
@[simp] theorem State.setMap_fences : (s.setMap es).fences = s.fences := rfl
@[simp] theorem State.setMap_overrides : (s.setMap es).overrides = s.overrides := rfl
@[simp] theorem State.setMap_accessMap : (s.setMap es).accessMap = es := rfl

end

/-! ### After setFaults -/

section

variable (s : State) (f : BitVec 24)

@[simp] theorem State.setFaults_pending : (s.setFaults f).pending = s.pending := rfl
@[simp] theorem State.setFaults_now : (s.setFaults f).now = s.now := rfl
@[simp] theorem State.setFaults_phase : (s.setFaults f).phase = s.phase := rfl
@[simp] theorem State.setFaults_settings : (s.setFaults f).settings = s.settings := rfl
@[simp] theorem State.setFaults_saving : (s.setFaults f).saving = s.saving := rfl
@[simp] theorem State.setFaults_restartPending : (s.setFaults f).restartPending = s.restartPending := rfl
@[simp] theorem State.setFaults_faults : (s.setFaults f).faults = f := rfl
@[simp] theorem State.setFaults_ports : (s.setFaults f).ports = s.ports := rfl
@[simp] theorem State.setFaults_image : (s.setFaults f).image = s.image := rfl
@[simp] theorem State.setFaults_fsc : (s.setFaults f).fsc = s.fsc := rfl
@[simp] theorem State.setFaults_ta : (s.setFaults f).ta = s.ta := rfl
@[simp] theorem State.setFaults_fpb : (s.setFaults f).fpb = s.fpb := rfl
@[simp] theorem State.setFaults_icingTimer : (s.setFaults f).icingTimer = s.icingTimer := rfl
@[simp] theorem State.setFaults_slots : (s.setFaults f).slots = s.slots := rfl
@[simp] theorem State.setFaults_merge : (s.setFaults f).merge = s.merge := rfl
@[simp] theorem State.setFaults_alloc : (s.setFaults f).alloc = s.alloc := rfl
@[simp] theorem State.setFaults_buffer : (s.setFaults f).buffer = s.buffer := rfl
@[simp] theorem State.setFaults_settle : (s.setFaults f).settle = s.settle := rfl
@[simp] theorem State.setFaults_fences : (s.setFaults f).fences = s.fences := rfl
@[simp] theorem State.setFaults_overrides : (s.setFaults f).overrides = s.overrides := rfl
@[simp] theorem State.setFaults_accessMap : (s.setFaults f).accessMap = s.accessMap := rfl

end

/-! ### After setTa -/

section

variable (s : State) (t : Int)

@[simp] theorem State.setTa_pending : (s.setTa t).pending = s.pending := rfl
@[simp] theorem State.setTa_now : (s.setTa t).now = s.now := rfl
@[simp] theorem State.setTa_phase : (s.setTa t).phase = s.phase := rfl
@[simp] theorem State.setTa_settings : (s.setTa t).settings = s.settings := rfl
@[simp] theorem State.setTa_saving : (s.setTa t).saving = s.saving := rfl
@[simp] theorem State.setTa_restartPending : (s.setTa t).restartPending = s.restartPending := rfl
@[simp] theorem State.setTa_faults : (s.setTa t).faults = s.faults := rfl
@[simp] theorem State.setTa_ports : (s.setTa t).ports = s.ports := rfl
@[simp] theorem State.setTa_image : (s.setTa t).image = s.image := rfl
@[simp] theorem State.setTa_fsc : (s.setTa t).fsc = s.fsc := rfl
@[simp] theorem State.setTa_ta : (s.setTa t).ta = t := rfl
@[simp] theorem State.setTa_fpb : (s.setTa t).fpb = s.fpb := rfl
@[simp] theorem State.setTa_icingTimer : (s.setTa t).icingTimer = s.icingTimer := rfl
@[simp] theorem State.setTa_slots : (s.setTa t).slots = s.slots := rfl
@[simp] theorem State.setTa_merge : (s.setTa t).merge = s.merge := rfl
@[simp] theorem State.setTa_alloc : (s.setTa t).alloc = s.alloc := rfl
@[simp] theorem State.setTa_buffer : (s.setTa t).buffer = s.buffer := rfl
@[simp] theorem State.setTa_settle : (s.setTa t).settle = s.settle := rfl
@[simp] theorem State.setTa_fences : (s.setTa t).fences = s.fences := rfl
@[simp] theorem State.setTa_overrides : (s.setTa t).overrides = s.overrides := rfl
@[simp] theorem State.setTa_accessMap : (s.setTa t).accessMap = s.accessMap := rfl

end

/-! ### After setSettings -/

section

variable (s : State) (st : Settings)

@[simp] theorem State.setSettings_pending : (s.setSettings st).pending = s.pending := rfl
@[simp] theorem State.setSettings_now : (s.setSettings st).now = s.now := rfl
@[simp] theorem State.setSettings_phase : (s.setSettings st).phase = s.phase := rfl
@[simp] theorem State.setSettings_settings : (s.setSettings st).settings = st := rfl
@[simp] theorem State.setSettings_saving : (s.setSettings st).saving = s.saving := rfl
@[simp] theorem State.setSettings_restartPending : (s.setSettings st).restartPending = s.restartPending := rfl
@[simp] theorem State.setSettings_faults : (s.setSettings st).faults = s.faults := rfl
@[simp] theorem State.setSettings_ports : (s.setSettings st).ports = s.ports := rfl
@[simp] theorem State.setSettings_image : (s.setSettings st).image = s.image := rfl
@[simp] theorem State.setSettings_fsc : (s.setSettings st).fsc = s.fsc := rfl
@[simp] theorem State.setSettings_ta : (s.setSettings st).ta = s.ta := rfl
@[simp] theorem State.setSettings_fpb : (s.setSettings st).fpb = s.fpb := rfl
@[simp] theorem State.setSettings_icingTimer : (s.setSettings st).icingTimer = s.icingTimer := rfl
@[simp] theorem State.setSettings_slots : (s.setSettings st).slots = s.slots := rfl
@[simp] theorem State.setSettings_merge : (s.setSettings st).merge = s.merge := rfl
@[simp] theorem State.setSettings_alloc : (s.setSettings st).alloc = s.alloc := rfl
@[simp] theorem State.setSettings_buffer : (s.setSettings st).buffer = s.buffer := rfl
@[simp] theorem State.setSettings_settle : (s.setSettings st).settle = s.settle := rfl
@[simp] theorem State.setSettings_fences : (s.setSettings st).fences = s.fences := rfl
@[simp] theorem State.setSettings_overrides : (s.setSettings st).overrides = s.overrides := rfl
@[simp] theorem State.setSettings_accessMap : (s.setSettings st).accessMap = s.accessMap := rfl

end

/-! ### After advanceTo -/

@[simp] theorem State.runOut_iff (s : State) (deadline moment : Nat) :
    s.runOut deadline moment = true ↔ deadline ≤ max s.now moment := by simp [State.runOut]

@[simp] theorem State.runOut_eq_false (s : State) (deadline moment : Nat) :
    s.runOut deadline moment = false ↔ max s.now moment < deadline := by simp [State.runOut]

section

variable (s : State) (moment : Nat)

@[simp] theorem State.advanceTo_pending : (s.advanceTo moment).pending = s.pending := rfl
@[simp] theorem State.advanceTo_now : (s.advanceTo moment).now = max s.now moment := rfl
@[simp] theorem State.advanceTo_phase : (s.advanceTo moment).phase = s.phase := rfl
@[simp] theorem State.advanceTo_settings : (s.advanceTo moment).settings = s.settings := rfl
@[simp] theorem State.advanceTo_saving : (s.advanceTo moment).saving = s.saving := rfl
@[simp] theorem State.advanceTo_restartPending : (s.advanceTo moment).restartPending = s.restartPending := rfl
@[simp] theorem State.advanceTo_faults : (s.advanceTo moment).faults = s.faults := rfl
@[simp] theorem State.advanceTo_ports : (s.advanceTo moment).ports = s.ports := rfl
@[simp] theorem State.advanceTo_image : (s.advanceTo moment).image = s.image := rfl
@[simp] theorem State.advanceTo_fsc : (s.advanceTo moment).fsc = s.fsc := rfl
@[simp] theorem State.advanceTo_ta : (s.advanceTo moment).ta = s.ta := rfl
@[simp] theorem State.advanceTo_fpb : (s.advanceTo moment).fpb = s.fpb := rfl
@[simp] theorem State.advanceTo_icingTimer : (s.advanceTo moment).icingTimer = s.icingTimer := rfl
@[simp] theorem State.advanceTo_slots : (s.advanceTo moment).slots = s.slots := rfl
@[simp] theorem State.advanceTo_merge : (s.advanceTo moment).merge = s.merge := rfl
@[simp] theorem State.advanceTo_alloc : (s.advanceTo moment).alloc = s.alloc := rfl
@[simp] theorem State.advanceTo_buffer : (s.advanceTo moment).buffer = s.buffer := rfl
@[simp] theorem State.advanceTo_settle : (s.advanceTo moment).settle = s.settle := rfl
@[simp] theorem State.advanceTo_fences : (s.advanceTo moment).fences = s.fences := rfl
@[simp] theorem State.advanceTo_overrides : (s.advanceTo moment).overrides = s.overrides := rfl
@[simp] theorem State.advanceTo_accessMap : (s.advanceTo moment).accessMap = s.accessMap := rfl

end

end Sys2Proof.Machine
end

