-- ==== Sys2Proof/Laws/Frames.lean ====
section
/-! SUPPORT. What each shared operation leaves alone: every field of the state it does not touch is as it was. -/

namespace Sys2Proof.Machine

/-! ### Notices and faults -/

@[simp] theorem State.notify_frame (s : State) (b : NoticeBit) (p : PortId) :
    (s.notify b p).pending = s.pending ∧ (s.notify b p).now = s.now ∧ (s.notify b p).phase = s.phase ∧
    (s.notify b p).settings = s.settings ∧ (s.notify b p).saving = s.saving ∧
    (s.notify b p).restartPending = s.restartPending ∧ (s.notify b p).faults = s.faults ∧
    (s.notify b p).image = s.image ∧ (s.notify b p).fsc = s.fsc ∧ (s.notify b p).ta = s.ta ∧
    (s.notify b p).fpb = s.fpb ∧ (s.notify b p).icingTimer = s.icingTimer ∧ (s.notify b p).slots = s.slots ∧
    (s.notify b p).merge = s.merge ∧ (s.notify b p).alloc = s.alloc ∧ (s.notify b p).buffer = s.buffer ∧
    (s.notify b p).settle = s.settle ∧ (s.notify b p).fences = s.fences ∧ (s.notify b p).overrides = s.overrides ∧
    (s.notify b p).accessMap = s.accessMap := by
  simp [State.notify]

@[simp] theorem State.notifyAll_frame (s : State) (b : NoticeBit) :
    (s.notifyAll b).pending = s.pending ∧ (s.notifyAll b).now = s.now ∧ (s.notifyAll b).phase = s.phase ∧
    (s.notifyAll b).settings = s.settings ∧ (s.notifyAll b).saving = s.saving ∧
    (s.notifyAll b).restartPending = s.restartPending ∧ (s.notifyAll b).faults = s.faults ∧
    (s.notifyAll b).image = s.image ∧ (s.notifyAll b).fsc = s.fsc ∧ (s.notifyAll b).ta = s.ta ∧
    (s.notifyAll b).fpb = s.fpb ∧ (s.notifyAll b).icingTimer = s.icingTimer ∧ (s.notifyAll b).slots = s.slots ∧
    (s.notifyAll b).merge = s.merge ∧ (s.notifyAll b).alloc = s.alloc ∧ (s.notifyAll b).buffer = s.buffer ∧
    (s.notifyAll b).settle = s.settle ∧ (s.notifyAll b).fences = s.fences ∧ (s.notifyAll b).overrides = s.overrides ∧
    (s.notifyAll b).accessMap = s.accessMap := by
  simp [State.notifyAll]

@[simp] theorem State.notifySet_frame (s : State) (b : NoticeBit) (ps : PortSet) :
    (s.notifySet b ps).pending = s.pending ∧ (s.notifySet b ps).now = s.now ∧ (s.notifySet b ps).phase = s.phase ∧
    (s.notifySet b ps).settings = s.settings ∧ (s.notifySet b ps).saving = s.saving ∧
    (s.notifySet b ps).restartPending = s.restartPending ∧ (s.notifySet b ps).faults = s.faults ∧
    (s.notifySet b ps).image = s.image ∧ (s.notifySet b ps).fsc = s.fsc ∧ (s.notifySet b ps).ta = s.ta ∧
    (s.notifySet b ps).fpb = s.fpb ∧ (s.notifySet b ps).icingTimer = s.icingTimer ∧
    (s.notifySet b ps).slots = s.slots ∧ (s.notifySet b ps).merge = s.merge ∧ (s.notifySet b ps).alloc = s.alloc ∧
    (s.notifySet b ps).buffer = s.buffer ∧ (s.notifySet b ps).settle = s.settle ∧
    (s.notifySet b ps).fences = s.fences ∧ (s.notifySet b ps).overrides = s.overrides ∧
    (s.notifySet b ps).accessMap = s.accessMap := by
  simp [State.notifySet]

@[simp] theorem State.notifyIf_frame (s : State) (c : Bool) (b : NoticeBit) :
    (s.notifyIf c b).pending = s.pending ∧ (s.notifyIf c b).now = s.now ∧ (s.notifyIf c b).phase = s.phase ∧
    (s.notifyIf c b).settings = s.settings ∧ (s.notifyIf c b).saving = s.saving ∧
    (s.notifyIf c b).restartPending = s.restartPending ∧ (s.notifyIf c b).faults = s.faults ∧
    (s.notifyIf c b).image = s.image ∧ (s.notifyIf c b).fsc = s.fsc ∧ (s.notifyIf c b).ta = s.ta ∧
    (s.notifyIf c b).fpb = s.fpb ∧ (s.notifyIf c b).icingTimer = s.icingTimer ∧ (s.notifyIf c b).slots = s.slots ∧
    (s.notifyIf c b).merge = s.merge ∧ (s.notifyIf c b).alloc = s.alloc ∧ (s.notifyIf c b).buffer = s.buffer ∧
    (s.notifyIf c b).settle = s.settle ∧ (s.notifyIf c b).fences = s.fences ∧
    (s.notifyIf c b).overrides = s.overrides ∧ (s.notifyIf c b).accessMap = s.accessMap := by
  cases c <;> simp [State.notifyIf]

@[simp] theorem State.setFault_frame (s : State) (f : FaultFlag) :
    (s.setFault f).pending = s.pending ∧ (s.setFault f).now = s.now ∧ (s.setFault f).phase = s.phase ∧
    (s.setFault f).settings = s.settings ∧ (s.setFault f).saving = s.saving ∧
    (s.setFault f).restartPending = s.restartPending ∧ (s.setFault f).image = s.image ∧ (s.setFault f).fsc = s.fsc ∧
    (s.setFault f).ta = s.ta ∧ (s.setFault f).fpb = s.fpb ∧ (s.setFault f).icingTimer = s.icingTimer ∧
    (s.setFault f).slots = s.slots ∧ (s.setFault f).merge = s.merge ∧ (s.setFault f).alloc = s.alloc ∧
    (s.setFault f).buffer = s.buffer ∧ (s.setFault f).settle = s.settle ∧ (s.setFault f).fences = s.fences ∧
    (s.setFault f).overrides = s.overrides ∧ (s.setFault f).accessMap = s.accessMap := by
  unfold State.setFault
  split <;> simp

@[simp] theorem State.setFaultIf_frame (s : State) (c : Bool) (f : FaultFlag) :
    (s.setFaultIf c f).pending = s.pending ∧ (s.setFaultIf c f).now = s.now ∧ (s.setFaultIf c f).phase = s.phase ∧
    (s.setFaultIf c f).settings = s.settings ∧ (s.setFaultIf c f).saving = s.saving ∧
    (s.setFaultIf c f).restartPending = s.restartPending ∧ (s.setFaultIf c f).image = s.image ∧
    (s.setFaultIf c f).fsc = s.fsc ∧ (s.setFaultIf c f).ta = s.ta ∧ (s.setFaultIf c f).fpb = s.fpb ∧
    (s.setFaultIf c f).icingTimer = s.icingTimer ∧ (s.setFaultIf c f).slots = s.slots ∧
    (s.setFaultIf c f).merge = s.merge ∧ (s.setFaultIf c f).alloc = s.alloc ∧ (s.setFaultIf c f).buffer = s.buffer ∧
    (s.setFaultIf c f).settle = s.settle ∧ (s.setFaultIf c f).fences = s.fences ∧
    (s.setFaultIf c f).overrides = s.overrides ∧ (s.setFaultIf c f).accessMap = s.accessMap := by
  cases c <;> simp [State.setFaultIf]

/-! ### Image and command records -/

@[simp] theorem State.modStation_frame (s : State) (g : SegId) (a : Nat) (f : Station → Station) :
    (s.modStation g a f).pending = s.pending ∧ (s.modStation g a f).now = s.now ∧
    (s.modStation g a f).phase = s.phase ∧ (s.modStation g a f).settings = s.settings ∧
    (s.modStation g a f).saving = s.saving ∧ (s.modStation g a f).restartPending = s.restartPending ∧
    (s.modStation g a f).faults = s.faults ∧ (s.modStation g a f).ports = s.ports ∧ (s.modStation g a f).fsc = s.fsc ∧
    (s.modStation g a f).ta = s.ta ∧ (s.modStation g a f).fpb = s.fpb ∧
    (s.modStation g a f).icingTimer = s.icingTimer ∧ (s.modStation g a f).slots = s.slots ∧
    (s.modStation g a f).merge = s.merge ∧ (s.modStation g a f).alloc = s.alloc ∧
    (s.modStation g a f).buffer = s.buffer ∧ (s.modStation g a f).settle = s.settle ∧
    (s.modStation g a f).fences = s.fences ∧ (s.modStation g a f).overrides = s.overrides ∧
    (s.modStation g a f).accessMap = s.accessMap := by
  simp [State.modStation]

@[simp] theorem State.modCommands_frame (s : State) (l : LoopId) (a : Nat) (f : StationCommands → StationCommands) :
    (s.modCommands l a f).pending = s.pending ∧ (s.modCommands l a f).now = s.now ∧
    (s.modCommands l a f).phase = s.phase ∧ (s.modCommands l a f).settings = s.settings ∧
    (s.modCommands l a f).saving = s.saving ∧ (s.modCommands l a f).restartPending = s.restartPending ∧
    (s.modCommands l a f).faults = s.faults ∧ (s.modCommands l a f).ports = s.ports ∧
    (s.modCommands l a f).image = s.image ∧ (s.modCommands l a f).fsc = s.fsc ∧ (s.modCommands l a f).ta = s.ta ∧
    (s.modCommands l a f).fpb = s.fpb ∧ (s.modCommands l a f).icingTimer = s.icingTimer ∧
    (s.modCommands l a f).slots = s.slots ∧ (s.modCommands l a f).merge = s.merge ∧
    (s.modCommands l a f).buffer = s.buffer ∧ (s.modCommands l a f).settle = s.settle ∧
    (s.modCommands l a f).fences = s.fences ∧ (s.modCommands l a f).overrides = s.overrides ∧
    (s.modCommands l a f).accessMap = s.accessMap := by
  simp [State.modCommands]

@[simp] theorem State.repost_frame (s : State) (l : LoopId) (a : Nat) (o : OutputId) :
    (s.repost l a o).pending = s.pending ∧ (s.repost l a o).now = s.now ∧ (s.repost l a o).phase = s.phase ∧
    (s.repost l a o).settings = s.settings ∧ (s.repost l a o).saving = s.saving ∧
    (s.repost l a o).restartPending = s.restartPending ∧ (s.repost l a o).faults = s.faults ∧
    (s.repost l a o).ports = s.ports ∧ (s.repost l a o).image = s.image ∧ (s.repost l a o).fsc = s.fsc ∧
    (s.repost l a o).ta = s.ta ∧ (s.repost l a o).fpb = s.fpb ∧ (s.repost l a o).icingTimer = s.icingTimer ∧
    (s.repost l a o).slots = s.slots ∧ (s.repost l a o).merge = s.merge ∧ (s.repost l a o).buffer = s.buffer ∧
    (s.repost l a o).settle = s.settle ∧ (s.repost l a o).fences = s.fences ∧
    (s.repost l a o).overrides = s.overrides ∧ (s.repost l a o).accessMap = s.accessMap := by
  simp [State.repost]

/-! ### Freeze Protection Block -/

@[simp] theorem State.repostAll_frame (s : State) (l : LoopId) (as : List Nat) (o : OutputId) :
    (s.repostAll l as o).pending = s.pending ∧ (s.repostAll l as o).now = s.now ∧
    (s.repostAll l as o).phase = s.phase ∧ (s.repostAll l as o).settings = s.settings ∧
    (s.repostAll l as o).saving = s.saving ∧ (s.repostAll l as o).restartPending = s.restartPending ∧
    (s.repostAll l as o).faults = s.faults ∧ (s.repostAll l as o).ports = s.ports ∧
    (s.repostAll l as o).image = s.image ∧ (s.repostAll l as o).fsc = s.fsc ∧ (s.repostAll l as o).ta = s.ta ∧
    (s.repostAll l as o).fpb = s.fpb ∧ (s.repostAll l as o).icingTimer = s.icingTimer ∧
    (s.repostAll l as o).slots = s.slots ∧ (s.repostAll l as o).merge = s.merge ∧
    (s.repostAll l as o).buffer = s.buffer ∧ (s.repostAll l as o).settle = s.settle ∧
    (s.repostAll l as o).fences = s.fences ∧ (s.repostAll l as o).overrides = s.overrides ∧
    (s.repostAll l as o).accessMap = s.accessMap := by
  simp [State.repostAll]

@[simp] theorem State.fpbGlycol_frame (s : State) (e : FpbEvent) (l : LoopId) :
    (State.fpbGlycol e l s).pending = s.pending ∧ (State.fpbGlycol e l s).now = s.now ∧
    (State.fpbGlycol e l s).phase = s.phase ∧ (State.fpbGlycol e l s).settings = s.settings ∧
    (State.fpbGlycol e l s).saving = s.saving ∧ (State.fpbGlycol e l s).restartPending = s.restartPending ∧
    (State.fpbGlycol e l s).faults = s.faults ∧ (State.fpbGlycol e l s).ports = s.ports ∧
    (State.fpbGlycol e l s).image = s.image ∧ (State.fpbGlycol e l s).fsc = s.fsc ∧
    (State.fpbGlycol e l s).ta = s.ta ∧ (State.fpbGlycol e l s).icingTimer = s.icingTimer ∧
    (State.fpbGlycol e l s).slots = s.slots ∧ (State.fpbGlycol e l s).merge = s.merge ∧
    (State.fpbGlycol e l s).alloc = s.alloc ∧ (State.fpbGlycol e l s).buffer = s.buffer ∧
    (State.fpbGlycol e l s).settle = s.settle ∧ (State.fpbGlycol e l s).fences = s.fences ∧
    (State.fpbGlycol e l s).overrides = s.overrides ∧ (State.fpbGlycol e l s).accessMap = s.accessMap := by
  simp [State.fpbGlycol]

@[simp] theorem State.computeTa_frame (s : State) :
    s.computeTa.pending = s.pending ∧ s.computeTa.now = s.now ∧ s.computeTa.phase = s.phase ∧
    s.computeTa.settings = s.settings ∧ s.computeTa.saving = s.saving ∧
    s.computeTa.restartPending = s.restartPending ∧ s.computeTa.image = s.image ∧ s.computeTa.fsc = s.fsc ∧
    s.computeTa.fpb = s.fpb ∧ s.computeTa.icingTimer = s.icingTimer ∧ s.computeTa.slots = s.slots ∧
    s.computeTa.merge = s.merge ∧ s.computeTa.alloc = s.alloc ∧ s.computeTa.buffer = s.buffer ∧
    s.computeTa.settle = s.settle ∧ s.computeTa.fences = s.fences ∧ s.computeTa.overrides = s.overrides ∧
    s.computeTa.accessMap = s.accessMap := by
  unfold State.computeTa
  split <;> simp

@[simp] theorem State.fpbAmbient_frame (s : State) (e : FpbEvent) :
    (State.fpbAmbient e s).pending = s.pending ∧ (State.fpbAmbient e s).now = s.now ∧
    (State.fpbAmbient e s).phase = s.phase ∧ (State.fpbAmbient e s).settings = s.settings ∧
    (State.fpbAmbient e s).saving = s.saving ∧ (State.fpbAmbient e s).restartPending = s.restartPending ∧
    (State.fpbAmbient e s).image = s.image ∧ (State.fpbAmbient e s).fsc = s.fsc ∧ (State.fpbAmbient e s).fpb = s.fpb ∧
    (State.fpbAmbient e s).icingTimer = s.icingTimer ∧ (State.fpbAmbient e s).slots = s.slots ∧
    (State.fpbAmbient e s).merge = s.merge ∧ (State.fpbAmbient e s).alloc = s.alloc ∧
    (State.fpbAmbient e s).buffer = s.buffer ∧ (State.fpbAmbient e s).settle = s.settle ∧
    (State.fpbAmbient e s).fences = s.fences ∧ (State.fpbAmbient e s).overrides = s.overrides ∧
    (State.fpbAmbient e s).accessMap = s.accessMap := by
  unfold State.fpbAmbient
  split <;> simp

@[simp] theorem State.computeMa_frame (s : State) (l : LoopId) :
    (s.computeMa l).pending = s.pending ∧ (s.computeMa l).now = s.now ∧ (s.computeMa l).phase = s.phase ∧
    (s.computeMa l).settings = s.settings ∧ (s.computeMa l).saving = s.saving ∧
    (s.computeMa l).restartPending = s.restartPending ∧ (s.computeMa l).faults = s.faults ∧
    (s.computeMa l).ports = s.ports ∧ (s.computeMa l).image = s.image ∧ (s.computeMa l).fsc = s.fsc ∧
    (s.computeMa l).ta = s.ta ∧ (s.computeMa l).icingTimer = s.icingTimer ∧ (s.computeMa l).slots = s.slots ∧
    (s.computeMa l).merge = s.merge ∧ (s.computeMa l).buffer = s.buffer ∧ (s.computeMa l).settle = s.settle ∧
    (s.computeMa l).fences = s.fences ∧ (s.computeMa l).overrides = s.overrides ∧
    (s.computeMa l).accessMap = s.accessMap := by
  unfold State.computeMa
  dsimp only
  split <;> simp

@[simp] theorem State.recomputeCap_frame (s : State) (l : LoopId) :
    (s.recomputeCap l).pending = s.pending ∧ (s.recomputeCap l).now = s.now ∧ (s.recomputeCap l).phase = s.phase ∧
    (s.recomputeCap l).settings = s.settings ∧ (s.recomputeCap l).saving = s.saving ∧
    (s.recomputeCap l).restartPending = s.restartPending ∧ (s.recomputeCap l).faults = s.faults ∧
    (s.recomputeCap l).ports = s.ports ∧ (s.recomputeCap l).image = s.image ∧ (s.recomputeCap l).fsc = s.fsc ∧
    (s.recomputeCap l).ta = s.ta ∧ (s.recomputeCap l).icingTimer = s.icingTimer ∧ (s.recomputeCap l).slots = s.slots ∧
    (s.recomputeCap l).merge = s.merge ∧ (s.recomputeCap l).buffer = s.buffer ∧ (s.recomputeCap l).settle = s.settle ∧
    (s.recomputeCap l).fences = s.fences ∧ (s.recomputeCap l).overrides = s.overrides ∧
    (s.recomputeCap l).accessMap = s.accessMap := by
  unfold State.recomputeCap
  dsimp only
  split <;> simp

@[simp] theorem State.fpbFrost_frame (s : State) (l : LoopId) (reached : UnitFrost → Bool) (restart : Bool) :
    (State.fpbFrost l reached restart s).pending = s.pending ∧ (State.fpbFrost l reached restart s).now = s.now ∧
    (State.fpbFrost l reached restart s).phase = s.phase ∧
    (State.fpbFrost l reached restart s).settings = s.settings ∧
    (State.fpbFrost l reached restart s).saving = s.saving ∧
    (State.fpbFrost l reached restart s).restartPending = s.restartPending ∧
    (State.fpbFrost l reached restart s).image = s.image ∧ (State.fpbFrost l reached restart s).fsc = s.fsc ∧
    (State.fpbFrost l reached restart s).ta = s.ta ∧ (State.fpbFrost l reached restart s).icingTimer = s.icingTimer ∧
    (State.fpbFrost l reached restart s).slots = s.slots ∧ (State.fpbFrost l reached restart s).merge = s.merge ∧
    (State.fpbFrost l reached restart s).buffer = s.buffer ∧ (State.fpbFrost l reached restart s).settle = s.settle ∧
    (State.fpbFrost l reached restart s).fences = s.fences ∧
    (State.fpbFrost l reached restart s).overrides = s.overrides ∧
    (State.fpbFrost l reached restart s).accessMap = s.accessMap := by
  unfold State.fpbFrost
  dsimp only
  split <;> simp

@[simp] theorem State.fpbEvent_frame (s : State) (e : FpbEvent) :
    (s.fpbEvent e).pending = s.pending ∧ (s.fpbEvent e).now = s.now ∧ (s.fpbEvent e).phase = s.phase ∧
    (s.fpbEvent e).settings = s.settings ∧ (s.fpbEvent e).saving = s.saving ∧
    (s.fpbEvent e).restartPending = s.restartPending ∧ (s.fpbEvent e).image = s.image ∧ (s.fpbEvent e).fsc = s.fsc ∧
    (s.fpbEvent e).icingTimer = s.icingTimer ∧ (s.fpbEvent e).slots = s.slots ∧ (s.fpbEvent e).merge = s.merge ∧
    (s.fpbEvent e).buffer = s.buffer ∧ (s.fpbEvent e).settle = s.settle ∧ (s.fpbEvent e).fences = s.fences ∧
    (s.fpbEvent e).overrides = s.overrides ∧ (s.fpbEvent e).accessMap = s.accessMap := by
  unfold State.fpbEvent
  dsimp only
  split <;> split <;> simp

@[simp] theorem State.modUnit_frame (s : State) (l : LoopId) (a : Nat) (f : UnitFrost → UnitFrost) :
    (s.modUnit l a f).pending = s.pending ∧ (s.modUnit l a f).now = s.now ∧ (s.modUnit l a f).phase = s.phase ∧
    (s.modUnit l a f).settings = s.settings ∧ (s.modUnit l a f).saving = s.saving ∧
    (s.modUnit l a f).restartPending = s.restartPending ∧ (s.modUnit l a f).faults = s.faults ∧
    (s.modUnit l a f).ports = s.ports ∧ (s.modUnit l a f).image = s.image ∧ (s.modUnit l a f).fsc = s.fsc ∧
    (s.modUnit l a f).ta = s.ta ∧ (s.modUnit l a f).icingTimer = s.icingTimer ∧ (s.modUnit l a f).slots = s.slots ∧
    (s.modUnit l a f).merge = s.merge ∧ (s.modUnit l a f).alloc = s.alloc ∧ (s.modUnit l a f).buffer = s.buffer ∧
    (s.modUnit l a f).settle = s.settle ∧ (s.modUnit l a f).fences = s.fences ∧
    (s.modUnit l a f).overrides = s.overrides ∧ (s.modUnit l a f).accessMap = s.accessMap := by
  simp [State.modUnit]

@[simp] theorem State.fpbUnitLost_frame (s : State) (l : LoopId) (a : Nat) :
    (s.fpbUnitLost l a).pending = s.pending ∧ (s.fpbUnitLost l a).now = s.now ∧ (s.fpbUnitLost l a).phase = s.phase ∧
    (s.fpbUnitLost l a).settings = s.settings ∧ (s.fpbUnitLost l a).saving = s.saving ∧
    (s.fpbUnitLost l a).restartPending = s.restartPending ∧ (s.fpbUnitLost l a).image = s.image ∧
    (s.fpbUnitLost l a).fsc = s.fsc ∧ (s.fpbUnitLost l a).icingTimer = s.icingTimer ∧
    (s.fpbUnitLost l a).slots = s.slots ∧ (s.fpbUnitLost l a).merge = s.merge ∧
    (s.fpbUnitLost l a).buffer = s.buffer ∧ (s.fpbUnitLost l a).settle = s.settle ∧
    (s.fpbUnitLost l a).fences = s.fences ∧ (s.fpbUnitLost l a).overrides = s.overrides ∧
    (s.fpbUnitLost l a).accessMap = s.accessMap := by
  unfold State.fpbUnitLost
  split <;> simp

@[simp] theorem State.setIcing_frame (s : State) (l : LoopId) (a : Nat) :
    (s.setIcing l a).pending = s.pending ∧ (s.setIcing l a).now = s.now ∧ (s.setIcing l a).phase = s.phase ∧
    (s.setIcing l a).settings = s.settings ∧ (s.setIcing l a).saving = s.saving ∧
    (s.setIcing l a).restartPending = s.restartPending ∧ (s.setIcing l a).image = s.image ∧
    (s.setIcing l a).fsc = s.fsc ∧ (s.setIcing l a).icingTimer = s.icingTimer ∧ (s.setIcing l a).slots = s.slots ∧
    (s.setIcing l a).merge = s.merge ∧ (s.setIcing l a).buffer = s.buffer ∧ (s.setIcing l a).settle = s.settle ∧
    (s.setIcing l a).fences = s.fences ∧ (s.setIcing l a).overrides = s.overrides ∧
    (s.setIcing l a).accessMap = s.accessMap := by
  simp [State.setIcing]

@[simp] theorem State.shortfall_frame (s : State) (l : LoopId) (a : Nat) (v : Int) :
    (s.shortfall l a v).pending = s.pending ∧ (s.shortfall l a v).now = s.now ∧ (s.shortfall l a v).phase = s.phase ∧
    (s.shortfall l a v).settings = s.settings ∧ (s.shortfall l a v).saving = s.saving ∧
    (s.shortfall l a v).restartPending = s.restartPending ∧ (s.shortfall l a v).image = s.image ∧
    (s.shortfall l a v).fsc = s.fsc ∧ (s.shortfall l a v).icingTimer = s.icingTimer ∧
    (s.shortfall l a v).slots = s.slots ∧ (s.shortfall l a v).merge = s.merge ∧
    (s.shortfall l a v).buffer = s.buffer ∧ (s.shortfall l a v).settle = s.settle ∧
    (s.shortfall l a v).fences = s.fences ∧ (s.shortfall l a v).overrides = s.overrides ∧
    (s.shortfall l a v).accessMap = s.accessMap := by
  unfold State.shortfall
  split
  · dsimp only
    split
    · simp
    · split <;> simp
  · simp

@[simp] theorem State.clearIcing_frame (s : State) (l : LoopId) :
    (s.clearIcing l).pending = s.pending ∧ (s.clearIcing l).now = s.now ∧ (s.clearIcing l).phase = s.phase ∧
    (s.clearIcing l).settings = s.settings ∧ (s.clearIcing l).saving = s.saving ∧
    (s.clearIcing l).restartPending = s.restartPending ∧ (s.clearIcing l).faults = s.faults ∧
    (s.clearIcing l).ports = s.ports ∧ (s.clearIcing l).image = s.image ∧ (s.clearIcing l).fsc = s.fsc ∧
    (s.clearIcing l).ta = s.ta ∧ (s.clearIcing l).icingTimer = s.icingTimer ∧ (s.clearIcing l).slots = s.slots ∧
    (s.clearIcing l).merge = s.merge ∧ (s.clearIcing l).buffer = s.buffer ∧ (s.clearIcing l).settle = s.settle ∧
    (s.clearIcing l).fences = s.fences ∧ (s.clearIcing l).overrides = s.overrides ∧
    (s.clearIcing l).accessMap = s.accessMap := by
  simp [State.clearIcing]

@[simp] theorem State.fpbRestart_frame (s : State) (l : LoopId) :
    (s.fpbRestart l).pending = s.pending ∧ (s.fpbRestart l).now = s.now ∧ (s.fpbRestart l).phase = s.phase ∧
    (s.fpbRestart l).settings = s.settings ∧ (s.fpbRestart l).saving = s.saving ∧
    (s.fpbRestart l).restartPending = s.restartPending ∧ (s.fpbRestart l).image = s.image ∧
    (s.fpbRestart l).fsc = s.fsc ∧ (s.fpbRestart l).icingTimer = s.icingTimer ∧ (s.fpbRestart l).slots = s.slots ∧
    (s.fpbRestart l).merge = s.merge ∧ (s.fpbRestart l).buffer = s.buffer ∧ (s.fpbRestart l).settle = s.settle ∧
    (s.fpbRestart l).fences = s.fences ∧ (s.fpbRestart l).overrides = s.overrides ∧
    (s.fpbRestart l).accessMap = s.accessMap := by
  simp [State.fpbRestart]

/-! ### Output Controller -/

@[simp] theorem State.post_frame (s : State) (g : SegId) (a : Nat) (f : Fields) (o : Option PortId) :
    (s.post g a f o).pending = s.pending ∧ (s.post g a f o).now = s.now ∧ (s.post g a f o).phase = s.phase ∧
    (s.post g a f o).settings = s.settings ∧ (s.post g a f o).saving = s.saving ∧
    (s.post g a f o).restartPending = s.restartPending ∧ (s.post g a f o).faults = s.faults ∧
    (s.post g a f o).ports = s.ports ∧ (s.post g a f o).image = s.image ∧ (s.post g a f o).fsc = s.fsc ∧
    (s.post g a f o).ta = s.ta ∧ (s.post g a f o).fpb = s.fpb ∧ (s.post g a f o).icingTimer = s.icingTimer ∧
    (s.post g a f o).slots = s.slots ∧ (s.post g a f o).merge = s.merge ∧ (s.post g a f o).alloc = s.alloc ∧
    (s.post g a f o).settle = s.settle ∧ (s.post g a f o).fences = s.fences ∧
    (s.post g a f o).overrides = s.overrides ∧ (s.post g a f o).accessMap = s.accessMap := by
  simp [State.post]

@[simp] theorem State.allocatorPost_frame (s : State) (g : SegId) (a : Nat) (f : Fields) :
    (s.allocatorPost g a f).pending = s.pending ∧ (s.allocatorPost g a f).now = s.now ∧
    (s.allocatorPost g a f).phase = s.phase ∧ (s.allocatorPost g a f).settings = s.settings ∧
    (s.allocatorPost g a f).saving = s.saving ∧ (s.allocatorPost g a f).restartPending = s.restartPending ∧
    (s.allocatorPost g a f).faults = s.faults ∧ (s.allocatorPost g a f).ports = s.ports ∧
    (s.allocatorPost g a f).image = s.image ∧ (s.allocatorPost g a f).fsc = s.fsc ∧
    (s.allocatorPost g a f).ta = s.ta ∧ (s.allocatorPost g a f).fpb = s.fpb ∧
    (s.allocatorPost g a f).icingTimer = s.icingTimer ∧ (s.allocatorPost g a f).slots = s.slots ∧
    (s.allocatorPost g a f).merge = s.merge ∧ (s.allocatorPost g a f).settle = s.settle ∧
    (s.allocatorPost g a f).fences = s.fences ∧ (s.allocatorPost g a f).overrides = s.overrides ∧
    (s.allocatorPost g a f).accessMap = s.accessMap := by
  simp [State.allocatorPost]

@[simp] theorem State.flyHead_frame (s : State) (g : SegId) :
    (s.flyHead g).pending = s.pending ∧ (s.flyHead g).now = s.now ∧ (s.flyHead g).phase = s.phase ∧
    (s.flyHead g).settings = s.settings ∧ (s.flyHead g).saving = s.saving ∧
    (s.flyHead g).restartPending = s.restartPending ∧ (s.flyHead g).faults = s.faults ∧
    (s.flyHead g).ports = s.ports ∧ (s.flyHead g).image = s.image ∧ (s.flyHead g).fsc = s.fsc ∧
    (s.flyHead g).ta = s.ta ∧ (s.flyHead g).fpb = s.fpb ∧ (s.flyHead g).icingTimer = s.icingTimer ∧
    (s.flyHead g).slots = s.slots ∧ (s.flyHead g).merge = s.merge ∧ (s.flyHead g).alloc = s.alloc ∧
    (s.flyHead g).settle = s.settle ∧ (s.flyHead g).fences = s.fences ∧ (s.flyHead g).overrides = s.overrides ∧
    (s.flyHead g).accessMap = s.accessMap := by
  simp [State.flyHead]

@[simp] theorem State.overridesWait_frame (s : State) (g : SegId) (a : Nat) :
    (s.overridesWait g a).pending = s.pending ∧ (s.overridesWait g a).now = s.now ∧
    (s.overridesWait g a).phase = s.phase ∧ (s.overridesWait g a).settings = s.settings ∧
    (s.overridesWait g a).saving = s.saving ∧ (s.overridesWait g a).restartPending = s.restartPending ∧
    (s.overridesWait g a).faults = s.faults ∧ (s.overridesWait g a).ports = s.ports ∧
    (s.overridesWait g a).image = s.image ∧ (s.overridesWait g a).fsc = s.fsc ∧ (s.overridesWait g a).ta = s.ta ∧
    (s.overridesWait g a).fpb = s.fpb ∧ (s.overridesWait g a).icingTimer = s.icingTimer ∧
    (s.overridesWait g a).slots = s.slots ∧ (s.overridesWait g a).merge = s.merge ∧
    (s.overridesWait g a).alloc = s.alloc ∧ (s.overridesWait g a).buffer = s.buffer ∧
    (s.overridesWait g a).settle = s.settle ∧ (s.overridesWait g a).fences = s.fences ∧
    (s.overridesWait g a).accessMap = s.accessMap := by
  simp [State.overridesWait]

@[simp] theorem State.overridesWaitFor_frame (s : State) (g : SegId) (a : Nat) (f : Fields) :
    (s.overridesWaitFor g a f).pending = s.pending ∧ (s.overridesWaitFor g a f).now = s.now ∧
    (s.overridesWaitFor g a f).phase = s.phase ∧ (s.overridesWaitFor g a f).settings = s.settings ∧
    (s.overridesWaitFor g a f).saving = s.saving ∧ (s.overridesWaitFor g a f).restartPending = s.restartPending ∧
    (s.overridesWaitFor g a f).faults = s.faults ∧ (s.overridesWaitFor g a f).ports = s.ports ∧
    (s.overridesWaitFor g a f).image = s.image ∧ (s.overridesWaitFor g a f).fsc = s.fsc ∧
    (s.overridesWaitFor g a f).ta = s.ta ∧ (s.overridesWaitFor g a f).fpb = s.fpb ∧
    (s.overridesWaitFor g a f).icingTimer = s.icingTimer ∧ (s.overridesWaitFor g a f).slots = s.slots ∧
    (s.overridesWaitFor g a f).merge = s.merge ∧ (s.overridesWaitFor g a f).alloc = s.alloc ∧
    (s.overridesWaitFor g a f).buffer = s.buffer ∧ (s.overridesWaitFor g a f).settle = s.settle ∧
    (s.overridesWaitFor g a f).fences = s.fences ∧ (s.overridesWaitFor g a f).accessMap = s.accessMap := by
  simp [State.overridesWaitFor]

@[simp] theorem State.setMode_frame (s : State) (g : SegId) (a : Nat) (m : Mode) :
    (s.setMode g a m).pending = s.pending ∧ (s.setMode g a m).now = s.now ∧ (s.setMode g a m).phase = s.phase ∧
    (s.setMode g a m).settings = s.settings ∧ (s.setMode g a m).saving = s.saving ∧
    (s.setMode g a m).restartPending = s.restartPending ∧ (s.setMode g a m).faults = s.faults ∧
    (s.setMode g a m).fsc = s.fsc ∧ (s.setMode g a m).ta = s.ta ∧ (s.setMode g a m).fpb = s.fpb ∧
    (s.setMode g a m).icingTimer = s.icingTimer ∧ (s.setMode g a m).slots = s.slots ∧
    (s.setMode g a m).merge = s.merge ∧ (s.setMode g a m).buffer = s.buffer ∧ (s.setMode g a m).settle = s.settle ∧
    (s.setMode g a m).fences = s.fences ∧ (s.setMode g a m).accessMap = s.accessMap := by
  unfold State.setMode
  split
  · split
    · simp
    · dsimp only
      split <;> simp
  · simp

@[simp] theorem State.failMarks_frame (s : State) (g : SegId) (m : PortSet) :
    (s.failMarks g m).pending = s.pending ∧ (s.failMarks g m).now = s.now ∧ (s.failMarks g m).phase = s.phase ∧
    (s.failMarks g m).settings = s.settings ∧ (s.failMarks g m).saving = s.saving ∧
    (s.failMarks g m).restartPending = s.restartPending ∧ (s.failMarks g m).faults = s.faults ∧
    (s.failMarks g m).ports = s.ports ∧ (s.failMarks g m).image = s.image ∧ (s.failMarks g m).fsc = s.fsc ∧
    (s.failMarks g m).ta = s.ta ∧ (s.failMarks g m).fpb = s.fpb ∧ (s.failMarks g m).icingTimer = s.icingTimer ∧
    (s.failMarks g m).slots = s.slots ∧ (s.failMarks g m).merge = s.merge ∧ (s.failMarks g m).alloc = s.alloc ∧
    (s.failMarks g m).buffer = s.buffer ∧ (s.failMarks g m).settle = s.settle ∧
    (s.failMarks g m).overrides = s.overrides ∧ (s.failMarks g m).accessMap = s.accessMap := by
  simp [State.failMarks]

@[simp] theorem State.completeFences_frame (s : State) (g : SegId) :
    (s.completeFences g).pending = s.pending ∧ (s.completeFences g).now = s.now ∧
    (s.completeFences g).phase = s.phase ∧ (s.completeFences g).settings = s.settings ∧
    (s.completeFences g).saving = s.saving ∧ (s.completeFences g).restartPending = s.restartPending ∧
    (s.completeFences g).faults = s.faults ∧ (s.completeFences g).image = s.image ∧ (s.completeFences g).fsc = s.fsc ∧
    (s.completeFences g).ta = s.ta ∧ (s.completeFences g).fpb = s.fpb ∧
    (s.completeFences g).icingTimer = s.icingTimer ∧ (s.completeFences g).slots = s.slots ∧
    (s.completeFences g).merge = s.merge ∧ (s.completeFences g).alloc = s.alloc ∧
    (s.completeFences g).buffer = s.buffer ∧ (s.completeFences g).settle = s.settle ∧
    (s.completeFences g).overrides = s.overrides ∧ (s.completeFences g).accessMap = s.accessMap := by
  simp [State.completeFences]

@[simp] theorem State.writeGood_frame (s : State) (g : SegId) (a : Nat) :
    (s.writeGood g a).pending = s.pending ∧ (s.writeGood g a).now = s.now ∧ (s.writeGood g a).phase = s.phase ∧
    (s.writeGood g a).settings = s.settings ∧ (s.writeGood g a).saving = s.saving ∧
    (s.writeGood g a).restartPending = s.restartPending ∧ (s.writeGood g a).image = s.image ∧
    (s.writeGood g a).fsc = s.fsc ∧ (s.writeGood g a).ta = s.ta ∧ (s.writeGood g a).fpb = s.fpb ∧
    (s.writeGood g a).icingTimer = s.icingTimer ∧ (s.writeGood g a).slots = s.slots ∧
    (s.writeGood g a).merge = s.merge ∧ (s.writeGood g a).overrides = s.overrides ∧
    (s.writeGood g a).accessMap = s.accessMap := by
  unfold State.writeGood
  split
  · split <;> simp
  · simp

@[simp] theorem State.writeRefused_frame (s : State) (g : SegId) (a : Nat) :
    (s.writeRefused g a).pending = s.pending ∧ (s.writeRefused g a).now = s.now ∧
    (s.writeRefused g a).phase = s.phase ∧ (s.writeRefused g a).settings = s.settings ∧
    (s.writeRefused g a).saving = s.saving ∧ (s.writeRefused g a).restartPending = s.restartPending ∧
    (s.writeRefused g a).faults = s.faults ∧ (s.writeRefused g a).fsc = s.fsc ∧ (s.writeRefused g a).ta = s.ta ∧
    (s.writeRefused g a).fpb = s.fpb ∧ (s.writeRefused g a).icingTimer = s.icingTimer ∧
    (s.writeRefused g a).slots = s.slots ∧ (s.writeRefused g a).merge = s.merge ∧
    (s.writeRefused g a).settle = s.settle ∧ (s.writeRefused g a).accessMap = s.accessMap := by
  unfold State.writeRefused
  split
  · split <;> simp
  · simp

@[simp] theorem State.writeReturn_frame (s : State) (g : SegId) :
    (s.writeReturn g).pending = s.pending ∧ (s.writeReturn g).now = s.now ∧ (s.writeReturn g).phase = s.phase ∧
    (s.writeReturn g).settings = s.settings ∧ (s.writeReturn g).saving = s.saving ∧
    (s.writeReturn g).restartPending = s.restartPending ∧ (s.writeReturn g).faults = s.faults ∧
    (s.writeReturn g).ports = s.ports ∧ (s.writeReturn g).image = s.image ∧ (s.writeReturn g).fsc = s.fsc ∧
    (s.writeReturn g).ta = s.ta ∧ (s.writeReturn g).fpb = s.fpb ∧ (s.writeReturn g).icingTimer = s.icingTimer ∧
    (s.writeReturn g).slots = s.slots ∧ (s.writeReturn g).merge = s.merge ∧ (s.writeReturn g).alloc = s.alloc ∧
    (s.writeReturn g).settle = s.settle ∧ (s.writeReturn g).fences = s.fences ∧
    (s.writeReturn g).overrides = s.overrides ∧ (s.writeReturn g).accessMap = s.accessMap := by
  simp [State.writeReturn]

@[simp] theorem State.discardEntries_frame (s : State) (g : SegId) (a : Nat) :
    (s.discardEntries g a).pending = s.pending ∧ (s.discardEntries g a).now = s.now ∧
    (s.discardEntries g a).phase = s.phase ∧ (s.discardEntries g a).settings = s.settings ∧
    (s.discardEntries g a).saving = s.saving ∧ (s.discardEntries g a).restartPending = s.restartPending ∧
    (s.discardEntries g a).faults = s.faults ∧ (s.discardEntries g a).image = s.image ∧
    (s.discardEntries g a).fsc = s.fsc ∧ (s.discardEntries g a).ta = s.ta ∧ (s.discardEntries g a).fpb = s.fpb ∧
    (s.discardEntries g a).icingTimer = s.icingTimer ∧ (s.discardEntries g a).slots = s.slots ∧
    (s.discardEntries g a).merge = s.merge ∧ (s.discardEntries g a).settle = s.settle ∧
    (s.discardEntries g a).accessMap = s.accessMap := by
  simp [State.discardEntries]

@[simp] theorem State.settleCheck_frame (s : State) (g : SegId) (a : Nat) (v : List Nat) :
    (s.settleCheck g a v).pending = s.pending ∧ (s.settleCheck g a v).now = s.now ∧
    (s.settleCheck g a v).phase = s.phase ∧ (s.settleCheck g a v).settings = s.settings ∧
    (s.settleCheck g a v).saving = s.saving ∧ (s.settleCheck g a v).restartPending = s.restartPending ∧
    (s.settleCheck g a v).faults = s.faults ∧ (s.settleCheck g a v).image = s.image ∧
    (s.settleCheck g a v).fsc = s.fsc ∧ (s.settleCheck g a v).ta = s.ta ∧ (s.settleCheck g a v).fpb = s.fpb ∧
    (s.settleCheck g a v).icingTimer = s.icingTimer ∧ (s.settleCheck g a v).slots = s.slots ∧
    (s.settleCheck g a v).merge = s.merge ∧ (s.settleCheck g a v).alloc = s.alloc ∧
    (s.settleCheck g a v).buffer = s.buffer ∧ (s.settleCheck g a v).overrides = s.overrides ∧
    (s.settleCheck g a v).accessMap = s.accessMap := by
  simp [State.settleCheck]

@[simp] theorem State.settleFail_frame (s : State) (g : SegId) (a : Nat) (o : OutputId) :
    (s.settleFail g a o).pending = s.pending ∧ (s.settleFail g a o).now = s.now ∧
    (s.settleFail g a o).phase = s.phase ∧ (s.settleFail g a o).settings = s.settings ∧
    (s.settleFail g a o).saving = s.saving ∧ (s.settleFail g a o).restartPending = s.restartPending ∧
    (s.settleFail g a o).image = s.image ∧ (s.settleFail g a o).fsc = s.fsc ∧ (s.settleFail g a o).ta = s.ta ∧
    (s.settleFail g a o).fpb = s.fpb ∧ (s.settleFail g a o).icingTimer = s.icingTimer ∧
    (s.settleFail g a o).slots = s.slots ∧ (s.settleFail g a o).merge = s.merge ∧
    (s.settleFail g a o).alloc = s.alloc ∧ (s.settleFail g a o).buffer = s.buffer ∧
    (s.settleFail g a o).overrides = s.overrides ∧ (s.settleFail g a o).accessMap = s.accessMap := by
  simp [State.settleFail]

@[simp] theorem State.outputRestart_frame (s : State) (g : SegId) :
    (s.outputRestart g).pending = s.pending ∧ (s.outputRestart g).now = s.now ∧ (s.outputRestart g).phase = s.phase ∧
    (s.outputRestart g).settings = s.settings ∧ (s.outputRestart g).saving = s.saving ∧
    (s.outputRestart g).restartPending = s.restartPending ∧ (s.outputRestart g).faults = s.faults ∧
    (s.outputRestart g).image = s.image ∧ (s.outputRestart g).fsc = s.fsc ∧ (s.outputRestart g).ta = s.ta ∧
    (s.outputRestart g).fpb = s.fpb ∧ (s.outputRestart g).icingTimer = s.icingTimer ∧
    (s.outputRestart g).slots = s.slots ∧ (s.outputRestart g).merge = s.merge ∧ (s.outputRestart g).alloc = s.alloc ∧
    (s.outputRestart g).overrides = s.overrides ∧ (s.outputRestart g).accessMap = s.accessMap := by
  simp [State.outputRestart]

/-! ### Allocators and the posts of overrides -/

@[simp] theorem State.demandStage_frame (s : State) (l : LoopId) (w : Bool) :
    (s.demandStage l w).pending = s.pending ∧ (s.demandStage l w).now = s.now ∧ (s.demandStage l w).phase = s.phase ∧
    (s.demandStage l w).settings = s.settings ∧ (s.demandStage l w).saving = s.saving ∧
    (s.demandStage l w).restartPending = s.restartPending ∧ (s.demandStage l w).image = s.image ∧
    (s.demandStage l w).fsc = s.fsc ∧ (s.demandStage l w).ta = s.ta ∧ (s.demandStage l w).fpb = s.fpb ∧
    (s.demandStage l w).icingTimer = s.icingTimer ∧ (s.demandStage l w).slots = s.slots ∧
    (s.demandStage l w).merge = s.merge ∧ (s.demandStage l w).buffer = s.buffer ∧
    (s.demandStage l w).settle = s.settle ∧ (s.demandStage l w).fences = s.fences ∧
    (s.demandStage l w).overrides = s.overrides ∧ (s.demandStage l w).accessMap = s.accessMap := by
  unfold State.demandStage
  split <;> simp

@[simp] theorem State.fullStages_frame (s : State) (l : LoopId) :
    (s.fullStages l).pending = s.pending ∧ (s.fullStages l).now = s.now ∧ (s.fullStages l).phase = s.phase ∧
    (s.fullStages l).settings = s.settings ∧ (s.fullStages l).saving = s.saving ∧
    (s.fullStages l).restartPending = s.restartPending ∧ (s.fullStages l).faults = s.faults ∧
    (s.fullStages l).ports = s.ports ∧ (s.fullStages l).image = s.image ∧ (s.fullStages l).fsc = s.fsc ∧
    (s.fullStages l).ta = s.ta ∧ (s.fullStages l).fpb = s.fpb ∧ (s.fullStages l).icingTimer = s.icingTimer ∧
    (s.fullStages l).slots = s.slots ∧ (s.fullStages l).merge = s.merge ∧ (s.fullStages l).buffer = s.buffer ∧
    (s.fullStages l).settle = s.settle ∧ (s.fullStages l).fences = s.fences ∧
    (s.fullStages l).overrides = s.overrides ∧ (s.fullStages l).accessMap = s.accessMap := by
  simp [State.fullStages]

@[simp] theorem State.runPost_frame (s : State) (l : LoopId) (c : StationCommands) :
    (s.runPost l c).pending = s.pending ∧ (s.runPost l c).now = s.now ∧ (s.runPost l c).phase = s.phase ∧
    (s.runPost l c).settings = s.settings ∧ (s.runPost l c).saving = s.saving ∧
    (s.runPost l c).restartPending = s.restartPending ∧ (s.runPost l c).faults = s.faults ∧
    (s.runPost l c).ports = s.ports ∧ (s.runPost l c).image = s.image ∧ (s.runPost l c).fsc = s.fsc ∧
    (s.runPost l c).ta = s.ta ∧ (s.runPost l c).fpb = s.fpb ∧ (s.runPost l c).icingTimer = s.icingTimer ∧
    (s.runPost l c).slots = s.slots ∧ (s.runPost l c).merge = s.merge ∧ (s.runPost l c).settle = s.settle ∧
    (s.runPost l c).fences = s.fences ∧ (s.runPost l c).overrides = s.overrides ∧
    (s.runPost l c).accessMap = s.accessMap := by
  unfold State.runPost
  dsimp only
  split <;> simp

/-- What every member of a fold leaves alone, the fold leaves alone. -/
theorem foldl_keeps {α β : Type} (get : State → β) (f : State → α → State) (h : ∀ s x, get (f s x) = get s) :
    ∀ (xs : List α) (s : State), get (xs.foldl f s) = get s
  | [], _ => rfl
  | x :: xs, s => (foldl_keeps get f h xs (f s x)).trans (h s x)

@[simp] theorem State.runPosts_frame (s : State) (l : LoopId) :
    (s.runPosts l).pending = s.pending ∧ (s.runPosts l).now = s.now ∧ (s.runPosts l).phase = s.phase ∧
    (s.runPosts l).settings = s.settings ∧ (s.runPosts l).saving = s.saving ∧
    (s.runPosts l).restartPending = s.restartPending ∧ (s.runPosts l).faults = s.faults ∧
    (s.runPosts l).ports = s.ports ∧ (s.runPosts l).image = s.image ∧ (s.runPosts l).fsc = s.fsc ∧
    (s.runPosts l).ta = s.ta ∧ (s.runPosts l).fpb = s.fpb ∧ (s.runPosts l).icingTimer = s.icingTimer ∧
    (s.runPosts l).slots = s.slots ∧ (s.runPosts l).merge = s.merge ∧ (s.runPosts l).settle = s.settle ∧
    (s.runPosts l).fences = s.fences ∧ (s.runPosts l).overrides = s.overrides ∧
    (s.runPosts l).accessMap = s.accessMap := by
  unfold State.runPosts
  repeat' apply And.intro
  all_goals exact foldl_keeps _ _ (by intro t x; first | rfl | simp) _ _

@[simp] theorem State.allocationRun_frame (s : State) (l : LoopId) :
    (s.allocationRun l).pending = s.pending ∧ (s.allocationRun l).now = s.now ∧ (s.allocationRun l).phase = s.phase ∧
    (s.allocationRun l).settings = s.settings ∧ (s.allocationRun l).saving = s.saving ∧
    (s.allocationRun l).restartPending = s.restartPending ∧ (s.allocationRun l).image = s.image ∧
    (s.allocationRun l).fsc = s.fsc ∧ (s.allocationRun l).ta = s.ta ∧ (s.allocationRun l).fpb = s.fpb ∧
    (s.allocationRun l).icingTimer = s.icingTimer ∧ (s.allocationRun l).slots = s.slots ∧
    (s.allocationRun l).merge = s.merge ∧ (s.allocationRun l).settle = s.settle ∧
    (s.allocationRun l).fences = s.fences ∧ (s.allocationRun l).overrides = s.overrides ∧
    (s.allocationRun l).accessMap = s.accessMap := by
  unfold State.allocationRun
  dsimp only
  split <;> simp

@[simp] theorem State.postRecord_frame (s : State) (r : OverrideRecord) :
    (s.postRecord r).pending = s.pending ∧ (s.postRecord r).now = s.now ∧ (s.postRecord r).phase = s.phase ∧
    (s.postRecord r).settings = s.settings ∧ (s.postRecord r).saving = s.saving ∧
    (s.postRecord r).restartPending = s.restartPending ∧ (s.postRecord r).faults = s.faults ∧
    (s.postRecord r).ports = s.ports ∧ (s.postRecord r).image = s.image ∧ (s.postRecord r).fsc = s.fsc ∧
    (s.postRecord r).ta = s.ta ∧ (s.postRecord r).fpb = s.fpb ∧ (s.postRecord r).icingTimer = s.icingTimer ∧
    (s.postRecord r).slots = s.slots ∧ (s.postRecord r).merge = s.merge ∧ (s.postRecord r).alloc = s.alloc ∧
    (s.postRecord r).settle = s.settle ∧ (s.postRecord r).fences = s.fences ∧
    (s.postRecord r).overrides = s.overrides ∧ (s.postRecord r).accessMap = s.accessMap := by
  simp [State.postRecord]

@[simp] theorem State.foldl_postRecord_frame (s : State) (rs : List OverrideRecord) :
    (rs.foldl State.postRecord s).pending = s.pending ∧
    (rs.foldl State.postRecord s).now = s.now ∧
    (rs.foldl State.postRecord s).phase = s.phase ∧
    (rs.foldl State.postRecord s).settings = s.settings ∧
    (rs.foldl State.postRecord s).saving = s.saving ∧
    (rs.foldl State.postRecord s).restartPending = s.restartPending ∧
    (rs.foldl State.postRecord s).faults = s.faults ∧
    (rs.foldl State.postRecord s).ports = s.ports ∧
    (rs.foldl State.postRecord s).image = s.image ∧
    (rs.foldl State.postRecord s).fsc = s.fsc ∧
    (rs.foldl State.postRecord s).ta = s.ta ∧
    (rs.foldl State.postRecord s).fpb = s.fpb ∧
    (rs.foldl State.postRecord s).icingTimer = s.icingTimer ∧
    (rs.foldl State.postRecord s).slots = s.slots ∧
    (rs.foldl State.postRecord s).merge = s.merge ∧
    (rs.foldl State.postRecord s).alloc = s.alloc ∧
    (rs.foldl State.postRecord s).settle = s.settle ∧
    (rs.foldl State.postRecord s).fences = s.fences ∧
    (rs.foldl State.postRecord s).overrides = s.overrides ∧
    (rs.foldl State.postRecord s).accessMap = s.accessMap := by
  induction rs generalizing s with
  | nil => simp
  | cons r rs ih => simp [ih]

@[simp] theorem State.deliverWaiting_frame (s : State) (g : SegId) :
    (s.deliverWaiting g).pending = s.pending ∧ (s.deliverWaiting g).now = s.now ∧
    (s.deliverWaiting g).phase = s.phase ∧ (s.deliverWaiting g).settings = s.settings ∧
    (s.deliverWaiting g).saving = s.saving ∧ (s.deliverWaiting g).restartPending = s.restartPending ∧
    (s.deliverWaiting g).faults = s.faults ∧ (s.deliverWaiting g).ports = s.ports ∧
    (s.deliverWaiting g).image = s.image ∧ (s.deliverWaiting g).fsc = s.fsc ∧ (s.deliverWaiting g).ta = s.ta ∧
    (s.deliverWaiting g).fpb = s.fpb ∧ (s.deliverWaiting g).icingTimer = s.icingTimer ∧
    (s.deliverWaiting g).slots = s.slots ∧ (s.deliverWaiting g).merge = s.merge ∧
    (s.deliverWaiting g).alloc = s.alloc ∧ (s.deliverWaiting g).settle = s.settle ∧
    (s.deliverWaiting g).fences = s.fences ∧ (s.deliverWaiting g).accessMap = s.accessMap := by
  simp [State.deliverWaiting]

@[simp] theorem State.handBack_frame (s : State) (g : SegId) (a : Nat) (o : OutputId) :
    (s.handBack g a o).pending = s.pending ∧ (s.handBack g a o).now = s.now ∧ (s.handBack g a o).phase = s.phase ∧
    (s.handBack g a o).settings = s.settings ∧ (s.handBack g a o).saving = s.saving ∧
    (s.handBack g a o).restartPending = s.restartPending ∧ (s.handBack g a o).faults = s.faults ∧
    (s.handBack g a o).ports = s.ports ∧ (s.handBack g a o).image = s.image ∧ (s.handBack g a o).fsc = s.fsc ∧
    (s.handBack g a o).ta = s.ta ∧ (s.handBack g a o).fpb = s.fpb ∧ (s.handBack g a o).icingTimer = s.icingTimer ∧
    (s.handBack g a o).slots = s.slots ∧ (s.handBack g a o).merge = s.merge ∧ (s.handBack g a o).settle = s.settle ∧
    (s.handBack g a o).fences = s.fences ∧ (s.handBack g a o).overrides = s.overrides ∧
    (s.handBack g a o).accessMap = s.accessMap := by
  unfold State.handBack
  split
  · split <;> simp
  · simp

@[simp] theorem State.allocRestart_frame (s : State) (l : LoopId) (c : Bool) :
    (s.allocRestart l c).pending = s.pending ∧ (s.allocRestart l c).now = s.now ∧
    (s.allocRestart l c).phase = s.phase ∧ (s.allocRestart l c).settings = s.settings ∧
    (s.allocRestart l c).saving = s.saving ∧ (s.allocRestart l c).restartPending = s.restartPending ∧
    (s.allocRestart l c).faults = s.faults ∧ (s.allocRestart l c).ports = s.ports ∧
    (s.allocRestart l c).image = s.image ∧ (s.allocRestart l c).fsc = s.fsc ∧ (s.allocRestart l c).ta = s.ta ∧
    (s.allocRestart l c).fpb = s.fpb ∧ (s.allocRestart l c).icingTimer = s.icingTimer ∧
    (s.allocRestart l c).slots = s.slots ∧ (s.allocRestart l c).merge = s.merge ∧
    (s.allocRestart l c).buffer = s.buffer ∧ (s.allocRestart l c).settle = s.settle ∧
    (s.allocRestart l c).fences = s.fences ∧ (s.allocRestart l c).overrides = s.overrides ∧
    (s.allocRestart l c).accessMap = s.accessMap := by
  simp [State.allocRestart]

@[simp] theorem State.overridesRestart_frame (s : State) (g : SegId) :
    (s.overridesRestart g).pending = s.pending ∧ (s.overridesRestart g).now = s.now ∧
    (s.overridesRestart g).phase = s.phase ∧ (s.overridesRestart g).settings = s.settings ∧
    (s.overridesRestart g).saving = s.saving ∧ (s.overridesRestart g).restartPending = s.restartPending ∧
    (s.overridesRestart g).faults = s.faults ∧ (s.overridesRestart g).image = s.image ∧
    (s.overridesRestart g).fsc = s.fsc ∧ (s.overridesRestart g).ta = s.ta ∧ (s.overridesRestart g).fpb = s.fpb ∧
    (s.overridesRestart g).icingTimer = s.icingTimer ∧ (s.overridesRestart g).slots = s.slots ∧
    (s.overridesRestart g).merge = s.merge ∧ (s.overridesRestart g).alloc = s.alloc ∧
    (s.overridesRestart g).buffer = s.buffer ∧ (s.overridesRestart g).settle = s.settle ∧
    (s.overridesRestart g).fences = s.fences ∧ (s.overridesRestart g).accessMap = s.accessMap := by
  simp [State.overridesRestart]

/-! ### Ports -/

@[simp] theorem State.replyWith_frame (s : State) (p : PortId) (b : List Byte) (e : FrameEffect) :
    (s.replyWith p b e).pending = s.pending ∧ (s.replyWith p b e).now = s.now ∧ (s.replyWith p b e).phase = s.phase ∧
    (s.replyWith p b e).settings = s.settings ∧ (s.replyWith p b e).saving = s.saving ∧
    (s.replyWith p b e).restartPending = s.restartPending ∧ (s.replyWith p b e).faults = s.faults ∧
    (s.replyWith p b e).image = s.image ∧ (s.replyWith p b e).fsc = s.fsc ∧ (s.replyWith p b e).ta = s.ta ∧
    (s.replyWith p b e).fpb = s.fpb ∧ (s.replyWith p b e).icingTimer = s.icingTimer ∧
    (s.replyWith p b e).slots = s.slots ∧ (s.replyWith p b e).merge = s.merge ∧ (s.replyWith p b e).alloc = s.alloc ∧
    (s.replyWith p b e).buffer = s.buffer ∧ (s.replyWith p b e).settle = s.settle ∧
    (s.replyWith p b e).fences = s.fences ∧ (s.replyWith p b e).overrides = s.overrides ∧
    (s.replyWith p b e).accessMap = s.accessMap := by
  simp [State.replyWith]

@[simp] theorem State.reply_frame (s : State) (p : PortId) (b : List Byte) :
    (s.reply p b).pending = s.pending ∧ (s.reply p b).now = s.now ∧ (s.reply p b).phase = s.phase ∧
    (s.reply p b).settings = s.settings ∧ (s.reply p b).saving = s.saving ∧
    (s.reply p b).restartPending = s.restartPending ∧ (s.reply p b).faults = s.faults ∧
    (s.reply p b).image = s.image ∧ (s.reply p b).fsc = s.fsc ∧ (s.reply p b).ta = s.ta ∧ (s.reply p b).fpb = s.fpb ∧
    (s.reply p b).icingTimer = s.icingTimer ∧ (s.reply p b).slots = s.slots ∧ (s.reply p b).merge = s.merge ∧
    (s.reply p b).alloc = s.alloc ∧ (s.reply p b).buffer = s.buffer ∧ (s.reply p b).settle = s.settle ∧
    (s.reply p b).fences = s.fences ∧ (s.reply p b).overrides = s.overrides ∧
    (s.reply p b).accessMap = s.accessMap := by
  simp [State.reply]

@[simp] theorem State.refuse_frame (s : State) (p : PortId) (r : RefusalCode) :
    (s.refuse p r).pending = s.pending ∧ (s.refuse p r).now = s.now ∧ (s.refuse p r).phase = s.phase ∧
    (s.refuse p r).settings = s.settings ∧ (s.refuse p r).saving = s.saving ∧
    (s.refuse p r).restartPending = s.restartPending ∧ (s.refuse p r).faults = s.faults ∧
    (s.refuse p r).image = s.image ∧ (s.refuse p r).fsc = s.fsc ∧ (s.refuse p r).ta = s.ta ∧
    (s.refuse p r).fpb = s.fpb ∧ (s.refuse p r).icingTimer = s.icingTimer ∧ (s.refuse p r).slots = s.slots ∧
    (s.refuse p r).merge = s.merge ∧ (s.refuse p r).alloc = s.alloc ∧ (s.refuse p r).buffer = s.buffer ∧
    (s.refuse p r).settle = s.settle ∧ (s.refuse p r).fences = s.fences ∧ (s.refuse p r).overrides = s.overrides ∧
    (s.refuse p r).accessMap = s.accessMap := by
  simp [State.refuse]

@[simp] theorem State.refuseMiss_frame (s : State) (p : PortId) (w : Word) :
    (s.refuseMiss p w).pending = s.pending ∧ (s.refuseMiss p w).now = s.now ∧ (s.refuseMiss p w).phase = s.phase ∧
    (s.refuseMiss p w).settings = s.settings ∧ (s.refuseMiss p w).saving = s.saving ∧
    (s.refuseMiss p w).restartPending = s.restartPending ∧ (s.refuseMiss p w).faults = s.faults ∧
    (s.refuseMiss p w).image = s.image ∧ (s.refuseMiss p w).fsc = s.fsc ∧ (s.refuseMiss p w).ta = s.ta ∧
    (s.refuseMiss p w).fpb = s.fpb ∧ (s.refuseMiss p w).icingTimer = s.icingTimer ∧
    (s.refuseMiss p w).slots = s.slots ∧ (s.refuseMiss p w).merge = s.merge ∧ (s.refuseMiss p w).alloc = s.alloc ∧
    (s.refuseMiss p w).buffer = s.buffer ∧ (s.refuseMiss p w).settle = s.settle ∧
    (s.refuseMiss p w).fences = s.fences ∧ (s.refuseMiss p w).overrides = s.overrides ∧
    (s.refuseMiss p w).accessMap = s.accessMap := by
  simp [State.refuseMiss]

@[simp] theorem State.kickPorts_frame (s : State) :
    s.kickPorts.pending = s.pending ∧ s.kickPorts.now = s.now ∧ s.kickPorts.phase = s.phase ∧
    s.kickPorts.settings = s.settings ∧ s.kickPorts.saving = s.saving ∧
    s.kickPorts.restartPending = s.restartPending ∧ s.kickPorts.faults = s.faults ∧ s.kickPorts.image = s.image ∧
    s.kickPorts.fsc = s.fsc ∧ s.kickPorts.ta = s.ta ∧ s.kickPorts.fpb = s.fpb ∧
    s.kickPorts.icingTimer = s.icingTimer ∧ s.kickPorts.slots = s.slots ∧ s.kickPorts.merge = s.merge ∧
    s.kickPorts.alloc = s.alloc ∧ s.kickPorts.buffer = s.buffer ∧ s.kickPorts.settle = s.settle ∧
    s.kickPorts.fences = s.fences ∧ s.kickPorts.overrides = s.overrides ∧ s.kickPorts.accessMap = s.accessMap := by
  unfold State.kickPorts
  split <;> simp

@[simp] theorem State.receiveInto_frame (s : State) (p : PortId) (r : Option (List Byte)) :
    (s.receiveInto p r).pending = s.pending ∧ (s.receiveInto p r).now = s.now ∧ (s.receiveInto p r).phase = s.phase ∧
    (s.receiveInto p r).settings = s.settings ∧ (s.receiveInto p r).saving = s.saving ∧
    (s.receiveInto p r).restartPending = s.restartPending ∧ (s.receiveInto p r).faults = s.faults ∧
    (s.receiveInto p r).image = s.image ∧ (s.receiveInto p r).fsc = s.fsc ∧ (s.receiveInto p r).ta = s.ta ∧
    (s.receiveInto p r).fpb = s.fpb ∧ (s.receiveInto p r).icingTimer = s.icingTimer ∧
    (s.receiveInto p r).slots = s.slots ∧ (s.receiveInto p r).merge = s.merge ∧ (s.receiveInto p r).alloc = s.alloc ∧
    (s.receiveInto p r).buffer = s.buffer ∧ (s.receiveInto p r).settle = s.settle ∧
    (s.receiveInto p r).fences = s.fences ∧ (s.receiveInto p r).overrides = s.overrides ∧
    (s.receiveInto p r).accessMap = s.accessMap := by
  simp [State.receiveInto]

@[simp] theorem State.takeTelegram_frame (s : State) (p : PortId) (t : Telegram) :
    (s.takeTelegram p t).pending = s.pending ∧ (s.takeTelegram p t).now = s.now ∧
    (s.takeTelegram p t).phase = s.phase ∧ (s.takeTelegram p t).settings = s.settings ∧
    (s.takeTelegram p t).saving = s.saving ∧ (s.takeTelegram p t).restartPending = s.restartPending ∧
    (s.takeTelegram p t).image = s.image ∧ (s.takeTelegram p t).fsc = s.fsc ∧ (s.takeTelegram p t).ta = s.ta ∧
    (s.takeTelegram p t).fpb = s.fpb ∧ (s.takeTelegram p t).icingTimer = s.icingTimer ∧
    (s.takeTelegram p t).slots = s.slots ∧ (s.takeTelegram p t).merge = s.merge ∧
    (s.takeTelegram p t).alloc = s.alloc ∧ (s.takeTelegram p t).buffer = s.buffer ∧
    (s.takeTelegram p t).settle = s.settle ∧ (s.takeTelegram p t).fences = s.fences ∧
    (s.takeTelegram p t).overrides = s.overrides ∧ (s.takeTelegram p t).accessMap = s.accessMap := by
  unfold State.takeTelegram
  split <;> simp

@[simp] theorem State.frameEnds_frame (s : State) (p : PortId) (b : List Byte) :
    (s.frameEnds p b).pending = s.pending ∧ (s.frameEnds p b).now = s.now ∧ (s.frameEnds p b).phase = s.phase ∧
    (s.frameEnds p b).settings = s.settings ∧ (s.frameEnds p b).saving = s.saving ∧
    (s.frameEnds p b).restartPending = s.restartPending ∧ (s.frameEnds p b).image = s.image ∧
    (s.frameEnds p b).fsc = s.fsc ∧ (s.frameEnds p b).ta = s.ta ∧ (s.frameEnds p b).fpb = s.fpb ∧
    (s.frameEnds p b).icingTimer = s.icingTimer ∧ (s.frameEnds p b).slots = s.slots ∧
    (s.frameEnds p b).merge = s.merge ∧ (s.frameEnds p b).alloc = s.alloc ∧ (s.frameEnds p b).buffer = s.buffer ∧
    (s.frameEnds p b).settle = s.settle ∧ (s.frameEnds p b).fences = s.fences ∧
    (s.frameEnds p b).overrides = s.overrides ∧ (s.frameEnds p b).accessMap = s.accessMap := by
  unfold State.frameEnds
  split <;> simp

@[simp] theorem State.receiveChar_frame (s : State) (p : PortId) (c : Byte) :
    (s.receiveChar p c).pending = s.pending ∧ (s.receiveChar p c).now = s.now ∧ (s.receiveChar p c).phase = s.phase ∧
    (s.receiveChar p c).settings = s.settings ∧ (s.receiveChar p c).saving = s.saving ∧
    (s.receiveChar p c).restartPending = s.restartPending ∧ (s.receiveChar p c).image = s.image ∧
    (s.receiveChar p c).fsc = s.fsc ∧ (s.receiveChar p c).ta = s.ta ∧ (s.receiveChar p c).fpb = s.fpb ∧
    (s.receiveChar p c).icingTimer = s.icingTimer ∧ (s.receiveChar p c).slots = s.slots ∧
    (s.receiveChar p c).merge = s.merge ∧ (s.receiveChar p c).alloc = s.alloc ∧
    (s.receiveChar p c).buffer = s.buffer ∧ (s.receiveChar p c).settle = s.settle ∧
    (s.receiveChar p c).fences = s.fences ∧ (s.receiveChar p c).overrides = s.overrides ∧
    (s.receiveChar p c).accessMap = s.accessMap := by
  unfold State.receiveChar
  split
  · split <;> simp
  · split <;> simp
  · dsimp only
    split <;> simp

@[simp] theorem State.receive_frame (s : State) (p : PortId) (cs : List Byte) :
    (s.receive p cs).pending = s.pending ∧ (s.receive p cs).now = s.now ∧ (s.receive p cs).phase = s.phase ∧
    (s.receive p cs).settings = s.settings ∧ (s.receive p cs).saving = s.saving ∧
    (s.receive p cs).restartPending = s.restartPending ∧ (s.receive p cs).image = s.image ∧
    (s.receive p cs).fsc = s.fsc ∧ (s.receive p cs).ta = s.ta ∧ (s.receive p cs).fpb = s.fpb ∧
    (s.receive p cs).icingTimer = s.icingTimer ∧ (s.receive p cs).slots = s.slots ∧ (s.receive p cs).merge = s.merge ∧
    (s.receive p cs).alloc = s.alloc ∧ (s.receive p cs).buffer = s.buffer ∧ (s.receive p cs).settle = s.settle ∧
    (s.receive p cs).fences = s.fences ∧ (s.receive p cs).overrides = s.overrides ∧
    (s.receive p cs).accessMap = s.accessMap := by
  induction cs generalizing s with
  | nil => simp [State.receive]
  | cons c cs ih => simp [State.receive, ih]

/-! ### Field Segment Controllers -/

@[simp] theorem State.setActivity_frame (s : State) (g : SegId) (a : Activity) :
    (s.setActivity g a).pending = s.pending ∧ (s.setActivity g a).now = s.now ∧ (s.setActivity g a).phase = s.phase ∧
    (s.setActivity g a).settings = s.settings ∧ (s.setActivity g a).saving = s.saving ∧
    (s.setActivity g a).restartPending = s.restartPending ∧ (s.setActivity g a).faults = s.faults ∧
    (s.setActivity g a).ports = s.ports ∧ (s.setActivity g a).image = s.image ∧ (s.setActivity g a).ta = s.ta ∧
    (s.setActivity g a).fpb = s.fpb ∧ (s.setActivity g a).icingTimer = s.icingTimer ∧
    (s.setActivity g a).slots = s.slots ∧ (s.setActivity g a).merge = s.merge ∧ (s.setActivity g a).alloc = s.alloc ∧
    (s.setActivity g a).buffer = s.buffer ∧ (s.setActivity g a).settle = s.settle ∧
    (s.setActivity g a).fences = s.fences ∧ (s.setActivity g a).overrides = s.overrides ∧
    (s.setActivity g a).accessMap = s.accessMap := by
  simp [State.setActivity]

@[simp] theorem State.startJob_frame (s : State) (g : SegId) (j : Job) (r n : Nat) :
    (s.startJob g j r n).pending = s.pending ∧ (s.startJob g j r n).now = s.now ∧
    (s.startJob g j r n).phase = s.phase ∧ (s.startJob g j r n).settings = s.settings ∧
    (s.startJob g j r n).saving = s.saving ∧ (s.startJob g j r n).restartPending = s.restartPending ∧
    (s.startJob g j r n).faults = s.faults ∧ (s.startJob g j r n).ports = s.ports ∧
    (s.startJob g j r n).image = s.image ∧ (s.startJob g j r n).ta = s.ta ∧ (s.startJob g j r n).fpb = s.fpb ∧
    (s.startJob g j r n).icingTimer = s.icingTimer ∧ (s.startJob g j r n).slots = s.slots ∧
    (s.startJob g j r n).merge = s.merge ∧ (s.startJob g j r n).alloc = s.alloc ∧
    (s.startJob g j r n).buffer = s.buffer ∧ (s.startJob g j r n).settle = s.settle ∧
    (s.startJob g j r n).fences = s.fences ∧ (s.startJob g j r n).overrides = s.overrides ∧
    (s.startJob g j r n).accessMap = s.accessMap := by
  simp [State.startJob]

@[simp] theorem State.retry_frame (s : State) (g : SegId) (t : Transaction) :
    (s.retry g t).pending = s.pending ∧ (s.retry g t).now = s.now ∧ (s.retry g t).phase = s.phase ∧
    (s.retry g t).settings = s.settings ∧ (s.retry g t).saving = s.saving ∧
    (s.retry g t).restartPending = s.restartPending ∧ (s.retry g t).faults = s.faults ∧
    (s.retry g t).ports = s.ports ∧ (s.retry g t).image = s.image ∧ (s.retry g t).ta = s.ta ∧
    (s.retry g t).fpb = s.fpb ∧ (s.retry g t).icingTimer = s.icingTimer ∧ (s.retry g t).slots = s.slots ∧
    (s.retry g t).merge = s.merge ∧ (s.retry g t).alloc = s.alloc ∧ (s.retry g t).buffer = s.buffer ∧
    (s.retry g t).settle = s.settle ∧ (s.retry g t).fences = s.fences ∧ (s.retry g t).overrides = s.overrides ∧
    (s.retry g t).accessMap = s.accessMap := by
  simp [State.retry]

@[simp] theorem State.replyReadThrough_frame (s : State) (g : SegId) (e : ReadThrough) :
    (s.replyReadThrough g e).pending = s.pending ∧ (s.replyReadThrough g e).now = s.now ∧
    (s.replyReadThrough g e).phase = s.phase ∧ (s.replyReadThrough g e).settings = s.settings ∧
    (s.replyReadThrough g e).saving = s.saving ∧ (s.replyReadThrough g e).restartPending = s.restartPending ∧
    (s.replyReadThrough g e).faults = s.faults ∧ (s.replyReadThrough g e).image = s.image ∧
    (s.replyReadThrough g e).fsc = s.fsc ∧ (s.replyReadThrough g e).ta = s.ta ∧ (s.replyReadThrough g e).fpb = s.fpb ∧
    (s.replyReadThrough g e).icingTimer = s.icingTimer ∧ (s.replyReadThrough g e).slots = s.slots ∧
    (s.replyReadThrough g e).merge = s.merge ∧ (s.replyReadThrough g e).alloc = s.alloc ∧
    (s.replyReadThrough g e).buffer = s.buffer ∧ (s.replyReadThrough g e).settle = s.settle ∧
    (s.replyReadThrough g e).fences = s.fences ∧ (s.replyReadThrough g e).overrides = s.overrides ∧
    (s.replyReadThrough g e).accessMap = s.accessMap := by
  simp [State.replyReadThrough]

@[simp] theorem State.leaveReadThroughs_frame (s : State) (g : SegId) (f : ReadThrough → Bool) :
    (s.leaveReadThroughs g f).pending = s.pending ∧ (s.leaveReadThroughs g f).now = s.now ∧
    (s.leaveReadThroughs g f).phase = s.phase ∧ (s.leaveReadThroughs g f).settings = s.settings ∧
    (s.leaveReadThroughs g f).saving = s.saving ∧ (s.leaveReadThroughs g f).restartPending = s.restartPending ∧
    (s.leaveReadThroughs g f).faults = s.faults ∧ (s.leaveReadThroughs g f).image = s.image ∧
    (s.leaveReadThroughs g f).ta = s.ta ∧ (s.leaveReadThroughs g f).fpb = s.fpb ∧
    (s.leaveReadThroughs g f).icingTimer = s.icingTimer ∧ (s.leaveReadThroughs g f).slots = s.slots ∧
    (s.leaveReadThroughs g f).merge = s.merge ∧ (s.leaveReadThroughs g f).alloc = s.alloc ∧
    (s.leaveReadThroughs g f).buffer = s.buffer ∧ (s.leaveReadThroughs g f).settle = s.settle ∧
    (s.leaveReadThroughs g f).fences = s.fences ∧ (s.leaveReadThroughs g f).overrides = s.overrides ∧
    (s.leaveReadThroughs g f).accessMap = s.accessMap := by
  unfold State.leaveReadThroughs
  repeat' apply And.intro
  all_goals exact foldl_keeps _ _ (by intro t x; rfl) _ _

@[simp] theorem State.enterLost_frame (s : State) (g : SegId) (a : Nat) :
    (s.enterLost g a).pending = s.pending ∧ (s.enterLost g a).now = s.now ∧ (s.enterLost g a).phase = s.phase ∧
    (s.enterLost g a).settings = s.settings ∧ (s.enterLost g a).saving = s.saving ∧
    (s.enterLost g a).restartPending = s.restartPending ∧ (s.enterLost g a).icingTimer = s.icingTimer ∧
    (s.enterLost g a).slots = s.slots ∧ (s.enterLost g a).merge = s.merge ∧ (s.enterLost g a).settle = s.settle ∧
    (s.enterLost g a).accessMap = s.accessMap := by
  simp [State.enterLost]

@[simp] theorem State.setCounter_frame (s : State) (g : SegId) (a c : Nat) :
    (s.setCounter g a c).pending = s.pending ∧ (s.setCounter g a c).now = s.now ∧
    (s.setCounter g a c).phase = s.phase ∧ (s.setCounter g a c).settings = s.settings ∧
    (s.setCounter g a c).saving = s.saving ∧ (s.setCounter g a c).restartPending = s.restartPending ∧
    (s.setCounter g a c).icingTimer = s.icingTimer ∧ (s.setCounter g a c).slots = s.slots ∧
    (s.setCounter g a c).merge = s.merge ∧ (s.setCounter g a c).settle = s.settle ∧
    (s.setCounter g a c).accessMap = s.accessMap := by
  unfold State.setCounter
  dsimp only
  split <;> simp

@[simp] theorem State.countGood_frame (s : State) (g : SegId) (a : Nat) :
    (s.countGood g a).pending = s.pending ∧ (s.countGood g a).now = s.now ∧ (s.countGood g a).phase = s.phase ∧
    (s.countGood g a).settings = s.settings ∧ (s.countGood g a).saving = s.saving ∧
    (s.countGood g a).restartPending = s.restartPending ∧ (s.countGood g a).icingTimer = s.icingTimer ∧
    (s.countGood g a).slots = s.slots ∧ (s.countGood g a).merge = s.merge ∧ (s.countGood g a).settle = s.settle ∧
    (s.countGood g a).accessMap = s.accessMap := by
  simp [State.countGood]

@[simp] theorem State.countBad_frame (s : State) (g : SegId) (a : Nat) :
    (s.countBad g a).pending = s.pending ∧ (s.countBad g a).now = s.now ∧ (s.countBad g a).phase = s.phase ∧
    (s.countBad g a).settings = s.settings ∧ (s.countBad g a).saving = s.saving ∧
    (s.countBad g a).restartPending = s.restartPending ∧ (s.countBad g a).icingTimer = s.icingTimer ∧
    (s.countBad g a).slots = s.slots ∧ (s.countBad g a).merge = s.merge ∧ (s.countBad g a).settle = s.settle ∧
    (s.countBad g a).accessMap = s.accessMap := by
  simp [State.countBad]

@[simp] theorem State.setMismatch_frame (s : State) (g : SegId) (a : Nat) (m : Bool) :
    (s.setMismatch g a m).pending = s.pending ∧ (s.setMismatch g a m).now = s.now ∧
    (s.setMismatch g a m).phase = s.phase ∧ (s.setMismatch g a m).settings = s.settings ∧
    (s.setMismatch g a m).saving = s.saving ∧ (s.setMismatch g a m).restartPending = s.restartPending ∧
    (s.setMismatch g a m).fsc = s.fsc ∧ (s.setMismatch g a m).ta = s.ta ∧ (s.setMismatch g a m).fpb = s.fpb ∧
    (s.setMismatch g a m).icingTimer = s.icingTimer ∧ (s.setMismatch g a m).slots = s.slots ∧
    (s.setMismatch g a m).merge = s.merge ∧ (s.setMismatch g a m).alloc = s.alloc ∧
    (s.setMismatch g a m).buffer = s.buffer ∧ (s.setMismatch g a m).settle = s.settle ∧
    (s.setMismatch g a m).fences = s.fences ∧ (s.setMismatch g a m).overrides = s.overrides ∧
    (s.setMismatch g a m).accessMap = s.accessMap := by
  unfold State.setMismatch
  split <;> simp

@[simp] theorem State.openPass_frame (s : State) (g : SegId) :
    (s.openPass g).pending = s.pending ∧ (s.openPass g).now = s.now ∧ (s.openPass g).phase = s.phase ∧
    (s.openPass g).settings = s.settings ∧ (s.openPass g).saving = s.saving ∧
    (s.openPass g).restartPending = s.restartPending ∧ (s.openPass g).faults = s.faults ∧
    (s.openPass g).ports = s.ports ∧ (s.openPass g).ta = s.ta ∧ (s.openPass g).fpb = s.fpb ∧
    (s.openPass g).icingTimer = s.icingTimer ∧ (s.openPass g).slots = s.slots ∧ (s.openPass g).merge = s.merge ∧
    (s.openPass g).alloc = s.alloc ∧ (s.openPass g).buffer = s.buffer ∧ (s.openPass g).settle = s.settle ∧
    (s.openPass g).fences = s.fences ∧ (s.openPass g).overrides = s.overrides ∧
    (s.openPass g).accessMap = s.accessMap := by
  simp [State.openPass]

@[simp] theorem State.closePass_frame (s : State) (g : SegId) :
    (s.closePass g).pending = s.pending ∧ (s.closePass g).now = s.now ∧ (s.closePass g).phase = s.phase ∧
    (s.closePass g).settings = s.settings ∧ (s.closePass g).saving = s.saving ∧
    (s.closePass g).restartPending = s.restartPending ∧ (s.closePass g).image = s.image ∧ (s.closePass g).ta = s.ta ∧
    (s.closePass g).fpb = s.fpb ∧ (s.closePass g).icingTimer = s.icingTimer ∧ (s.closePass g).slots = s.slots ∧
    (s.closePass g).merge = s.merge ∧ (s.closePass g).settle = s.settle ∧ (s.closePass g).fences = s.fences ∧
    (s.closePass g).accessMap = s.accessMap := by
  simp [State.closePass]

@[simp] theorem State.startPass_frame (s : State) (g : SegId) :
    (s.startPass g).pending = s.pending ∧ (s.startPass g).now = s.now ∧ (s.startPass g).phase = s.phase ∧
    (s.startPass g).settings = s.settings ∧ (s.startPass g).saving = s.saving ∧
    (s.startPass g).restartPending = s.restartPending ∧ (s.startPass g).ta = s.ta ∧ (s.startPass g).fpb = s.fpb ∧
    (s.startPass g).icingTimer = s.icingTimer ∧ (s.startPass g).slots = s.slots ∧ (s.startPass g).merge = s.merge ∧
    (s.startPass g).settle = s.settle ∧ (s.startPass g).fences = s.fences ∧
    (s.startPass g).accessMap = s.accessMap := by
  unfold State.startPass
  dsimp only
  split <;> simp

@[simp] theorem State.endPass_frame (s : State) (g : SegId) :
    (s.endPass g).pending = s.pending ∧ (s.endPass g).now = s.now ∧ (s.endPass g).phase = s.phase ∧
    (s.endPass g).settings = s.settings ∧ (s.endPass g).saving = s.saving ∧
    (s.endPass g).restartPending = s.restartPending ∧ (s.endPass g).ta = s.ta ∧ (s.endPass g).fpb = s.fpb ∧
    (s.endPass g).icingTimer = s.icingTimer ∧ (s.endPass g).slots = s.slots ∧ (s.endPass g).merge = s.merge ∧
    (s.endPass g).settle = s.settle ∧ (s.endPass g).fences = s.fences ∧ (s.endPass g).accessMap = s.accessMap := by
  unfold State.endPass
  dsimp only
  split <;> simp

@[simp] theorem State.dealtWith_frame (s : State) (g : SegId) (a : Nat) :
    (s.dealtWith g a).pending = s.pending ∧ (s.dealtWith g a).now = s.now ∧ (s.dealtWith g a).phase = s.phase ∧
    (s.dealtWith g a).settings = s.settings ∧ (s.dealtWith g a).saving = s.saving ∧
    (s.dealtWith g a).restartPending = s.restartPending ∧ (s.dealtWith g a).ta = s.ta ∧
    (s.dealtWith g a).fpb = s.fpb ∧ (s.dealtWith g a).icingTimer = s.icingTimer ∧ (s.dealtWith g a).slots = s.slots ∧
    (s.dealtWith g a).merge = s.merge ∧ (s.dealtWith g a).settle = s.settle ∧ (s.dealtWith g a).fences = s.fences ∧
    (s.dealtWith g a).accessMap = s.accessMap := by
  unfold State.dealtWith
  split <;> simp

@[simp] theorem State.identify_frame (s : State) (g : SegId) (a : Nat) :
    (s.identify g a).pending = s.pending ∧ (s.identify g a).now = s.now ∧ (s.identify g a).phase = s.phase ∧
    (s.identify g a).settings = s.settings ∧ (s.identify g a).saving = s.saving ∧
    (s.identify g a).restartPending = s.restartPending ∧ (s.identify g a).faults = s.faults ∧
    (s.identify g a).ports = s.ports ∧ (s.identify g a).image = s.image ∧ (s.identify g a).ta = s.ta ∧
    (s.identify g a).fpb = s.fpb ∧ (s.identify g a).icingTimer = s.icingTimer ∧ (s.identify g a).slots = s.slots ∧
    (s.identify g a).merge = s.merge ∧ (s.identify g a).alloc = s.alloc ∧ (s.identify g a).buffer = s.buffer ∧
    (s.identify g a).settle = s.settle ∧ (s.identify g a).fences = s.fences ∧
    (s.identify g a).overrides = s.overrides ∧ (s.identify g a).accessMap = s.accessMap := by
  simp [State.identify]

@[simp] theorem State.discoverFrom_frame (s : State) (g : SegId) (a : Nat) :
    (s.discoverFrom g a).pending = s.pending ∧ (s.discoverFrom g a).now = s.now ∧
    (s.discoverFrom g a).phase = s.phase ∧ (s.discoverFrom g a).settings = s.settings ∧
    (s.discoverFrom g a).saving = s.saving ∧ (s.discoverFrom g a).restartPending = s.restartPending ∧
    (s.discoverFrom g a).ta = s.ta ∧ (s.discoverFrom g a).fpb = s.fpb ∧
    (s.discoverFrom g a).icingTimer = s.icingTimer ∧ (s.discoverFrom g a).slots = s.slots ∧
    (s.discoverFrom g a).merge = s.merge ∧ (s.discoverFrom g a).settle = s.settle ∧
    (s.discoverFrom g a).fences = s.fences ∧ (s.discoverFrom g a).accessMap = s.accessMap := by
  unfold State.discoverFrom
  split <;> simp

@[simp] theorem State.beginDiscovery_frame (s : State) (g : SegId) :
    (s.beginDiscovery g).pending = s.pending ∧ (s.beginDiscovery g).now = s.now ∧
    (s.beginDiscovery g).phase = s.phase ∧ (s.beginDiscovery g).settings = s.settings ∧
    (s.beginDiscovery g).saving = s.saving ∧ (s.beginDiscovery g).restartPending = s.restartPending ∧
    (s.beginDiscovery g).ta = s.ta ∧ (s.beginDiscovery g).fpb = s.fpb ∧
    (s.beginDiscovery g).icingTimer = s.icingTimer ∧ (s.beginDiscovery g).slots = s.slots ∧
    (s.beginDiscovery g).merge = s.merge ∧ (s.beginDiscovery g).settle = s.settle ∧
    (s.beginDiscovery g).fences = s.fences ∧ (s.beginDiscovery g).accessMap = s.accessMap := by
  simp [State.beginDiscovery]

@[simp] theorem State.conclude_frame (s : State) (g : SegId) (a : Nat) (b : Bool) :
    (s.conclude g a b).pending = s.pending ∧ (s.conclude g a b).now = s.now ∧ (s.conclude g a b).phase = s.phase ∧
    (s.conclude g a b).settings = s.settings ∧ (s.conclude g a b).saving = s.saving ∧
    (s.conclude g a b).restartPending = s.restartPending ∧ (s.conclude g a b).icingTimer = s.icingTimer ∧
    (s.conclude g a b).slots = s.slots ∧ (s.conclude g a b).merge = s.merge ∧ (s.conclude g a b).settle = s.settle ∧
    (s.conclude g a b).accessMap = s.accessMap := by
  cases b <;> simp [State.conclude]

@[simp] theorem State.modeFromPoint_frame (s : State) (g : SegId) (a : Nat) (v : List Nat) :
    (s.modeFromPoint g a v).pending = s.pending ∧ (s.modeFromPoint g a v).now = s.now ∧
    (s.modeFromPoint g a v).phase = s.phase ∧ (s.modeFromPoint g a v).settings = s.settings ∧
    (s.modeFromPoint g a v).saving = s.saving ∧ (s.modeFromPoint g a v).restartPending = s.restartPending ∧
    (s.modeFromPoint g a v).faults = s.faults ∧ (s.modeFromPoint g a v).fsc = s.fsc ∧
    (s.modeFromPoint g a v).ta = s.ta ∧ (s.modeFromPoint g a v).fpb = s.fpb ∧
    (s.modeFromPoint g a v).icingTimer = s.icingTimer ∧ (s.modeFromPoint g a v).slots = s.slots ∧
    (s.modeFromPoint g a v).merge = s.merge ∧ (s.modeFromPoint g a v).buffer = s.buffer ∧
    (s.modeFromPoint g a v).settle = s.settle ∧ (s.modeFromPoint g a v).fences = s.fences ∧
    (s.modeFromPoint g a v).accessMap = s.accessMap := by
  unfold State.modeFromPoint
  split <;> simp

@[simp] theorem State.shortfallFrom_frame (s : State) (g : SegId) (j : ReadJob) (v : List Nat) :
    (s.shortfallFrom g j v).pending = s.pending ∧ (s.shortfallFrom g j v).now = s.now ∧
    (s.shortfallFrom g j v).phase = s.phase ∧ (s.shortfallFrom g j v).settings = s.settings ∧
    (s.shortfallFrom g j v).saving = s.saving ∧ (s.shortfallFrom g j v).restartPending = s.restartPending ∧
    (s.shortfallFrom g j v).image = s.image ∧ (s.shortfallFrom g j v).fsc = s.fsc ∧
    (s.shortfallFrom g j v).icingTimer = s.icingTimer ∧ (s.shortfallFrom g j v).slots = s.slots ∧
    (s.shortfallFrom g j v).merge = s.merge ∧ (s.shortfallFrom g j v).buffer = s.buffer ∧
    (s.shortfallFrom g j v).settle = s.settle ∧ (s.shortfallFrom g j v).fences = s.fences ∧
    (s.shortfallFrom g j v).overrides = s.overrides ∧ (s.shortfallFrom g j v).accessMap = s.accessMap := by
  unfold State.shortfallFrom
  split <;> simp

@[simp] theorem State.clearAttention_frame (s : State) (g : SegId) (j : ReadJob) :
    (s.clearAttention g j).pending = s.pending ∧ (s.clearAttention g j).now = s.now ∧
    (s.clearAttention g j).phase = s.phase ∧ (s.clearAttention g j).settings = s.settings ∧
    (s.clearAttention g j).saving = s.saving ∧ (s.clearAttention g j).restartPending = s.restartPending ∧
    (s.clearAttention g j).faults = s.faults ∧ (s.clearAttention g j).ports = s.ports ∧
    (s.clearAttention g j).fsc = s.fsc ∧ (s.clearAttention g j).ta = s.ta ∧ (s.clearAttention g j).fpb = s.fpb ∧
    (s.clearAttention g j).icingTimer = s.icingTimer ∧ (s.clearAttention g j).slots = s.slots ∧
    (s.clearAttention g j).merge = s.merge ∧ (s.clearAttention g j).alloc = s.alloc ∧
    (s.clearAttention g j).buffer = s.buffer ∧ (s.clearAttention g j).settle = s.settle ∧
    (s.clearAttention g j).fences = s.fences ∧ (s.clearAttention g j).overrides = s.overrides ∧
    (s.clearAttention g j).accessMap = s.accessMap := by
  unfold State.clearAttention
  split <;> simp

@[simp] theorem State.readPoints_frame (s : State) (g : SegId) (j : ReadJob) (vs : List Int) :
    (s.readPoints g j vs).pending = s.pending ∧ (s.readPoints g j vs).now = s.now ∧
    (s.readPoints g j vs).phase = s.phase ∧ (s.readPoints g j vs).settings = s.settings ∧
    (s.readPoints g j vs).saving = s.saving ∧ (s.readPoints g j vs).restartPending = s.restartPending ∧
    (s.readPoints g j vs).icingTimer = s.icingTimer ∧ (s.readPoints g j vs).slots = s.slots ∧
    (s.readPoints g j vs).merge = s.merge ∧ (s.readPoints g j vs).accessMap = s.accessMap := by
  simp [State.readPoints]

@[simp] theorem State.endRead_frame (s : State) (g : SegId) (j : ReadJob) :
    (s.endRead g j).pending = s.pending ∧ (s.endRead g j).now = s.now ∧ (s.endRead g j).phase = s.phase ∧
    (s.endRead g j).settings = s.settings ∧ (s.endRead g j).saving = s.saving ∧
    (s.endRead g j).restartPending = s.restartPending ∧ (s.endRead g j).ta = s.ta ∧ (s.endRead g j).fpb = s.fpb ∧
    (s.endRead g j).icingTimer = s.icingTimer ∧ (s.endRead g j).slots = s.slots ∧ (s.endRead g j).merge = s.merge ∧
    (s.endRead g j).settle = s.settle ∧ (s.endRead g j).fences = s.fences ∧
    (s.endRead g j).accessMap = s.accessMap := by
  unfold State.endRead
  dsimp only
  split <;> simp

@[simp] theorem State.afterRead_frame (s : State) (g : SegId) (r : Bool) :
    (s.afterRead g r).pending = s.pending ∧ (s.afterRead g r).now = s.now ∧ (s.afterRead g r).phase = s.phase ∧
    (s.afterRead g r).settings = s.settings ∧ (s.afterRead g r).saving = s.saving ∧
    (s.afterRead g r).restartPending = s.restartPending ∧ (s.afterRead g r).faults = s.faults ∧
    (s.afterRead g r).ports = s.ports ∧ (s.afterRead g r).image = s.image ∧ (s.afterRead g r).ta = s.ta ∧
    (s.afterRead g r).fpb = s.fpb ∧ (s.afterRead g r).icingTimer = s.icingTimer ∧ (s.afterRead g r).slots = s.slots ∧
    (s.afterRead g r).merge = s.merge ∧ (s.afterRead g r).alloc = s.alloc ∧ (s.afterRead g r).buffer = s.buffer ∧
    (s.afterRead g r).settle = s.settle ∧ (s.afterRead g r).fences = s.fences ∧
    (s.afterRead g r).overrides = s.overrides ∧ (s.afterRead g r).accessMap = s.accessMap := by
  simp [State.afterRead]

@[simp] theorem State.readGood_frame (s : State) (g : SegId) (j : ReadJob) (r : Bool) (vs : List Int) :
    (s.readGood g j r vs).pending = s.pending ∧ (s.readGood g j r vs).now = s.now ∧
    (s.readGood g j r vs).phase = s.phase ∧ (s.readGood g j r vs).settings = s.settings ∧
    (s.readGood g j r vs).saving = s.saving ∧ (s.readGood g j r vs).restartPending = s.restartPending ∧
    (s.readGood g j r vs).icingTimer = s.icingTimer ∧ (s.readGood g j r vs).slots = s.slots ∧
    (s.readGood g j r vs).merge = s.merge ∧ (s.readGood g j r vs).accessMap = s.accessMap := by
  unfold State.readGood
  dsimp only
  split <;> simp

@[simp] theorem State.endProbe_frame (s : State) (g : SegId) (a : Nat) :
    (s.endProbe g a).pending = s.pending ∧ (s.endProbe g a).now = s.now ∧ (s.endProbe g a).phase = s.phase ∧
    (s.endProbe g a).settings = s.settings ∧ (s.endProbe g a).saving = s.saving ∧
    (s.endProbe g a).restartPending = s.restartPending ∧ (s.endProbe g a).ta = s.ta ∧ (s.endProbe g a).fpb = s.fpb ∧
    (s.endProbe g a).icingTimer = s.icingTimer ∧ (s.endProbe g a).slots = s.slots ∧ (s.endProbe g a).merge = s.merge ∧
    (s.endProbe g a).settle = s.settle ∧ (s.endProbe g a).fences = s.fences ∧
    (s.endProbe g a).accessMap = s.accessMap := by
  simp [State.endProbe]

@[simp] theorem State.attemptFailed_frame (s : State) (g : SegId) (t : Transaction) :
    (s.attemptFailed g t).pending = s.pending ∧ (s.attemptFailed g t).now = s.now ∧
    (s.attemptFailed g t).phase = s.phase ∧ (s.attemptFailed g t).settings = s.settings ∧
    (s.attemptFailed g t).saving = s.saving ∧ (s.attemptFailed g t).restartPending = s.restartPending ∧
    (s.attemptFailed g t).icingTimer = s.icingTimer ∧ (s.attemptFailed g t).slots = s.slots ∧
    (s.attemptFailed g t).merge = s.merge ∧ (s.attemptFailed g t).settle = s.settle ∧
    (s.attemptFailed g t).accessMap = s.accessMap := by
  unfold State.attemptFailed
  split
  · split <;> simp
  · simp
  · dsimp only
    split <;> simp
  · dsimp only
    split
    · simp
    · split <;> simp
  · simp

@[simp] theorem State.discoveryAnswer_frame (s : State) (g : SegId) (a : Nat) (k : Byte) :
    (s.discoveryAnswer g a k).pending = s.pending ∧ (s.discoveryAnswer g a k).now = s.now ∧
    (s.discoveryAnswer g a k).phase = s.phase ∧ (s.discoveryAnswer g a k).settings = s.settings ∧
    (s.discoveryAnswer g a k).saving = s.saving ∧ (s.discoveryAnswer g a k).restartPending = s.restartPending ∧
    (s.discoveryAnswer g a k).icingTimer = s.icingTimer ∧ (s.discoveryAnswer g a k).slots = s.slots ∧
    (s.discoveryAnswer g a k).merge = s.merge ∧ (s.discoveryAnswer g a k).settle = s.settle ∧
    (s.discoveryAnswer g a k).accessMap = s.accessMap := by
  simp [State.discoveryAnswer]

@[simp] theorem State.probeAnswer_frame (s : State) (g : SegId) (a : Nat) (k : Byte) :
    (s.probeAnswer g a k).pending = s.pending ∧ (s.probeAnswer g a k).now = s.now ∧
    (s.probeAnswer g a k).phase = s.phase ∧ (s.probeAnswer g a k).settings = s.settings ∧
    (s.probeAnswer g a k).saving = s.saving ∧ (s.probeAnswer g a k).restartPending = s.restartPending ∧
    (s.probeAnswer g a k).icingTimer = s.icingTimer ∧ (s.probeAnswer g a k).slots = s.slots ∧
    (s.probeAnswer g a k).merge = s.merge ∧ (s.probeAnswer g a k).settle = s.settle ∧
    (s.probeAnswer g a k).accessMap = s.accessMap := by
  unfold State.probeAnswer
  dsimp only
  split <;> simp [State.revive]

@[simp] theorem State.answer_frame (s : State) (g : SegId) (t : Transaction) (c : List Byte) :
    (s.answer g t c).pending = s.pending ∧ (s.answer g t c).now = s.now ∧ (s.answer g t c).phase = s.phase ∧
    (s.answer g t c).settings = s.settings ∧ (s.answer g t c).saving = s.saving ∧
    (s.answer g t c).restartPending = s.restartPending ∧ (s.answer g t c).icingTimer = s.icingTimer ∧
    (s.answer g t c).slots = s.slots ∧ (s.answer g t c).merge = s.merge ∧
    (s.answer g t c).accessMap = s.accessMap := by
  unfold State.answer
  split
  · split <;> simp
  · split <;> simp
  · split
    · split
      · split <;> simp
      · simp
    · simp
  · split
    · split
      · dsimp only
        split <;> simp
      · simp
    · simp
  · simp

@[simp] theorem State.startRead_frame (s : State) (g : SegId) (w : ReadPurpose) (a f : Nat) :
    (s.startRead g w a f).pending = s.pending ∧ (s.startRead g w a f).now = s.now ∧
    (s.startRead g w a f).phase = s.phase ∧ (s.startRead g w a f).settings = s.settings ∧
    (s.startRead g w a f).saving = s.saving ∧ (s.startRead g w a f).restartPending = s.restartPending ∧
    (s.startRead g w a f).faults = s.faults ∧ (s.startRead g w a f).ports = s.ports ∧
    (s.startRead g w a f).image = s.image ∧ (s.startRead g w a f).ta = s.ta ∧ (s.startRead g w a f).fpb = s.fpb ∧
    (s.startRead g w a f).icingTimer = s.icingTimer ∧ (s.startRead g w a f).slots = s.slots ∧
    (s.startRead g w a f).merge = s.merge ∧ (s.startRead g w a f).alloc = s.alloc ∧
    (s.startRead g w a f).buffer = s.buffer ∧ (s.startRead g w a f).settle = s.settle ∧
    (s.startRead g w a f).fences = s.fences ∧ (s.startRead g w a f).overrides = s.overrides ∧
    (s.startRead g w a f).accessMap = s.accessMap := by
  simp [State.startRead]

@[simp] theorem State.starve_frame (s : State) (g : SegId) :
    (s.starve g).pending = s.pending ∧ (s.starve g).now = s.now ∧ (s.starve g).phase = s.phase ∧
    (s.starve g).settings = s.settings ∧ (s.starve g).saving = s.saving ∧
    (s.starve g).restartPending = s.restartPending ∧ (s.starve g).faults = s.faults ∧ (s.starve g).ports = s.ports ∧
    (s.starve g).image = s.image ∧ (s.starve g).ta = s.ta ∧ (s.starve g).fpb = s.fpb ∧
    (s.starve g).icingTimer = s.icingTimer ∧ (s.starve g).slots = s.slots ∧ (s.starve g).merge = s.merge ∧
    (s.starve g).alloc = s.alloc ∧ (s.starve g).buffer = s.buffer ∧ (s.starve g).settle = s.settle ∧
    (s.starve g).fences = s.fences ∧ (s.starve g).overrides = s.overrides ∧ (s.starve g).accessMap = s.accessMap := by
  simp [State.starve]

@[simp] theorem State.start_frame (s : State) (g : SegId) (c : Choice) :
    (s.start g c).pending = s.pending ∧ (s.start g c).now = s.now ∧ (s.start g c).phase = s.phase ∧
    (s.start g c).settings = s.settings ∧ (s.start g c).saving = s.saving ∧
    (s.start g c).restartPending = s.restartPending ∧ (s.start g c).faults = s.faults ∧
    (s.start g c).ports = s.ports ∧ (s.start g c).image = s.image ∧ (s.start g c).ta = s.ta ∧
    (s.start g c).fpb = s.fpb ∧ (s.start g c).icingTimer = s.icingTimer ∧ (s.start g c).slots = s.slots ∧
    (s.start g c).merge = s.merge ∧ (s.start g c).alloc = s.alloc ∧ (s.start g c).settle = s.settle ∧
    (s.start g c).fences = s.fences ∧ (s.start g c).overrides = s.overrides ∧
    (s.start g c).accessMap = s.accessMap := by
  unfold State.start
  split
  · simp
  · simp
  · simp
  · simp
  · simp
  · dsimp only
    split <;> simp
  · simp
  · simp

@[simp] theorem State.arbitrate_frame (s : State) (g : SegId) :
    (s.arbitrate g).pending = s.pending ∧ (s.arbitrate g).now = s.now ∧ (s.arbitrate g).phase = s.phase ∧
    (s.arbitrate g).settings = s.settings ∧ (s.arbitrate g).saving = s.saving ∧
    (s.arbitrate g).restartPending = s.restartPending ∧ (s.arbitrate g).ta = s.ta ∧ (s.arbitrate g).fpb = s.fpb ∧
    (s.arbitrate g).icingTimer = s.icingTimer ∧ (s.arbitrate g).slots = s.slots ∧ (s.arbitrate g).merge = s.merge ∧
    (s.arbitrate g).settle = s.settle ∧ (s.arbitrate g).fences = s.fences ∧
    (s.arbitrate g).accessMap = s.accessMap := by
  unfold State.arbitrate
  split
  · split <;> simp
  · simp

@[simp] theorem State.fscRestart_frame (s : State) (g : SegId) :
    (s.fscRestart g).pending = s.pending ∧ (s.fscRestart g).now = s.now ∧ (s.fscRestart g).phase = s.phase ∧
    (s.fscRestart g).settings = s.settings ∧ (s.fscRestart g).saving = s.saving ∧
    (s.fscRestart g).restartPending = s.restartPending ∧ (s.fscRestart g).faults = s.faults ∧
    (s.fscRestart g).ports = s.ports ∧ (s.fscRestart g).image = s.image ∧ (s.fscRestart g).ta = s.ta ∧
    (s.fscRestart g).fpb = s.fpb ∧ (s.fscRestart g).icingTimer = s.icingTimer ∧ (s.fscRestart g).slots = s.slots ∧
    (s.fscRestart g).merge = s.merge ∧ (s.fscRestart g).alloc = s.alloc ∧ (s.fscRestart g).buffer = s.buffer ∧
    (s.fscRestart g).settle = s.settle ∧ (s.fscRestart g).fences = s.fences ∧
    (s.fscRestart g).overrides = s.overrides ∧ (s.fscRestart g).accessMap = s.accessMap := by
  simp [State.fscRestart]

@[simp] theorem State.restartSegment_frame (s : State) (g : SegId) (c : Bool) :
    (s.restartSegment g c).pending = s.pending ∧ (s.restartSegment g c).now = s.now ∧
    (s.restartSegment g c).phase = s.phase ∧ (s.restartSegment g c).settings = s.settings ∧
    (s.restartSegment g c).saving = s.saving ∧ (s.restartSegment g c).restartPending = s.restartPending ∧
    (s.restartSegment g c).icingTimer = s.icingTimer ∧ (s.restartSegment g c).slots = s.slots ∧
    (s.restartSegment g c).merge = s.merge ∧ (s.restartSegment g c).accessMap = s.accessMap := by
  have h : ∀ (es : List ReadThrough) (t : State),
      (es.foldl (fun t e => t.replyReadThrough g e) t) =
        { t with ports := (es.foldl (fun t e => t.replyReadThrough g e) t).ports } := by
    intro es
    induction es with
    | nil => intro t; rfl
    | cons e es ih => intro t; rw [List.foldl_cons, ih]; rfl
  unfold State.restartSegment
  dsimp only
  rw [h]
  split <;> simp

/-! ### Commands -/

@[simp] theorem State.recomputeMerge_frame (s : State) (l : LoopId) :
    (s.recomputeMerge l).pending = s.pending ∧ (s.recomputeMerge l).now = s.now ∧
    (s.recomputeMerge l).phase = s.phase ∧ (s.recomputeMerge l).settings = s.settings ∧
    (s.recomputeMerge l).saving = s.saving ∧ (s.recomputeMerge l).restartPending = s.restartPending ∧
    (s.recomputeMerge l).image = s.image ∧ (s.recomputeMerge l).fsc = s.fsc ∧ (s.recomputeMerge l).ta = s.ta ∧
    (s.recomputeMerge l).fpb = s.fpb ∧ (s.recomputeMerge l).icingTimer = s.icingTimer ∧
    (s.recomputeMerge l).slots = s.slots ∧ (s.recomputeMerge l).alloc = s.alloc ∧
    (s.recomputeMerge l).buffer = s.buffer ∧ (s.recomputeMerge l).settle = s.settle ∧
    (s.recomputeMerge l).fences = s.fences ∧ (s.recomputeMerge l).overrides = s.overrides ∧
    (s.recomputeMerge l).accessMap = s.accessMap := by
  simp [State.recomputeMerge]

@[simp] theorem State.markAll_frame (s : State) (p : PortId) (l : LoopId) :
    (s.markAll p l).pending = s.pending ∧ (s.markAll p l).now = s.now ∧ (s.markAll p l).phase = s.phase ∧
    (s.markAll p l).settings = s.settings ∧ (s.markAll p l).saving = s.saving ∧
    (s.markAll p l).restartPending = s.restartPending ∧ (s.markAll p l).faults = s.faults ∧
    (s.markAll p l).ports = s.ports ∧ (s.markAll p l).image = s.image ∧ (s.markAll p l).fsc = s.fsc ∧
    (s.markAll p l).ta = s.ta ∧ (s.markAll p l).fpb = s.fpb ∧ (s.markAll p l).icingTimer = s.icingTimer ∧
    (s.markAll p l).slots = s.slots ∧ (s.markAll p l).merge = s.merge ∧ (s.markAll p l).alloc = s.alloc ∧
    (s.markAll p l).fences = s.fences ∧ (s.markAll p l).overrides = s.overrides ∧
    (s.markAll p l).accessMap = s.accessMap := by
  simp [State.markAll]

@[simp] theorem State.deliverSet_frame (s : State) (r : OverrideRecord) :
    (s.deliverSet r).pending = s.pending ∧ (s.deliverSet r).now = s.now ∧ (s.deliverSet r).phase = s.phase ∧
    (s.deliverSet r).settings = s.settings ∧ (s.deliverSet r).saving = s.saving ∧
    (s.deliverSet r).restartPending = s.restartPending ∧ (s.deliverSet r).faults = s.faults ∧
    (s.deliverSet r).ports = s.ports ∧ (s.deliverSet r).image = s.image ∧ (s.deliverSet r).fsc = s.fsc ∧
    (s.deliverSet r).ta = s.ta ∧ (s.deliverSet r).fpb = s.fpb ∧ (s.deliverSet r).icingTimer = s.icingTimer ∧
    (s.deliverSet r).slots = s.slots ∧ (s.deliverSet r).merge = s.merge ∧ (s.deliverSet r).alloc = s.alloc ∧
    (s.deliverSet r).settle = s.settle ∧ (s.deliverSet r).fences = s.fences ∧
    (s.deliverSet r).overrides = s.overrides ∧ (s.deliverSet r).accessMap = s.accessMap := by
  unfold State.deliverSet
  split <;> simp

@[simp] theorem State.tellDisplaced_frame (s : State) (p q : PortId) :
    (s.tellDisplaced p q).pending = s.pending ∧ (s.tellDisplaced p q).now = s.now ∧
    (s.tellDisplaced p q).phase = s.phase ∧ (s.tellDisplaced p q).settings = s.settings ∧
    (s.tellDisplaced p q).saving = s.saving ∧ (s.tellDisplaced p q).restartPending = s.restartPending ∧
    (s.tellDisplaced p q).faults = s.faults ∧ (s.tellDisplaced p q).image = s.image ∧
    (s.tellDisplaced p q).fsc = s.fsc ∧ (s.tellDisplaced p q).ta = s.ta ∧ (s.tellDisplaced p q).fpb = s.fpb ∧
    (s.tellDisplaced p q).icingTimer = s.icingTimer ∧ (s.tellDisplaced p q).slots = s.slots ∧
    (s.tellDisplaced p q).merge = s.merge ∧ (s.tellDisplaced p q).alloc = s.alloc ∧
    (s.tellDisplaced p q).buffer = s.buffer ∧ (s.tellDisplaced p q).settle = s.settle ∧
    (s.tellDisplaced p q).fences = s.fences ∧ (s.tellDisplaced p q).overrides = s.overrides ∧
    (s.tellDisplaced p q).accessMap = s.accessMap := by
  unfold State.tellDisplaced
  split <;> simp

@[simp] theorem State.removeRecord_frame (s : State) (r : OverrideRecord) :
    (s.removeRecord r).pending = s.pending ∧ (s.removeRecord r).now = s.now ∧ (s.removeRecord r).phase = s.phase ∧
    (s.removeRecord r).settings = s.settings ∧ (s.removeRecord r).saving = s.saving ∧
    (s.removeRecord r).restartPending = s.restartPending ∧ (s.removeRecord r).faults = s.faults ∧
    (s.removeRecord r).ports = s.ports ∧ (s.removeRecord r).image = s.image ∧ (s.removeRecord r).fsc = s.fsc ∧
    (s.removeRecord r).ta = s.ta ∧ (s.removeRecord r).fpb = s.fpb ∧ (s.removeRecord r).icingTimer = s.icingTimer ∧
    (s.removeRecord r).slots = s.slots ∧ (s.removeRecord r).merge = s.merge ∧ (s.removeRecord r).settle = s.settle ∧
    (s.removeRecord r).fences = s.fences ∧ (s.removeRecord r).accessMap = s.accessMap := by
  simp [State.removeRecord]

@[simp] theorem State.flushBank_frame (s : State) (b : Bank) :
    (s.flushBank b).pending = s.pending ∧ (s.flushBank b).now = s.now ∧ (s.flushBank b).phase = s.phase ∧
    (s.flushBank b).settings = s.settings ∧ (s.flushBank b).saving = s.saving ∧
    (s.flushBank b).restartPending = s.restartPending ∧ (s.flushBank b).faults = s.faults ∧
    (s.flushBank b).ports = s.ports ∧ (s.flushBank b).image = s.image ∧ (s.flushBank b).fsc = s.fsc ∧
    (s.flushBank b).ta = s.ta ∧ (s.flushBank b).fpb = s.fpb ∧ (s.flushBank b).icingTimer = s.icingTimer ∧
    (s.flushBank b).slots = s.slots ∧ (s.flushBank b).merge = s.merge ∧ (s.flushBank b).alloc = s.alloc ∧
    (s.flushBank b).buffer = s.buffer ∧ (s.flushBank b).settle = s.settle ∧ (s.flushBank b).fences = s.fences ∧
    (s.flushBank b).overrides = s.overrides := by
  simp [State.flushBank]

@[simp] theorem State.takePoll_frame (s : State) (g : SegId) (x : List (Option Byte)) :
    (s.takePoll g x).pending = s.pending ∧ (s.takePoll g x).now = s.now ∧ (s.takePoll g x).phase = s.phase ∧
    (s.takePoll g x).settings = s.settings ∧ (s.takePoll g x).saving = s.saving ∧
    (s.takePoll g x).restartPending = s.restartPending ∧ (s.takePoll g x).faults = s.faults ∧
    (s.takePoll g x).ports = s.ports ∧ (s.takePoll g x).fsc = s.fsc ∧ (s.takePoll g x).ta = s.ta ∧
    (s.takePoll g x).fpb = s.fpb ∧ (s.takePoll g x).icingTimer = s.icingTimer ∧ (s.takePoll g x).slots = s.slots ∧
    (s.takePoll g x).merge = s.merge ∧ (s.takePoll g x).alloc = s.alloc ∧ (s.takePoll g x).buffer = s.buffer ∧
    (s.takePoll g x).settle = s.settle ∧ (s.takePoll g x).fences = s.fences ∧
    (s.takePoll g x).overrides = s.overrides ∧ (s.takePoll g x).accessMap = s.accessMap := by
  simp [State.takePoll]

end Sys2Proof.Machine
end

