-- ==== Sys2Proof/Laws/Ops.lean ====
section
/-! SUPPORT. What each shared operation does, said once: executing and answering a telegram, faults and notices, the
transmitter, the receiver, posts, settings. The provers cite these instead of unfolding the operations. -/

namespace Sys2Proof.Machine

/-! ### Executing and answering a telegram -/

/-- A ready port executes the telegram of the kind named. -/
theorem State.execTelegram_ready {s : State} {p : PortId} {t : Telegram} {k : Byte} {act : Telegram → State → State}
    (h : s.Ready p t) (hk : t.kind = k) : s.execTelegram p k act = (act t s).kickPorts := by
  obtain ⟨h1, h2, h3⟩ := h
  simp [State.execTelegram, State.headTelegram, h1, h2, h3, hk]

/-- Whatever executing a telegram does: it acts on the head telegram of a ready port, or nothing happens. -/
theorem State.execTelegram_cases (s : State) (p : PortId) (k : Byte) (act : Telegram → State → State) :
    (∃ t, s.Ready p t ∧ t.kind = k ∧ s.execTelegram p k act = (act t s).kickPorts) ∨ s.execTelegram p k act = s := by
  unfold State.execTelegram State.headTelegram
  by_cases h : s.phase = .running ∧ s.portWaits p = false
  · rw [if_pos h]
    cases hq : (s.ports.get p).queue.head? with
    | none => exact .inr rfl
    | some t =>
      by_cases hk : t.kind = k
      · exact .inl ⟨t, ⟨h.1, h.2, hq⟩, hk, by simp [hk]⟩
      · exact .inr (by simp [hk])
  · rw [if_neg h]
    exact .inr rfl

theorem State.kickPorts_running {s : State} (h : s.phase = .running) :
    s.kickPorts = { s with ports := s.ports.map fun _ port => port.kick s.now } := by
  simp [State.kickPorts, State.mapPorts, h]

theorem State.kickPorts_loading {s : State} (h : s.phase = .loading) : s.kickPorts = s := by
  simp [State.kickPorts, h]

/-- A reply with nothing else is what `onlyAnswering` says. -/
theorem State.reply_kickPorts {s : State} (h : s.phase = .running) (p : PortId) (body : List Byte) :
    (s.reply p body).kickPorts = s.onlyAnswering p body := by
  rw [State.kickPorts_running (by simpa using h)]
  rfl

theorem State.refuse_kickPorts {s : State} (h : s.phase = .running) (p : PortId) (r : RefusalCode) :
    (s.refuse p r).kickPorts = s.onlyAnswering p [r.code] := State.reply_kickPorts h p [r.code]

/-- Forming a reply takes the head telegram and puts its reply last; a PAUSED port whose occupancy falls to 4 is CLEAR. -/
theorem Port.form_cons {port : Port} {t : Telegram} {rest : List Telegram} (h : port.queue = t :: rest)
    (body : List Byte) (e : FrameEffect) :
    (port.form body e).queue = rest ∧ (port.form body e).replies = port.replies ++ [replyFrame t body e] ∧
      (port.form body e).paused = (port.paused && decide (rest.length ≠ 4)) ∧
      (port.form body e).sending = port.sending ∧ (port.form body e).notices = port.notices ∧
      (port.form body e).spacing = port.spacing ∧ (port.form body e).rate = port.rate ∧
      (port.form body e).newRate = port.newRate ∧ (port.form body e).receiving = port.receiving := by
  unfold Port.form
  rw [h]
  by_cases hp : port.paused = true <;> by_cases hl : rest.length = 4 <;> simp [hp, hl, Config.resumeAt]

/-- The port's own checks pass exactly when the body is read. -/
theorem body11_eq {body : List Byte} {a b : Nat} (h : body11 body = some (a, b)) :
    ∃ x y : Byte, body = [x, y] ∧ a = x.toNat ∧ b = y.toNat := by
  unfold body11 at h
  split at h
  · simp only [Option.some.injEq, Prod.mk.injEq] at h
    exact ⟨_, _, rfl, h.1.symm, h.2.symm⟩
  · cases h

theorem body2_eq {body : List Byte} {w : Word} (h : body2 body = some w) : ∃ x y : Byte, body = [x, y] ∧ w = word16 x y := by
  unfold body2 at h
  split at h
  · simp only [Option.some.injEq] at h
    exact ⟨_, _, rfl, h.symm⟩
  · cases h

/-! ### Faults and notices -/

/-- Setting a fault makes its flag set, whether it was set or not. -/
@[simp] theorem State.setFault_faults (s : State) (f : FaultFlag) : (s.setFault f).faults = s.faults ||| f.mask := by
  unfold State.setFault
  split
  · next h =>
    apply BitVec.eq_of_getLsbD_eq
    intro i hi
    simp only [BitVec.getLsbD_or, State.hasFault] at h ⊢
    by_cases hb : i = f.bit
    · rw [hb, h]; rfl
    · have : f.mask.getLsbD i = false := by
        unfold FaultFlag.mask
        rw [BitVec.getLsbD_ofNat, Nat.testBit_two_pow]
        simp [Ne.symm hb]
      simp [this]
  · rfl

/-- Setting a fault touches the faults and the ports' notice bits alone. -/
theorem State.setFault_eq (s : State) (f : FaultFlag) :
    s.setFault f = { s with faults := s.faults ||| f.mask, ports := (s.setFault f).ports } := by
  rw [← State.setFault_faults]
  unfold State.setFault
  split <;> rfl

@[simp] theorem State.setFaultIf_faults (s : State) (c : Bool) (f : FaultFlag) :
    (s.setFaultIf c f).faults = if c then s.faults ||| f.mask else s.faults := by
  unfold State.setFaultIf
  split <;> simp

@[simp] theorem Port.raise_queue (e : Bool) (b : NoticeBit) (port : Port) : (port.raise e b).queue = port.queue := by
  unfold Port.raise; split <;> rfl

@[simp] theorem Port.raise_replies (e : Bool) (b : NoticeBit) (port : Port) : (port.raise e b).replies = port.replies := by
  unfold Port.raise; split <;> rfl

theorem Port.raise_notices (e : Bool) (b : NoticeBit) (port : Port) :
    (port.raise e b).notices = if e then port.notices ||| b.mask else port.notices := by
  unfold Port.raise; split <;> rfl

theorem State.notifyAll_get (s : State) (b : NoticeBit) (p : PortId) :
    (s.notifyAll b).ports.get p = (s.ports.get p).raise (s.settings.port.get p).notices b := by
  cases p <;> rfl

theorem State.notifySet_get (s : State) (b : NoticeBit) (ps : PortSet) (p : PortId) :
    (s.notifySet b ps).ports.get p =
      if ps.get p then (s.ports.get p).raise (s.settings.port.get p).notices b else s.ports.get p := by
  cases p <;> rfl

/-! Every way of setting notice bits, as the bits it sets on the ports with notices enabled. -/

theorem State.noticed_get (s : State) (bits : PortId → Byte) (p : PortId) :
    (s.noticed bits).get p = if (s.settings.port.get p).notices then
      { s.ports.get p with notices := (s.ports.get p).notices ||| bits p } else s.ports.get p := by
  cases p <;> rfl

/-- Two rounds of notices are one with the bits of both. -/
theorem State.noticed_noticed (s : State) (bits more : PortId → Byte) :
    ({ s with ports := s.noticed bits } : State).noticed more = s.noticed fun p => bits p ||| more p := by
  have each : ∀ (e : Bool) (b m : Byte) (port : Port),
      (if e then { (if e then { port with notices := port.notices ||| b } else port : Port) with
          notices := (if e then { port with notices := port.notices ||| b } else port : Port).notices ||| m }
        else (if e then { port with notices := port.notices ||| b } else port : Port)) =
      if e then { port with notices := port.notices ||| (b ||| m) } else port := by
    intro e b m port
    cases e
    · rfl
    · simp [BitVec.or_assoc]
  simp only [State.noticed, PerPort.map, each]

@[simp] theorem State.noticed_none (s : State) : (s.noticed fun _ => 0#8) = s.ports := by
  have each : ∀ (e : Bool) (port : Port),
      (if e then { port with notices := port.notices ||| 0#8 } else port : Port) = port := by
    intro e port
    cases e <;> simp
  simp only [State.noticed, PerPort.map, each]

theorem State.notifyAll_eq (s : State) (b : NoticeBit) :
    s.notifyAll b = { s with ports := s.noticed fun _ => b.mask } := rfl

theorem State.notifyIf_eq (s : State) (cause : Bool) (b : NoticeBit) :
    s.notifyIf cause b = { s with ports := s.noticed fun _ => if cause then b.mask else 0#8 } := by
  cases cause
  · simp [State.notifyIf]
  · rfl

theorem State.notifySet_eq (s : State) (b : NoticeBit) (ps : PortSet) :
    s.notifySet b ps = { s with ports := s.noticed fun p => if ps.get p then b.mask else 0#8 } := by
  have each : ∀ (e c : Bool) (port : Port), (if c then port.raise e b else port) =
      if e then { port with notices := port.notices ||| if c then b.mask else 0#8 } else port := by
    intro e c port
    cases e <;> cases c <;> simp [Port.raise]
  simp only [State.notifySet, State.mapPorts, State.noticed, each]

theorem State.notify_eq (s : State) (b : NoticeBit) (p : PortId) :
    s.notify b p = { s with ports := s.noticed fun q => if q = p then b.mask else 0#8 } := by
  unfold State.notify State.modPort PerPort.modify
  cases p <;> simp [State.noticed, PerPort.map, PerPort.set, PerPort.get, Port.raise] <;> rfl

/-- A cause sets its flag, with the FAULT bit where the flag was clear, and nothing else. -/
theorem State.setFault_noticed (s : State) (f : FaultFlag) : s.setFault f = { s with
    faults := s.faults ||| f.mask, ports := s.noticed fun _ => if s.hasFault f then 0#8 else 0x20#8 } := by
  rw [State.setFault_eq]
  congr 1
  unfold State.setFault
  by_cases h : s.hasFault f = true
  · simp [h]
  · rw [if_neg h]
    simp only [h]
    rfl

/-! ### The transmitter -/

/-- A transmitter that is sending goes on; an idle one starts the first of what is ready, a written rate first. -/
theorem Port.kick_sending {port : Port} {f : Frame} (h : port.sending = some f) (now : Nat) : port.kick now = port := by
  simp [Port.kick, h]

theorem Port.kick_idle {port : Port} (h : port.sending = none) (now : Nat) :
    port.kick now = port.applyRate.start now := by
  simp [Port.kick, h]

/-- The transmitter takes nothing from the intake queue. -/
@[simp] theorem Port.kick_queue (port : Port) (now : Nat) :
    (port.kick now).queue = port.queue ∧ (port.kick now).paused = port.paused := by
  unfold Port.kick Port.start Port.applyRate
  repeat' split
  all_goals exact ⟨rfl, rfl⟩

/-- After a kick an idle transmitter has nothing ready. -/
theorem Port.kick_busy (port : Port) (now : Nat) (h : (port.kick now).sending = none) :
    (port.kick now).flow = [] ∧ (port.kick now).replies = [] ∧
      ((port.kick now).notices = 0#8 ∨ (port.kick now).spacing ≠ none) ∧ (port.kick now).newRate = none := by
  revert h
  unfold Port.kick
  cases hs : port.sending with
  | some f => simp [hs]
  | none =>
    have hn : port.applyRate.newRate = none := by unfold Port.applyRate; repeat' split <;> simp_all
    unfold Port.start
    cases hf : port.applyRate.flow with
    | cons f rest => simp
    | nil =>
      cases hr : port.applyRate.replies with
      | cons r rest => simp
      | nil =>
        by_cases hc : port.applyRate.notices ≠ 0#8 ∧ port.applyRate.spacing = none
        · simp [hc]
        · simp only [hc, if_false, hf, hr, hn]
          simp only [ne_eq, not_and_or, not_not] at hc
          exact fun _ => ⟨trivial, trivial, hc, trivial⟩

/-! ### Posts -/

/-- What a post leaves in the buffer: the other entries as they were, and one entry of the station that carries every
field posted. -/
theorem mergePost_mem {a : Nat} {f : Fields} {o : Option PortId} {es : List Entry} {e : Entry}
    (h : e ∈ mergePost a f o es) : e ∈ es ∨ e.station = a ∧ e.state = .waiting := by
  induction es with
  | nil =>
    simp only [mergePost, List.mem_singleton] at h
    subst h
    exact .inr ⟨rfl, rfl⟩
  | cons x xs ih =>
    unfold mergePost at h
    split at h
    · next hx =>
      rcases List.mem_cons.1 h with rfl | h
      · exact .inr hx
      · exact .inl (List.mem_cons_of_mem _ h)
    · rcases List.mem_cons.1 h with rfl | h
      · exact .inl List.mem_cons_self
      · rcases ih h with h | h
        · exact .inl (List.mem_cons_of_mem _ h)
        · exact .inr h

/-! ### Arbitration -/

/-- A segment that is not free, or whose part does not run, chooses nothing. -/
theorem State.arbitrate_held {s : State} {g : SegId} (h : s.phase = .running → (s.fsc.get g).activity ≠ .free) :
    s.arbitrate g = s := by
  unfold State.arbitrate
  rw [if_neg fun c => h c.1 c.2]

/-- A free segment starts its choice; where that is the end of the pass, it chooses once more after it. -/
theorem State.arbitrate_free {s : State} {g : SegId} (hp : s.phase = .running) (hf : (s.fsc.get g).activity = .free) :
    s.arbitrate g = if s.choose g = .endOfPass then (s.endPass g).start g ((s.endPass g).choose g)
      else s.start g (s.choose g) := by
  unfold State.arbitrate
  rw [if_pos ⟨hp, hf⟩]
  cases s.choose g <;> rfl

/-- A READ is withheld only in a pass that runs, from a station its probe has brought back (R11). -/
theorem State.mayRead_eq_true {s : State} {g : SegId} {a : Nat} :
    s.mayRead g a = true ↔ ((s.fsc.get g).passRunning = true → a ∉ (s.fsc.get g).revived) := by
  unfold State.mayRead
  cases (s.fsc.get g).passRunning <;> simp

/-- Whatever a segment chooses to READ may get a READ. -/
theorem State.choose_mayRead {s : State} {g : SegId} :
    (∀ a, s.chooseEvent g = .event a → s.mayRead g a = true) ∧
      ∀ e, s.chooseReadThrough g = .readThrough e → s.mayRead g e.station = true := by
  refine ⟨fun a h => ?_, fun e h => ?_⟩
  · unfold State.chooseEvent at h
    split at h
    · next st hs =>
      cases h
      have h := List.find?_some hs
      simp only [Bool.and_eq_true] at h
      exact h.2
    · unfold State.chooseWrite State.chooseReadThrough State.chooseScan at h
      repeat (first | cases h | split at h)
  · unfold State.chooseReadThrough at h
    split at h
    · next x hs =>
      cases h
      have h := List.find?_some hs
      exact h
    · unfold State.chooseScan at h
      repeat (first | cases h | split at h)

/-! ### Settings -/

/-- A value is accepted when it is in its own range and agrees with the others. -/
theorem Settings.accept_eq_some {st new : Settings} {i : Item} {v : Word} :
    st.accept i v = some new ↔ st.write i v = some new ∧ new.agrees i = true := by
  unfold Settings.accept
  split
  · next n h =>
    rw [h]
    constructor
    · intro e
      split at e
      · next ha =>
        cases e
        exact ⟨rfl, ha⟩
      · cases e
    · rintro ⟨e, ha⟩
      cases e
      rw [if_pos ha]
  · next h => simp [h]

end Sys2Proof.Machine
end

