-- ==== Sys2Proof/WellFormed.lean ====
section
/-! DEFINITION. Which commands can come about at all: the operands that name a place of the part name one it has. The
meanings are total: an ill-formed command finds nothing to act on. -/

namespace Sys2Proof

/-- The operands of a command name places the part has: a poll has twelve slots (R26), a response carries at least one
character (R21), a settle item belongs to a station address 1 to 12 (R117) and an override record stands at an index
below 16 (R127). Every other operand is admitted as it is: what a link carries is judged by the command's meaning. -/
def Instr.wellFormed : Instr → Bool
  | .powerOn => true
  | .resetPin => true
  | .settingsLoadEnd _ => true
  | .takeFrame _ _ => true
  | .frameGapTimeout _ => true
  | .unknownKind _ => true
  | .readPoint _ => true
  | .readStation _ => true
  | .readStatus _ => true
  | .readFaults _ => true
  | .readOverrides _ => true
  | .readSetting _ => true
  | .postRequest _ => true
  | .withdrawRequest _ => true
  | .fence _ => true
  | .setOverride _ => true
  | .releaseOverride _ => true
  | .map _ => true
  | .unmap _ => true
  | .flush _ => true
  | .probeByAddress _ => true
  | .probeByIndex _ => true
  | .markStale _ => true
  | .writeSetting _ => true
  | .saveSettings _ => true
  | .saveEnd _ _ => true
  | .restart _ => true
  | .transmitterFrameDone _ => true
  | .noticeSpacingExpiry _ => true
  | .passTimerExpiry _ => true
  | .responseTaken _ chars => !chars.isEmpty
  | .responseWindowExpiry _ => true
  | .readyPauseExpiry _ => true
  | .attentionLineChange _ _ => true
  | .attentionPollEnd _ slots => slots.length == 12
  | .settleDeadlineExpiry _ station _ => decide (1 ≤ station) && decide (station ≤ 12)
  | .icingClearExpiry => true
  | .rotationExpiry _ => true
  | .requestExpiry _ _ => true
  | .overrideExpiry index => decide (index.what < Config.overrideRoom)

end Sys2Proof
end

