-- ==== Sys2Proof/Tests/Slice0.lean ====
section
/-! SUPPORT. The model's own tests: ill-formed commands, values of the manual's worked sequences, at most two small steps
for each command; and, for each statement that has hypotheses, a state that meets them. -/

namespace Sys2Proof.Tests

-- One after another: elaborated side by side, the evaluations below ask for more threads than the memory bound allows.
set_option Elab.async false

open Sys2Proof Sys2Proof.Machine

/-! ### States to start from -/

/-- The state after a command. -/
def after (c : Instr) (s : State) : State :=
  match exec c s with
  | .next t => t
  | _ => s

/-- The start-up state with the default settings, running, no station found yet and nothing in progress. -/
def running : State := { State.reset with phase := .running }

/-- The same with every station ACTIVE at 12 and in AUTO. -/
def alive : State :=
  { running with image := running.image.map fun _ sts => sts.map fun st => { st with counter := 12 } }

/-- One telegram at the head of a port's queue. -/
def ask (s : State) (p : PortId) (kind : Byte) (body : List Byte) : State :=
  { s with ports := s.ports.modify p fun port => { port with queue := [{ sequence := 7#8, kind := kind, body := body }] } }

def withCls (s : State) (p : PortId) (c : PortClass) : State :=
  { s with settings := s.settings.setPort p fun x => { x with cls := c } }

def withActivity (s : State) (g : SegId) (a : Activity) : State := s.setActivity g a

/-- A state with one transaction in flight on a segment. -/
def busyWith (s : State) (g : SegId) (job : Job) (retries : Nat) : State :=
  s.setActivity g (.busy { job := job, retries := retries, ends := 4 })

def scanOf (a : Nat) : ReadJob :=
  { purpose := .scan, station := a, first := 0, next := 0, continues := false, serves := PortSet.empty, valued := [] }

def withStation (s : State) (g : SegId) (a : Nat) (f : Station → Station) : State := s.modStation g a f

def withPoint (s : State) (g : SegId) (a q : Nat) (p : Point) : State :=
  s.modStation g a fun st => { st with points := st.points.set q p }

def goodPoint (v : Int) (stamp : Word) : Point := { stored := some { value := v, stamp := stamp }, quality := .good }

/-- The body of the frame the port is sending. -/
def sent (s : State) (p : PortId) : Option (List Byte) := (s.ports.get p).sending.map Frame.body

/-- The body of the reply of a port that executes its head telegram. -/
def answer (c : Instr) (p : PortId) (s : State) : Option (List Byte) := sent (after c s) p

theorem ask_ready (s : State) (p : PortId) (k : Byte) (body : List Byte) (h : s.phase = .running)
    (hw : s.portWaits p = false) : (ask s p k body).Ready p { sequence := 7#8, kind := k, body := body } := by
  refine ⟨h, hw, ?_⟩
  cases p <;> rfl

/-! ### Ill-formed commands -/

theorem test_wellFormed_response : (Instr.responseTaken .fs0 []).wellFormed = false := by decide
theorem test_wellFormed_poll : (Instr.attentionPollEnd .fs1 [none, none]).wellFormed = false := by decide
theorem test_wellFormed_station_low : (Instr.settleDeadlineExpiry .fs0 0 ⟨.fan, 9⟩).wellFormed = false := by decide

theorem test_wellFormed_station_high : (Instr.settleDeadlineExpiry .fs0 13 ⟨.fan, 9⟩).wellFormed = false := by decide

theorem test_wellFormed_index : (Instr.overrideExpiry ⟨16, 9⟩).wellFormed = false := by decide

theorem test_wellFormed_right : (Instr.overrideExpiry ⟨15, 9⟩).wellFormed = true ∧
    (Instr.settleDeadlineExpiry .fs1 12 ⟨.bypass, 9⟩).wellFormed = true := by decide

/-! ### Words that spell no command -/

theorem test_no_word_spells_a_command : decodeTableWord 8 0x42 = none ∧ State.reset.withFetchWord 16 7 = State.reset := by
  decide

/-! ### Arithmetic, on the manual's figures -/

/-- R169: the check over "123456789". -/
theorem test_check : crc [0x31#8, 0x32#8, 0x33#8, 0x34#8, 0x35#8, 0x36#8, 0x37#8, 0x38#8, 0x39#8] = 0x29B1#16 := by
  decide +kernel

/-- 3.9 and 3.11: freeze points at 372, 350, 600, 599 and 0. -/
theorem test_freezePoint : [372, 350, 600, 599, 0].map (freezePoint defaultFreezeTable) = [-184, -163, -510, -508, 0] := by
  decide +kernel

/-- 3.9 and 3.11: margins, the top one clamped. -/
theorem test_coilMargin : coilMargin 45 (-184) 60 = 169 ∧ coilMargin (-352) (-184) 60 = -228 ∧
    coilMargin 800 (-510) 20 = 999 ∧ coilMargin (-600) 0 150 = -750 := by decide

/-- 3.11: the weakest substitute, and a reading stronger than the nominal. -/
theorem test_concentration : concentrationInUse none 30 = 0 ∧ concentrationInUse (some 430) 400 = 400 := by decide

/-- 3.10: the isolation permission over one night. -/
theorem test_isolation : [71, 41, 30, 26, 46, 50].foldl (fun (x : Bool × List Bool) m =>
    (isolationNext x.1 m, x.2 ++ [isolationNext x.1 m])) (false, []) =
      (true, [true, true, true, false, false, true]) := by decide

/-- 4.9: unit 6 through a cold spell. -/
theorem test_frost : [24, 44, -6, 14, 64, 54].foldl (fun (x : FrostState × List FrostState) m =>
    (frostNext x.1 m, x.2 ++ [frostNext x.1 m])) (.normal, []) =
      (.normal, [.guard, .guard, .protect, .protect, .guard, .normal]) := by decide

/-- 4.10: the shortfall count of an iced fan group. -/
theorem test_shortfall : [shortfallNext 0 600 410, shortfallNext 0 600 355, shortfallNext 1 600 340,
    shortfallNext 2 600 372, shortfallNext 1 600 330, shortfallNext 2 600 310, shortfallNext 3 0 120] =
      [0, 1, 2, 0, 2, 3, 0] := by decide

/-- 6.7, 6.9 and 6.10: increments rounded. -/
theorem test_demand : demandNext 212 (increment 48 6 (-12) (-8)) = 208 ∧ demandNext 204 (increment 48 6 (-17) (-15)) = 201 ∧
    demandNext 200 (increment 48 6 (-50) (-48)) = 194 ∧ demandNext 995 (increment 48 6 80 70) = 1000 ∧
    roundBy64 (-32) = -1 ∧ roundBy64 32 = 1 := by decide

/-- 6.7, 6.8 and 6.10: the ladder. -/
theorem test_ladder : ladder 437 6 2 150 1000 = { n := 6, kMin := 2, k := 5, speed := 296, bypass := 0 } ∧
    ladder 197 8 8 150 500 = { n := 8, kMin := 8, k := 8, speed := 0, bypass := 15 } ∧
    ladder 201 8 8 150 500 = { n := 8, kMin := 8, k := 8, speed := 150, bypass := 0 } ∧
    ladder 420 8 2 150 1000 = { n := 8, kMin := 2, k := 6, speed := 275, bypass := 0 } := by decide

def request (target floor ceiling : Int) : Request :=
  { target := target, floor := floor, ceiling := ceiling, hold := 600, deadline := 600000 }

/-- 5.9: the merges at t = 5 and at t = 10. -/
theorem test_merge : mergeOf LoopSettings.default [request 200 150 280, request 180 120 250] =
      { target := 180, floor := 150, ceiling := 250, conflict := false } ∧
    mergeOf LoopSettings.default [request 200 150 280, request 180 120 250, request 320 300 450] =
      { target := 250, floor := 250, ceiling := 250, conflict := true } := by decide

/-- 4.11: one drain through the filter. -/
theorem test_filter : filterValve .guard false .toClose = .toOpen ∧ filterFan .guard false 300 420 = 300 ∧
    filterFan .normal true 300 420 = 0 := by decide

/-- 7.6: settle criteria at 395 for 420, at 12 for a closed bypass, and at 140 for 300. -/
theorem test_settles : settles (.fan 420) [2, 4] (fun q => if q = 4 then 420 else 395) = true ∧
    settles (.bypass 0) [4] (fun _ => 12) = true ∧
    settles (.fan 300) [2, 4] (fun q => if q = 4 then 300 else 140) = false := by decide

/-- 12.7: an image is 102 bytes. -/
theorem test_image_length : Settings.default.image.length = 102 := by decide +kernel

/-! ### Start-up -/

theorem test_powerOn : (after .powerOn { alive with saving := some [], restartPending := true }).phase = .loading ∧
    (after .powerOn { alive with saving := some [], restartPending := true }).saving = none := by decide +kernel

theorem test_resetPin : (after .resetPin (ask (alive.setFault .saveFailed) .sp0 3#8 [])).faults = 0#24 ∧
    ((after .resetPin (ask alive .sp0 3#8 [])).ports.get .sp0).queue = [] := by decide +kernel

/-- 11.5, moments 1 and 2: a wrong image. -/
theorem test_settingsLoadEnd_wrong :
    (after (.settingsLoadEnd (some [])) State.reset).hasFault .configDefaulted = true ∧
      (after (.settingsLoadEnd (some [])) State.reset).callOnSegment .fs1 = some (.identify 1) := by decide +kernel

theorem test_settingsLoadEnd_right :
    (after (.settingsLoadEnd (some { Settings.default with passInterval := 1200 }.image)) State.reset).settings.passInterval =
        1200 ∧
      (after (.settingsLoadEnd (some { Settings.default with passInterval := 1200 }.image)) State.reset).faults = 0#24 := by
  decide +kernel

/-! ### Ports -/

/-- READ STATUS of loop A, its check computed outside the model. -/
theorem test_takeFrame : ((after (.takeFrame .sp0 [0xA5#8, 0x03#8, 0x07#8, 0x03#8, 0x00#8, 0xCF#8, 0xDF#8]) running).ports.get
    .sp0).queue = [{ sequence := 7#8, kind := 0x03#8, body := [0x00#8] }] := by decide +kernel

/-- 10.10, moment 2: the twelfth telegram brings a PAUSE. -/
theorem test_takeFrame_pause : ((after (.takeFrame .sp2 [0xA5#8, 0x03#8, 0x07#8, 0x03#8, 0x00#8, 0xCF#8, 0xDF#8])
    (running.modPort .sp2 fun x => { x with queue := List.replicate 11 ⟨0#8, 2#8, []⟩ })).ports.get .sp2).sending.map
      Frame.kind = some 0x71#8 := by decide +kernel

theorem test_frameGapTimeout : (after (.frameGapTimeout .sp1)
    (running.modPort .sp1 fun x => { x with receiving := some [3#8] })).hasFault (.frameError .sp1) = true := by decide +kernel

/-- R170: a kind of the part's own names no telegram. -/
theorem test_unknownKind : answer (.unknownKind .sp0) .sp0 (ask running .sp0 0x70#8 []) = some [0x19#8] := by decide +kernel

theorem test_transmitterFrameDone : (after (.transmitterFrameDone .sp3) (running.modPort .sp3 fun x =>
    { x with sending := some { sequence := 7#8, kind := 0xB2#8, body := [0#8], effect := .restart } })).phase = .loading := by
  decide +kernel

theorem test_noticeSpacingExpiry : sent (after (.noticeSpacingExpiry .sp0) (running.modPort .sp0 fun x =>
    { x with notices := 0x22#8, spacing := some 200 })) .sp0 = some [0x22#8] := by decide +kernel

/-! ### Reading -/

/-- 9.6: a direct address of segment 11 names nothing; the point of a LOST station is answered from the image. -/
theorem test_readPoint : answer (.readPoint .sp1) .sp1 (ask alive .sp1 1#8 [0x8B#8, 0x38#8, 0#8]) = some [0x13#8] ∧
    answer (.readPoint .sp1) .sp1 (ask running .sp1 1#8 [0x80#8, 0x33#8, 0#8]) =
      some [0x00#8, 0x80#8, 0x33#8, 0xFF#8, 0xFF#8, 0x03#8, 0xFF#8, 0xFF#8] := by decide +kernel

/-- 1.11: a point never read is read through, and its port waits. -/
theorem test_readPoint_through : (after (.readPoint .sp1) (ask alive .sp1 1#8 [0x81#8, 0xC3#8, 0#8])).callOnSegment .fs1 =
    some (.read 12 3) := by decide +kernel

theorem test_readStation : (answer (.readStation .sp2) .sp2 (ask alive .sp2 2#8 [0#8, 11#8])).map (List.take 8) =
    some [0x00#8, 0x00#8, 0x0B#8, 0x02#8, 0x0C#8, 0x00#8, 0x00#8, 0x00#8] := by decide +kernel

theorem test_readStatus : (answer (.readStatus .sp0) .sp0 (ask alive .sp0 3#8 [1#8])).map
    (fun b => (b.length, b.take 9)) =
      some (115, [0x00#8, 0x01#8, 0x00#8, 0xC8#8, 0x00#8, 0x78#8, 0x01#8, 0x2C#8, 0x00#8]) := by decide +kernel

/-- 12.4: QUEUE OVERRUN SP0 is bit 6 of the second byte. -/
theorem test_readFaults : answer (.readFaults .sp0) .sp0 (ask { running with faults := 0x004001#24 } .sp0 4#8 []) =
      some [0x00#8, 0x01#8, 0x40#8, 0x00#8] ∧
    (after (.readFaults .sp0) (ask { running with faults := 1#24 } .sp0 4#8 [])).faults = 1#24 ∧
    (after (.readFaults .sp3) (ask { running with faults := 1#24 } .sp3 4#8 [])).faults = 0#24 := by decide +kernel

/-- The record of 8.8 at t = 35: unit 3 FAN 700, owner 0, hold 300, remaining 265. -/
def record9 : OverrideRecord :=
  { index := 9, seg := .fs0, station := 3, value := .fan 700, owner := .sp0, hold := 300, deadline := 300000,
    delivery := .posted }

theorem test_readOverrides : answer (.readOverrides .sp0) .sp0
    (ask { alive with overrides := [record9], now := 35000 } .sp0 5#8 []) =
      some [0x00#8, 0x01#8, 0x09#8, 0x00#8, 0x03#8, 0x08#8, 0x02#8, 0xBC#8, 0x00#8, 0x01#8, 0x2C#8, 0x01#8, 0x09#8, 0x00#8,
        0x01#8, 0xFF#8, 0xFF#8] := by decide +kernel

theorem test_readSetting : answer (.readSetting .sp1) .sp1 (ask running .sp1 6#8 [0x0C#8, 0x00#8]) =
    some [0x00#8, 0x0C#8, 0x00#8, 0x03#8, 0xE8#8] := by decide +kernel

theorem test_markStale : ((after (.markStale .sp3) (ask (withPoint alive .fs0 1 0 (goodPoint 45 7#16)) .sp3 0x28#8
    [0#8])).point .fs0 1 0) = { stored := some { value := 45, stamp := 7#16 }, quality := .stale } := by decide +kernel

/-! ### Requests and fences -/

/-- 5.9, t = 40: 340, 300, 460, 4000. -/
theorem test_postRequest : answer (.postRequest .sp2) .sp2 (ask running .sp2 0x10#8
    [0#8, 0x01#8, 0x54#8, 0x01#8, 0x2C#8, 0x01#8, 0xCC#8, 0x0F#8, 0xA0#8]) =
      some [0x01#8, 0x01#8, 0x54#8, 0x01#8, 0x2C#8, 0x01#8, 0xC2#8, 0x0E#8, 0x10#8] := by decide +kernel

/-- 5.9, t = 10 and t = 60: SP0 and SP1 hold requests, and SP2's goes. -/
def threeRequests : State :=
  ((running.modSlot .sp0 .fs0 (some (request 200 150 280))).modSlot .sp1 .fs0 (some (request 180 120 250))).modSlot .sp2
    .fs0 (some (request 320 300 450))

theorem test_withdrawRequest : (after (.withdrawRequest .sp2) (ask threeRequests .sp2 0x11#8 [0#8])).merge.get .fs0 =
    { target := 180, floor := 150, ceiling := 250, conflict := false } := by decide +kernel

theorem test_requestExpiry : (after (.requestExpiry .sp2 ⟨.fs0, 600000⟩) threeRequests).hasFault .requestExpired = true ∧
    ((after (.requestExpiry .sp2 ⟨.fs0, 600000⟩) threeRequests).merge.get .fs0).target = 180 := by decide +kernel

/-- R83: a post restarts the hold, and the expiry that the old hold had coming finds it running. -/
theorem test_requestExpiry_restarted :
    let posted := after (.postRequest .sp2) (ask { threeRequests with now := 599999 } .sp2 0x10#8
      [0#8, 0#8, 200#8, 0#8, 150#8, 0x01#8, 0x18#8, 0x02#8, 0x58#8])
    after (.requestExpiry .sp2 ⟨.fs0, 600000⟩) posted = posted ∧
      (posted.slots.get .sp2).get .fs0 = some { request 200 150 280 with deadline := 1199999 } := by decide +kernel

def openFan (a n : Nat) : Entry :=
  { station := a, posted := { fan := some n, valve := none, bypass := none }, origins := PortSet.empty,
    marks := PortSet.empty, state := .waiting }

/-- 7.6, t = 0: the fence is PENDING and what is outstanding bears the mark; a fence over nothing settles at once. -/
theorem test_fence : ((after (.fence .sp0) (ask { alive with buffer := { s0 := [openFan 5 150], s1 := [] } } .sp0 0x12#8
      [0#8])).fences.get .sp0).get .fs0 = .pending false ∧
    ((after (.fence .sp0) (ask alive .sp0 0x12#8 [1#8])).fences.get .sp0).get .fs1 = .settled := by decide +kernel

/-! ### Overrides -/

/-- 8.8, t = 50: SP3 displaces SP0's record. -/
theorem test_setOverride : answer (.setOverride .sp3) .sp3 (ask { alive with overrides := [record9] } .sp3 0x18#8
      [0x80#8, 0x38#8, 0x00#8, 0x00#8, 0x03#8, 0x84#8]) =
        some [0x00#8, 0x09#8, 0x00#8, 0x00#8, 0x03#8, 0x84#8, 0x03#8] ∧
    sent (after (.setOverride .sp3) (ask { alive with overrides := [record9] } .sp3 0x18#8
      [0x80#8, 0x38#8, 0x00#8, 0x00#8, 0x03#8, 0x84#8])) .sp0 = some [0x08#8] := by decide +kernel

/-- 9.6: SP0's logical address 0x0108 leads to unit 3's FAN. -/
def mapped : State :=
  { alive with accessMap :=
      [{ index := 0, owner := none, logical := 0x0200, physical := 0x80B0, readRight := true, overrideRight := false },
       { index := 32, owner := some .sp0, logical := 0x0100, physical := 0x8030, readRight := true,
         overrideRight := true }] }

theorem test_setOverride_mapped : (answer (.setOverride .sp0) .sp0 (ask mapped .sp0 0x18#8
      [0x01#8, 0x08#8, 0x02#8, 0xBC#8, 0x01#8, 0x2C#8])) =
        some [0x00#8, 0x00#8, 0x02#8, 0xBC#8, 0x01#8, 0x2C#8, 0x00#8] ∧
    answer (.setOverride .sp0) .sp0 (ask mapped .sp0 0x18#8 [0x01#8, 0x0A#8, 0#8, 0#8, 0#8, 60#8]) = some [0x13#8] ∧
    answer (.setOverride .sp1) .sp1 (ask mapped .sp1 0x18#8 [0x02#8, 0x01#8, 0#8, 0#8, 0#8, 60#8]) = some [0x11#8] := by
  decide +kernel

/-- 8.8, t = 400: the record goes, and the allocator's FAN 420 is posted, to be written as 300 in GUARD. -/
def wishing : State :=
  alive.modCommands .fs0 3 fun c => { c with fan := { allocator := some 420, posted := none, written := some 700 } }

theorem test_releaseOverride : (after (.releaseOverride .sp3) (ask { wishing with overrides :=
      [{ record9 with owner := .sp3 }] } .sp3 0x19#8 [0x80#8, 0x38#8])).overrides = [] ∧
    (after (.releaseOverride .sp3) (ask { wishing with overrides := [{ record9 with owner := .sp3 }] } .sp3 0x19#8
      [0x80#8, 0x38#8])).callOnSegment .fs0 = some (.write 3 { fan := some 300, valve := none, bypass := none }) := by
  decide +kernel

theorem test_overrideExpiry : (after (.overrideExpiry ⟨9, 300000⟩) { wishing with overrides := [record9] }).overrides = [] ∧
    sent (after (.overrideExpiry ⟨9, 300000⟩) { wishing with overrides := [record9] }) .sp0 = some [0x08#8] ∧
    (after (.overrideExpiry ⟨9, 299999⟩) { wishing with overrides := [record9] }).overrides = [record9] := by decide +kernel

/-! ### The access map, by 9.6 -/

theorem test_map : answer (.map .sp3) .sp3 (ask alive .sp3 0x20#8 [0#8, 1#8, 0#8, 16#8, 0x80#8, 0x30#8, 3#8]) =
      some [0x00#8, 32#8] ∧
    answer (.map .sp3) .sp3 (ask mapped .sp3 0x20#8 [1#8, 2#8, 0#8, 4#8, 0x81#8, 0xB0#8, 1#8]) = some [0x16#8] := by
  decide +kernel

theorem test_map_refused : answer (.map .sp3) .sp3 (ask mapped .sp3 0x20#8 [1#8, 2#8, 2#8, 4#8, 0x81#8, 0xB0#8, 1#8]) =
      some [0x10#8] ∧
    answer (.map .sp3) .sp3 (ask mapped .sp3 0x20#8 [2#8, 3#8, 0#8, 64#8, 0x81#8, 0x00#8, 1#8]) = some [0x17#8] := by
  decide +kernel

theorem test_unmap : answer (.unmap .sp3) .sp3 (ask mapped .sp3 0x21#8 [0xFF#8, 2#8, 3#8]) = some [0x00#8, 0x00#8] ∧
    answer (.unmap .sp3) .sp3 (ask mapped .sp3 0x21#8 [1#8, 2#8, 3#8]) = some [0x00#8, 0xFF#8] := by decide +kernel

theorem test_flush : answer (.flush .sp3) .sp3 (ask mapped .sp3 0x22#8 [1#8]) = some [0x00#8, 0x01#8] ∧
    (after (.flush .sp3) (ask mapped .sp3 0x22#8 [1#8])).accessMap.map MapEntry.index = [0] := by decide +kernel

theorem test_probeByAddress : answer (.probeByAddress .sp3) .sp3 (ask mapped .sp3 0x23#8 [0#8, 1#8, 5#8]) =
      some [0x00#8, 0x01#8, 32#8, 0x00#8, 0x01#8, 0x00#8, 16#8, 0x80#8, 0x30#8, 0x03#8, 0x80#8, 0x35#8] ∧
    answer (.probeByAddress .sp3) .sp3 (ask mapped .sp3 0x23#8 [3#8, 1#8, 5#8]) =
      some (0x00#8 :: 0x00#8 :: List.replicate 10 0xFF#8) := by decide +kernel

theorem test_probeByIndex : answer (.probeByIndex .sp3) .sp3 (ask mapped .sp3 0x24#8 [70#8]) =
    some (0x00#8 :: 0x00#8 :: List.replicate 8 0xFF#8) := by decide +kernel

/-! ### Settings, by 11.5 and 9.6 -/

theorem test_writeSetting : answer (.writeSetting .sp3) .sp3 (ask alive .sp3 0x30#8 [0x0C#8, 0#8, 0x04#8, 0xE2#8]) =
      some [0x18#8] ∧
    (after (.writeSetting .sp3) (ask mapped .sp3 0x30#8 [0x28#8, 0#8, 0#8, 16#8])).accessMap.map MapEntry.index = [32] := by
  decide +kernel

theorem test_writeSetting_population : (after (.writeSetting .sp3) (ask alive .sp3 0x30#8 [8#8, 0#8, 0x1F#8,
      0xFE#8])).callOnSegment .fs0 = some (.identify 1) ∧
    ((after (.writeSetting .sp3) (ask alive .sp3 0x30#8 [8#8, 0#8, 0x1F#8, 0xFE#8])).image.get .fs0).length = 12 := by
  decide +kernel

theorem test_saveSettings : (after (.saveSettings .sp3) (ask alive .sp3 0x31#8 [])).saving.map List.length = some 102 ∧
    answer (.writeSetting .sp3) .sp3 (ask { alive with saving := some [] } .sp3 0x30#8 [0x21#8, 0#8, 0#8, 70#8]) =
      some [0x14#8] := by decide +kernel

theorem test_saveEnd : (after (.saveEnd true [1#8]) { alive with saving := some [2#8] }).hasFault .saveFailed = true ∧
    (after (.saveEnd true [2#8]) { alive with saving := some [2#8] }).faults = 0#24 := by decide +kernel

theorem test_restart : (after (.restart .sp3) (ask alive .sp3 0x32#8 [])).restartPending = true ∧
    answer (.restart .sp0) .sp0 (ask alive .sp0 0x32#8 []) = some [0x11#8] := by decide +kernel

/-! ### Segments -/

/-- A pass timer that has run out, with the pass number at 46 (1.10). -/
def passDue : State :=
  alive.modFsc .fs0 fun f => { f with passTimer := some 1000, passNumber := 46#16 }

/-- 1.10, pass 47: with the hold limit 5 a stamp of 41 is too old. -/
theorem test_passTimerExpiry : ((after (.passTimerExpiry .fs0) (withPoint passDue .fs0 4 0
      { goodPoint 10 41#16 with quality := .held })).point .fs0 4 0).quality = .stale ∧
    (after (.passTimerExpiry .fs0) passDue).callOnSegment .fs0 = some (.read 1 0) := by decide +kernel

theorem test_passTimerExpiry_overrun : (after (.passTimerExpiry .fs1) (alive.modFsc .fs1 fun f =>
    { f with passTimer := some 1000, passRunning := true })).hasFault (.passOverrun .fs1) = true := by decide +kernel

/-- A WRITE of unit 5's FAN in flight. -/
def flying : State :=
  let entry := { openFan 5 150 with state := .inFlight (openFan 5 150).posted }
  busyWith { alive with buffer := { s0 := [entry], s1 := [] } } .fs0 (.write 5) 1

/-- A discovery answer of the right kind, and a WRITE refused (7.6, R114); the checks computed outside the model. -/
theorem test_responseTaken : ((after (.responseTaken .fs0 [4#8, 3#8, 1#8, 0x55#8, 0x2E#8])
      (busyWith running .fs0 (.discovery 4) 2)).station? .fs0 4).map Station.counter = some 12 ∧
    ((after (.responseTaken .fs0 [5#8, 2#8, 0xC2#8, 0xB8#8]) flying).station? .fs0 5).map Station.mode = some .inLocal := by decide +kernel

/-- 1.11: a no reading leaves 372 and its stamp 119; the other points are stored with stamp 120. -/
theorem test_responseTaken_noReading :
    let t := after (.responseTaken .fs1 [0x0C#8, 0x03#8, 0x05#8, 0x80#8, 0x00#8, 0x01#8, 0x74#8, 0x00#8, 0x00#8, 0x00#8,
      0x00#8, 0x00#8, 0x00#8, 0x4C#8, 0x2A#8]) (busyWith ((withPoint alive .fs1 12 3 (goodPoint 372 119#16)).modFsc .fs1
        fun f => { f with passNumber := 120#16 }) .fs1 (.read { scanOf 12 with first := 3, next := 3 }) 1)
    t.point .fs1 12 3 = { stored := some { value := 372, stamp := 119#16 }, quality := .stale } ∧
      t.point .fs1 12 4 = goodPoint 372 120#16 := by decide +kernel

/-- 1.10, pass 44: the counter goes from 1 to 0, and the station is LOST. -/
theorem test_responseWindowExpiry : let t := after (.responseWindowExpiry .fs0) (busyWith (withStation alive .fs0 4 fun st =>
      { st with counter := 1, attention := true }) .fs0 (.read (scanOf 4)) 0)
    t.isLost .fs0 4 = true ∧ t.hasFault .stationLost = true := by decide +kernel

theorem test_responseWindowExpiry_retry : ((after (.responseWindowExpiry .fs0) (busyWith alive .fs0 (.read (scanOf 4))
    1)).station? .fs0 4).map Station.counter = some 10 := by decide +kernel

theorem test_readyPauseExpiry : (after (.readyPauseExpiry .fs0) ((withActivity alive .fs0 (.pause 10)).modFsc .fs0 fun f =>
    { f with owed := some { scanOf 4 with next := 5, continues := true } })).callOnSegment .fs0 = some (.read 4 5) := by
  decide +kernel

theorem test_attentionLineChange : (after (.attentionLineChange .fs1 true) alive).callOnSegment .fs1 = some .poll := by
  decide +kernel

theorem test_attentionPollEnd : (after (.attentionPollEnd .fs0 ([none, some 0xA0#8, some 0xA1#8] ++ List.replicate 9 none))
    (busyWith alive .fs0 .poll 0)).callOnSegment .fs0 = some (.read 3 0) := by decide +kernel

/-- The FAN item of 7.6 that never settles, with its two marks. -/
def fanItem : SettleItem :=
  { station := 6, value := .fan 300, sentAt := 900, deadline := 120900,
    marks := PortSet.union (PortSet.single .sp0) (PortSet.single .sp1) }

def stuck : State :=
  { alive with
    settle := { s0 := [fanItem], s1 := [] }
    fences := { p0 := { s0 := .pending false, s1 := .none }, p1 := { s0 := .pending false, s1 := .none },
                p2 := { s0 := .none, s1 := .none }, p3 := { s0 := .none, s1 := .none } } }

/-- 7.6, t = 120.9: both fences complete as INCOMPLETE. -/
theorem test_settleDeadlineExpiry : let t := after (.settleDeadlineExpiry .fs0 6 ⟨.fan, 120900⟩) stuck
    (t.fences.get .sp0).get .fs0 = .incomplete ∧ (t.fences.get .sp1).get .fs0 = .incomplete ∧
      t.hasFault .settleTimeout = true ∧ after (.settleDeadlineExpiry .fs0 6 ⟨.fan, 120899⟩) stuck = stuck := by
  decide +kernel

/-- 4.10: twenty minutes later the marks are cleared. -/
def iced : State := { alive with icingTimer := some 1800000 }.modUnit .fs1 2 fun u => { u with iced := true }

theorem test_icingClearExpiry : (after .icingClearExpiry iced).anyIced .fs1 = false ∧
    sent (after .icingClearExpiry iced) .sp1 = some [0x01#8] := by decide +kernel

/-- 6.8: the order after the rotation. -/
theorem test_rotationExpiry : ((after (.rotationExpiry .fs1) (alive.modAlloc .fs1 fun al =>
    { al with order := [3, 4, 5, 6, 7, 8, 1, 2], rotation := some 5 })).alloc.get .fs1).order = [4, 5, 6, 7, 8, 1, 2, 3] := by
  decide +kernel

/-! ### States that meet the hypotheses of the statements -/

/-- A state with something in every list, in the form the invariants ask, and a command waiting. -/
def loaded : State :=
  { stuck with
    pending := [.readyPauseExpiry .fs0]
    overrides := [record9]
    accessMap := mapped.accessMap
    buffer := { s0 := [openFan 5 150, openFan 6 300], s1 := [] }
    fsc := stuck.fsc.modify .fs0 fun f => { f with activity := .pause 10 } }

/-- Every invariant of a safe state, and a step from it: the hypotheses of the statements that a step keeps one. -/
theorem wit_Safe : loaded.Safe ∧ ∃ t, step loaded = .next t := by
  refine ⟨?_, _, rfl⟩
  exact
    { counters := by intro g; cases g <;> decide +kernel
      image := by intro g; cases g <;> decide +kernel
      demand := by intro l; cases l <;> decide +kernel
      merges := by intro l; cases l <;> decide +kernel
      settle := by intro g; cases g <;> decide +kernel
      buffers := by intro g; cases g <;> decide +kernel
      overrides := by unfold State.OverridesFormed; decide +kernel
      accessMap := ⟨by intro b; cases b <;> decide +kernel, by decide +kernel⟩
      queues := by intro p; cases p <;> decide +kernel
      settings := ⟨by decide +kernel, .sp3, rfl⟩
      margins := by intro l; cases l <;> decide +kernel
      orders := by intro l; cases l <;> decide +kernel
      caps := by intro l; cases l <;> decide +kernel
      fences := by intro p l; cases p <;> cases l <;> decide +kernel
      transmitters := fun _ p => by cases p <;> decide +kernel
      segments := fun _ g => by cases g <;> decide +kernel
      loading := nofun
      held := nofun
      frames := fun p => ⟨by cases p <;> decide +kernel, fun f h => by cases p <;> cases h⟩ }

/-- The loading part keeps LoadingHeld and SegmentsHeld, with their hypotheses met. -/
theorem wit_LoadingHeld : State.reset.phase = .loading ∧ State.reset.LoadingHeld ∧ State.reset.SegmentsHeld ∧
    ∃ t, step State.reset = .next t := by
  refine ⟨rfl, fun _ p => ?_, fun _ => ⟨rfl, fun g => ?_⟩, _, rfl⟩
  · cases p <;> decide +kernel
  · cases g <;> decide +kernel

/-- R44: an edge of the line while the settings load runs arms no poll; the level is held. -/
theorem test_attentionLineChange_loading :
    (let f := (after (.attentionLineChange .fs0 true) State.reset).fsc.get .fs0
     f.lineAsserted = true ∧ f.pollArmed = false) := by decide +kernel

theorem wit_StepRunsFrontCommand : ({ alive with pending := [.readStatus .sp0, .powerOn] } : State).pending =
    .readStatus .sp0 :: [.powerOn] ∧ alive.pending = [] := by decide +kernel

theorem wit_PowerOnAndResetPinBeginLoad : (Instr.powerOn = .powerOn ∨ Instr.powerOn = .resetPin) ∧
    (Instr.resetPin = .powerOn ∨ Instr.resetPin = .resetPin) := by decide

/-- Settings at the ends of their ranges, with no station on FS0. -/
def extreme : Settings :=
  { Settings.default with
    seg := { s0 := { population := 0#16, mask := 0#16 }, s1 := { population := 0x1FFE#16, mask := 0x1FFE#16 } }
    passInterval := 5000
    freezeTable := List.replicate 12 0 ++ [-600]
    guardBand := 150
    designMin := -600
    icingInterval := 240
    blockLow := 64
    blockHigh := 1
    loop := { s0 := { LoopSettings.default with kp := 255, rotation := 0, fbFloor := -100, fbCeiling := 450 },
              s1 := { LoopSettings.default with ki := 0, fbFloor := 450, fbTarget := 450, fbCeiling := 450 } } }

theorem wit_StartUpState : State.reset.phase = .loading ∧ (loadSettings none).1.population .fs0 = [1, 2, 3, 4, 5, 6, 7, 8, 11, 12] ∧
    (loadSettings (some extreme.image)).1.population .fs0 = [] ∧ (extreme.port.get .sp0).notices = true := by decide +kernel

theorem wit_SettingsImageRoundTrip : (Settings.default.freezeTable.length = 13 ∧
      ∀ i ∈ imageItems, Settings.default.accept i (Settings.default.read i) = some Settings.default) ∧
    extreme.freezeTable.length = 13 ∧ ∀ i ∈ imageItems, extreme.accept i (extreme.read i) = some extreme := by
  decide +kernel

/-- Wrong in length, in the format word, in the check alone, in the value of its first item, and in an order alone. -/
theorem wit_WrongImageLoadsDefaults : ([] : List Byte).length ≠ 102 ∧
    (List.replicate 102 0#8).take 4 ≠ be16 0x5C21#16 ++ be16 96#16 ∧
    ((Settings.default.image.take 101 ++ [0#8]).drop 100 ≠
      be16 (crc ((Settings.default.image.take 101 ++ [0#8]).take 100))) ∧ (loadSettings none).2 = true ∧
    (imageItems = [] ++ Item.cls .sp0 :: imageItems.tail ∧ Item.oneByte (.cls .sp0) = true ∧
      Settings.default.write (.cls .sp0) ((3#8 : Byte).setWidth 16) = none ∧
      (List.replicate 5 3#8).getD 4 0#8 = (3#8 : Byte)) ∧
    (imageItems.getLast? = some (.block .high) ∧ Item.oneByte .passInterval = false ∧
      Settings.default.write .passInterval (word16 0#8 199#8) = none) ∧
    (∀ st : Settings, st.image ≠ []) ∧
    loadSettings (some { Settings.default with loop := { Settings.default.loop with
      s1 := { Settings.default.loop.s1 with fbFloor := 201 } } }.image) = (Settings.default, true) := by
  refine ⟨by decide, by decide +kernel, by decide +kernel, by decide, by decide +kernel, by decide +kernel, ?_,
    by decide +kernel⟩
  intro st h
  have := congrArg List.length h
  simp [Settings.image, withCheck, be16] at this

theorem wit_WriteSettingThenRead : Item.ofCode 0x01 0 = some (.cls .sp0) ∧
    (Settings.default.accept (.cls .sp0) 2#16).isSome = true ∧ Item.ofCode 0x20 12 = some (.freeze 12) ∧
    (Settings.default.accept (.freeze 12) (signedWord (-600))).isSome = true ∧ Item.ofCode 0x28 1 = some (.block .high) ∧
    (Settings.default.accept (.block .high) 64#16).isSome = true ∧ Settings.default.freezeTable.length = 13 := by
  decide +kernel

/-- A write that a step starts, and one that was in flight before it. -/
theorem wit_WritesStartFiltered :
    (after (.releaseOverride .sp3) (ask { wishing with overrides := [{ record9 with owner := .sp3 }] } .sp3 0x19#8
      [0x80#8, 0x38#8])).writing .fs0 = some 3 ∧
    flying.writing .fs0 = some 5 ∧ (after (.responseWindowExpiry .fs0) flying).writing .fs0 = some 5 ∧
    ∃ t, step { flying with pending := [.responseWindowExpiry .fs0] } = .next t := by
  refine ⟨by decide +kernel, by decide +kernel, by decide +kernel, _, rfl⟩

theorem wit_TranslationIsUnambiguous : loaded.MapFormed ∧
    ∃ e ∈ loaded.accessMap, e.serves (some .sp0) = true ∧ loaded.covers e 0x10F = true := by
  exact ⟨wit_Safe.1.accessMap, by decide +kernel⟩

/-! ### Taking and refusing telegrams -/

def queueOf (n : Nat) (paused : Bool) : State :=
  running.modPort .sp1 fun x => { x with queue := List.replicate n ⟨0#8, 2#8, []⟩, paused := paused }

theorem wit_TakeFrameQueuesTelegram : (queueOf 11 false).phase = .running ∧
    ((queueOf 11 false).ports.get .sp1).receiving = none ∧ ((queueOf 11 false).ports.get .sp1).queue.length = 11 ∧
    ((queueOf 15 true).ports.get .sp1).receiving = none ∧ ((queueOf 15 true).ports.get .sp1).queue.length = 15 ∧
    ((queueOf 0 false).ports.get .sp1).queue.length < 16 ∧ (List.replicate 48 0#8).length ≤ 48 := by decide +kernel

theorem wit_TakeFrameDiscards : ((running.modPort .sp1 fun x => { x with receiving := some [3#8] }).ports.get .sp1).receiving =
      some [3#8] ∧ (running.ports.get .sp1).receiving = none ∧ running.phase = .running ∧
    16 ≤ ((queueOf 16 true).ports.get .sp1).queue.length ∧ ((queueOf 16 true).ports.get .sp1).receiving = none ∧
    checked [0x02#8, 7#8, 4#8, 0#8, 0#8] = none ∧ [7#8, 4#8, 0#8, 0#8].length = (0x02#8 : Byte).toNat + 2 ∧
    checked (50#8 :: List.replicate 52 0#8) = none ∧ (List.replicate 52 0#8).length = (50#8 : Byte).toNat + 2 ∧
    (1#8 : Byte).toNat < 2 ∧ 50 < (51#8 : Byte).toNat := by decide +kernel

theorem wit_FaultsAreStickyUntilRead : ({ running with faults := 4#24 } : State).hasFault .stationLost = true ∧
    running.hasFault (.frameError .sp3) = false ∧ FaultFlag.icing ≠ .stationLost ∧
    (ask { running with faults := 1#24 } .sp3 4#8 []).Ready .sp3 ⟨7#8, 4#8, []⟩ ∧ running.cls .sp3 = .supervisor ∧
    (ask { running with faults := 1#24 } .sp0 4#8 []).Ready .sp0 ⟨7#8, 4#8, []⟩ ∧ running.cls .sp0 ≠ .supervisor ∧
    (ask running .sp0 4#8 [0#8]).Ready .sp0 ⟨7#8, 4#8, [0#8]⟩ ∧ [0#8] ≠ ([] : List Byte) ∧
    ((∃ t, step { ask { running with faults := 4#24 } .sp0 4#8 [] with pending := [.readFaults .sp0] } = .next t) ∧
      (∃ t, step { running with faults := 4#24, pending := [.settingsLoadEnd none] } = .next t) ∧
      running.phase = .running ∧ (running.ports.get .sp3).sending = none ∧
      (∃ t, step { running with faults := 4#24, pending := [.transmitterFrameDone .sp3] } = .next t)) :=
  ⟨by decide +kernel, by decide +kernel, by decide, ask_ready _ _ _ _ rfl rfl, by decide, ask_ready _ _ _ _ rfl rfl,
    by decide, ask_ready _ _ _ _ rfl rfl, by decide, ⟨_, rfl⟩, ⟨_, rfl⟩, rfl, by decide +kernel, ⟨_, rfl⟩⟩

theorem wit_PortChecksFirst : (ask running .sp0 0x70#8 []).Ready .sp0 ⟨7#8, 0x70#8, []⟩ ∧ 0x70#8 ∉ namedKinds ∧
    (ask running .sp0 0x28#8 []).Ready .sp0 ⟨7#8, 0x28#8, []⟩ ∧
    (Instr.markStale .sp0, 0x28#8, 1) ∈ telegramCommands .sp0 ∧ ([] : List Byte).length ≠ 1 :=
  ⟨ask_ready _ _ _ _ rfl rfl, by decide, ask_ready _ _ _ _ rfl rfl, by decide, by decide⟩

theorem wit_ClassRightsEnforced :
    ((ask (withCls running .sp1 .observer) .sp1 0x12#8 [0#8]).Ready .sp1 ⟨7#8, 0x12#8, [0#8]⟩ ∧
      (ask (withCls running .sp1 .observer) .sp1 0x12#8 [0#8]).cls .sp1 = .observer ∧
      (Instr.fence .sp1, 0x12#8, 1) ∈ plantCommands .sp1) ∧
    ((ask running .sp0 0x20#8 [0#8, 1#8, 0#8, 16#8, 0x80#8, 0x30#8, 3#8]).cls .sp0 ≠ .supervisor ∧
      bodyMap [0#8, 1#8, 0#8, 16#8, 0x80#8, 0x30#8, 3#8] ≠ none ∧ (Instr.map .sp0, 0x20#8, 7) ∈ supervisorCommands .sp0) ∧
    (bodySetOverride [0x80#8, 0x00#8, 0#8, 0#8, 0#8, 0#8] = some { address := 0x8000#16, value := 0, hold := 0 } ∧
      running.cls .sp0 = .plant ∧ 0x8000 ≤ (0x8000#16 : Word).toNat) ∧
    body2 [0x80#8, 0x00#8] = some 0x8000#16 :=
  ⟨⟨ask_ready _ _ _ _ rfl rfl, by decide +kernel, by decide⟩, by decide +kernel, by decide +kernel, by decide +kernel⟩

/-! ### Reading -/

theorem wit_ReadsAnswerFromState :
    ((ask alive .sp2 2#8 [1#8, 12#8]).Ready .sp2 ⟨7#8, 2#8, [1#8, 12#8]⟩ ∧ (12#8 : Byte).toNat ≤ 12 ∧
      SegId.ofNumber (1#8 : Byte).toNat = some .fs1 ∧ (alive.station? .fs1 (12#8 : Byte).toNat).isSome = true ∧
      alive.station? .fs1 (9#8 : Byte).toNat = none ∧ SegId.ofNumber (2#8 : Byte).toNat = none ∧ 12 < (13#8 : Byte).toNat) ∧
    ((ask alive .sp2 3#8 [1#8]).Ready .sp2 ⟨7#8, 3#8, [1#8]⟩ ∧ SegId.ofNumber (1#8 : Byte).toNat = some .fs1) ∧
    (ask loaded .sp2 5#8 []).Ready .sp2 ⟨7#8, 5#8, []⟩ ∧
    (ask alive .sp2 6#8 [0x20#8, 12#8]).Ready .sp2 ⟨7#8, 6#8, [0x20#8, 12#8]⟩ ∧
      Item.ofCode (0x20#8 : Byte).toNat (12#8 : Byte).toNat = some (.freeze 12) ∧
      Item.ofCode (0x20#8 : Byte).toNat (13#8 : Byte).toNat = none :=
  ⟨⟨ask_ready _ _ _ _ rfl rfl, by decide +kernel⟩, ⟨ask_ready _ _ _ _ rfl rfl, by decide +kernel⟩,
    ask_ready _ _ _ _ rfl rfl, ask_ready _ _ _ _ rfl rfl, by decide +kernel⟩

/-- Unit 5 with an OPEN entry, an entry IN FLIGHT, a settle item and an override of its FAN. -/
def busyFan (now : Nat) : State :=
  let mark := PortSet.single .sp0
  { flying with
    now := now
    buffer := { s0 := flying.buffer.s0 ++ [{ openFan 5 400 with marks := mark }], s1 := [] }
    settle := { s0 := [{ station := 5, value := .fan 100, sentAt := 0, deadline := 9000, marks := mark }], s1 := [] }
    fences := (alive.setFence .sp0 .fs0 (.pending false)).fences
    overrides := [{ record9 with station := 5, value := .fan 400 }] }

theorem wit_ReplySizes : (Station.fresh 3).points.length = 8 ∧ (loaded.fpb.get .fs0).units.length ≤ 10 ∧
    (loaded.alloc.get .fs0).order.length ≤ 10 ∧ loaded.OverridesFormed ∧
    (((Station.fresh 3).point 7).stored = none ∧ (goodPoint 45 7#16).stored ≠ none) ∧
    ((threeRequests.slots.get .sp0).get .fs0 = some (request 200 150 280) ∧ (threeRequests.slots.get .sp3).get .fs0 = none) ∧
    ((loaded.alloc.get .fs0).lastRun = none ∧ ((loaded.fullStages .fs0).alloc.get .fs0).lastRun ≠ none) ∧
    (((loaded.fpb.get .fs0).units[0]?).map UnitFrost.addr = some 1 ∧
      ((loaded.fpb.get .fs0).units[7]?).map UnitFrost.addr = some 8 ∧ (loaded.fpb.get .fs0).units.length ≤ 8) ∧
    loaded.overrides[0]? = some record9 ∧
    ((busyFan 1500).settle.get .fs0).map (fun i => (1500 - i.sentAt) % 1000) = [500] ∧
    (loaded.settle.get .fs0).find? (fun i => i.station == 3 && i.value.output == .fan) = none :=
  ⟨by decide, by decide +kernel, by decide +kernel, wit_Safe.1.overrides, by decide +kernel⟩

/-- The reply to READ POINT of an output by 12.4, with all four values present and with none; the unused places of the units
part; and the marked count, of a fence PENDING and of none. -/
theorem wit_ReplySizes_clauses :
    (busyFan 2000).pointReply .fs0 5 (.output .fan) 0x8058 = [0x00#8, 0x80#8, 0x58#8, 0x0F#8, 0xFF#8, 0xFF#8, 0xFF#8, 0xFF#8,
      0xFF#8, 0xFF#8, 0x01#8, 0x90#8, 0x00#8, 0x96#8, 0x00#8, 0x96#8, 0x00#8, 0x64#8, 0x00#8, 0x02#8, 0x01#8, 0x90#8,
      0xFF#8, 0xFF#8, 0x03#8, 0xFF#8, 0xFF#8] ∧
    (busyFan 2000).pointReply .fs0 4 (.output .valve) 0x8049 =
      [0x00#8, 0x80#8, 0x49#8, 0x00#8] ++ List.replicate 20 0xFF#8 ++ [0x03#8, 0xFF#8, 0xFF#8] ∧
    (((busyFan 0).statusReply .sp0 .fs0).drop 98).take 14 = List.replicate 10 0xFF#8 ++ [0x02#8, 0x01#8, 0x01#8, 0x02#8] ∧
    (((busyFan 0).statusReply .sp1 .fs0).drop 110).take 2 = [0x00#8, 0xFF#8] := by decide +kernel

/-- A point answered from the image, a point read through on a busy segment, and an output's echo on a free one. -/
theorem wit_ReadPointAnswersOrReadsThrough :
    (ask (withPoint alive .fs0 3 3 (goodPoint 0 1#16)) .sp1 1#8 [0x80#8, 0x33#8, 0#8]).Ready .sp1
      ⟨7#8, 1#8, [0x80#8, 0x33#8, 0#8]⟩ ∧
    ((withPoint alive .fs0 3 3 (goodPoint 0 1#16)).resolveRead .sp1 0x8033#16 =
        .found { seg := .fs0, station := 3, target := .point 3, direct := 0x8033 } ∧
      ((withPoint alive .fs0 3 3 (goodPoint 0 1#16)).point .fs0 3 3).quality = .good) ∧
    ((flying.fsc.get .fs0).activity ≠ .free ∧ (flying.point .fs0 3 3).quality = .none ∧ flying.isLost .fs0 3 = false) ∧
    (bodyReadPoint [0x80#8, 0x38#8, 1#8] = some (0x8038#16, true) ∧
      alive.resolveRead .sp1 0x8038#16 = .found { seg := .fs0, station := 3, target := .output .fan, direct := 0x8038 } ∧
      (alive.fsc.get .fs0).activity = .free ∧ alive.choose .fs0 = .nothing) ∧
    ((ask alive .sp1 1#8 [0x80#8, 0x33#8, 2#8]).Ready .sp1 ⟨7#8, 1#8, [0x80#8, 0x33#8, 2#8]⟩ ∧ 1 < (2#8 : Byte).toNat) ∧
    (ask mapped .sp1 1#8 [1#8, 3#8, 0#8]).Ready .sp1 ⟨7#8, 1#8, [1#8, 3#8, 0#8]⟩ ∧
    mapped.resolveRead .sp1 0x0103#16 = .miss 0x0103#16 ∧ mapped.resolveRead .sp0 0x010F#16 = .refused .noPoint ∧
    ({ mapped with accessMap := mapped.accessMap.map fun e => { e with readRight := false } } : State).resolveRead .sp1
      0x0203#16 = .refused .rights :=
  ⟨ask_ready _ _ _ _ rfl rfl, by decide +kernel, by decide +kernel, by decide +kernel,
    ⟨ask_ready _ _ _ _ rfl rfl, by decide⟩, ask_ready _ _ _ _ rfl rfl, by decide +kernel⟩

/-- At the first and the last address of a block, and one past it, of SP0's entry and of the GLOBAL one. -/
theorem wit_AddressesResolve : loaded.MapFormed ∧
    (∃ e ∈ loaded.accessMap, e.owner = some .sp0 ∧ e.logical ≤ 0x100 ∧ 0x10F < e.logical + loaded.sizeOf e ∧
      e.readRight = true ∧ e.overrideRight = true) ∧
    (∃ e ∈ loaded.accessMap, e.owner = none ∧ e.logical ≤ 0x200 ∧ 0x203 < e.logical + loaded.sizeOf e ∧
      e.overrideRight = false) ∧
    (∀ e ∈ loaded.accessMap, e.owner = some .sp0 ∨ e.owner = none →
      loaded.covers e 0x110 = false ∧ loaded.covers e 0x204 = false) ∧
    (∀ e ∈ loaded.accessMap, e.owner = some .sp3 ∨ e.owner = none → loaded.covers e 0x108 = false) ∧
    (withCls loaded .sp1 .observer).cls .sp1 = .observer ∧ loaded.cls .sp0 = .plant ∧ loaded.cls .sp3 = .supervisor ∧
    (8 ∈ loaded.settings.population .fs1 ∧ kindOf 8 = .unit) ∧ (12 ∈ loaded.settings.population .fs1 ∧ kindOf 12 = .loop) ∧
    loaded.direct? 0x8189 = some { seg := .fs1, station := 8, target := .output .valve, direct := 0x8189 } ∧
    loaded.direct? 0x81CA = some { seg := .fs1, station := 12, target := .output .bypass, direct := 0x81CA } ∧
    loaded.direct? 0x81C8 = none :=
  ⟨wit_Safe.1.accessMap, by decide +kernel⟩

/-! ### Requests, fences, overrides -/

def clash : List Byte := [0#8, 0#8, 0#8, 0x01#8, 0x2C#8, 0x01#8, 0x2B#8, 0#8, 60#8]

def post460 : List Byte := [0#8, 0x01#8, 0x54#8, 0x01#8, 0x2C#8, 0x01#8, 0xCC#8, 0x0F#8, 0xA0#8]

/-- A floor one above the ceiling, and one at the ceiling once both are in range. -/
theorem wit_PostRequestStores : (ask running .sp2 0x10#8 clash).Ready .sp2 ⟨7#8, 0x10#8, clash⟩ ∧
    bodyPostRequest clash = some { loop := 0, target := 0, floor := 300, ceiling := 299, hold := 60 } ∧
    (ask threeRequests .sp2 0x10#8 post460).Ready .sp2 ⟨7#8, 0x10#8, post460⟩ ∧
    bodyPostRequest post460 = some { loop := 0, target := 340, floor := 300, ceiling := 460, hold := 4000 } ∧
    running.cls .sp2 ≠ .observer ∧ SegId.ofNumber 0 = some .fs0 ∧ clamp (-100) 450 300 ≤ clamp (-100) 450 460 ∧
    clamp (-100) 450 299 < clamp (-100) 450 300 ∧ clamp (-100) 450 451 ≤ clamp (-100) 450 450 ∧
    (ask (withCls running .sp1 .observer) .sp1 0x10#8 clash).Ready .sp1 ⟨7#8, 0x10#8, clash⟩ ∧
    (withCls running .sp1 .observer).cls .sp1 = .observer ∧ SegId.ofNumber 2 = none :=
  ⟨ask_ready _ _ _ _ rfl rfl, by decide +kernel, ask_ready _ _ _ _ rfl rfl, by decide +kernel, by decide +kernel,
    by decide +kernel, by decide +kernel, by decide +kernel, by decide +kernel, ask_ready _ _ _ _ rfl rfl, by decide,
    by decide⟩

theorem wit_WithdrawAndExpiryEmptySlot : (ask threeRequests .sp2 0x11#8 [0#8]).Ready .sp2 ⟨7#8, 0x11#8, [0#8]⟩ ∧
    SegId.ofNumber (0#8 : Byte).toNat = some .fs0 ∧ threeRequests.cls .sp2 ≠ .observer ∧
    (threeRequests.slots.get .sp2).get .fs0 ≠ none ∧ (threeRequests.slots.get .sp3).get .fs0 = none ∧
    (ask (withCls running .sp1 .observer) .sp1 0x11#8 [2#8]).Ready .sp1 ⟨7#8, 0x11#8, [2#8]⟩ ∧
    (withCls running .sp1 .observer).cls .sp1 = .observer ∧
    (ask running .sp1 0x11#8 [2#8]).Ready .sp1 ⟨7#8, 0x11#8, [2#8]⟩ ∧ running.cls .sp1 ≠ .observer ∧
    SegId.ofNumber (2#8 : Byte).toNat = none ∧
    (threeRequests.slots.get .sp2).get .fs0 = some (request 320 300 450) ∧ max threeRequests.now 599999 < 600000 ∧
    600000 ≤ max threeRequests.now 600000 :=
  ⟨ask_ready _ _ _ _ rfl rfl, by decide, by decide +kernel, by decide +kernel, by decide +kernel,
    ask_ready _ _ _ _ rfl rfl, by decide, ask_ready _ _ _ _ rfl rfl, by decide +kernel⟩

theorem wit_MergeRule : [request 200 150 280, request 180 120 250] ≠ [] ∧
    [request 200 150 280, request 180 120 250].Perm [request 180 120 250, request 200 150 280] ∧
    (mergeOf LoopSettings.default [request 200 150 280, request 180 120 250]).conflict = false ∧
    (mergeOf LoopSettings.default [request 200 150 280, request 320 300 450]).conflict = true ∧
    (mergeOf LoopSettings.default [request 200 150 280, request 320 280 450]).conflict = false := by decide +kernel

/-- Marks and records that agree, SP0's fence on FS0 PENDING and SP2's not. -/
theorem wit_FenceTaken : (ask loaded .sp0 0x12#8 [0#8]).FencesFollowMarks ∧
    (ask loaded .sp0 0x12#8 [0#8]).Ready .sp0 ⟨7#8, 0x12#8, [0#8]⟩ ∧ ((loaded.fences.get .sp0).get .fs0).isPending = true ∧
    (ask loaded .sp2 0x12#8 [0#8]).Ready .sp2 ⟨7#8, 0x12#8, [0#8]⟩ ∧ ((loaded.fences.get .sp2).get .fs0).isPending = false ∧
    loaded.cls .sp0 ≠ .observer ∧ loaded.cls .sp2 ≠ .observer ∧ SegId.ofNumber (0#8 : Byte).toNat = some .fs0 ∧
    ((ask (withCls loaded .sp1 .observer) .sp1 0x12#8 [0#8]).FencesFollowMarks ∧
      (ask (withCls loaded .sp1 .observer) .sp1 0x12#8 [0#8]).Ready .sp1 ⟨7#8, 0x12#8, [0#8]⟩ ∧
      (ask (withCls loaded .sp1 .observer) .sp1 0x12#8 [0#8]).cls .sp1 = .observer) ∧
    (ask loaded .sp0 0x12#8 [2#8]).FencesFollowMarks ∧ (ask loaded .sp0 0x12#8 [2#8]).Ready .sp0 ⟨7#8, 0x12#8, [2#8]⟩ ∧
    SegId.ofNumber (2#8 : Byte).toNat = none :=
  ⟨wit_Safe.1.fences, ask_ready _ _ _ _ rfl rfl, by decide +kernel, ask_ready _ _ _ _ rfl rfl, by decide +kernel,
    by decide +kernel, by decide +kernel, by decide, ⟨wit_Safe.1.fences, ask_ready _ _ _ _ rfl rfl, by decide +kernel⟩,
    wit_Safe.1.fences, ask_ready _ _ _ _ rfl rfl, by decide⟩

/-- A fence on a segment with nothing outstanding, its port's notices enabled. -/
theorem wit_FenceTaken_empty : (ask loaded .sp2 0x12#8 [1#8]).FencesFollowMarks ∧
    (ask loaded .sp2 0x12#8 [1#8]).Ready .sp2 ⟨7#8, 0x12#8, [1#8]⟩ ∧ SegId.ofNumber (1#8 : Byte).toNat = some .fs1 ∧
    ((loaded.fences.get .sp2).get .fs1).isPending = false ∧ loaded.buffer.get .fs1 = [] ∧ loaded.settle.get .fs1 = [] ∧
    (loaded.settings.port.get .sp2).notices = true :=
  ⟨wit_Safe.1.fences, ask_ready _ _ _ _ rfl rfl, by decide +kernel⟩

/-- Sixteen records, on outputs of FS1 but for the last. -/
def sixteen : List OverrideRecord :=
  (List.range 16).map fun i => { record9 with index := i, seg := .fs1, station := i / 2 + 1,
                                              value := if i % 2 = 0 then .fan 100 else .valve .toOpen }

def setFan : List Byte := [0x80#8, 0x38#8, 0x00#8, 0x00#8, 0x03#8, 0x84#8]

/-- No free index; a free one; a record of a PLANT port that SP3 may take; one of SP3's that SP0 may not. A buffer with no
OPEN entry of the station, its entry in flight among what it holds, and one with. -/
theorem wit_SetOverridePlaces : (ask alive .sp3 0x18#8 setFan).Ready .sp3 ⟨7#8, 0x18#8, setFan⟩ ∧
    bodySetOverride setFan = some { address := 0x8038#16, value := 0, hold := 900 } ∧
    alive.resolveOverride .sp3 0x8038#16 =
      .found { seg := .fs0, station := 3, target := .output .fan, direct := 0x8038 } ∧
    overrideValue .fan 0 = some (.fan 0) ∧ overrideValue .fan 1001 = some (.fan 1000) ∧
    ({ alive with overrides := sixteen } : State).override? .fs0 3 .fan = none ∧ freeIndex sixteen = none ∧
    freeIndex sixteen.dropLast = some 15 ∧
    ({ alive with overrides := [record9] } : State).override? .fs0 3 .fan = some record9 ∧
    (alive.cls .sp3 = .supervisor ∧ alive.cls record9.owner ≠ .supervisor) ∧
    mapped.resolveOverride .sp0 0x0108#16 =
      .found { seg := .fs0, station := 3, target := .output .fan, direct := 0x8038 } ∧
    ¬((PortId.sp3 : PortId) = .sp0 ∨ (mapped.cls .sp0 = .supervisor ∧ mapped.cls .sp3 ≠ .supervisor)) ∧
    mapped.resolveOverride .sp0 0x0201#16 = .refused .rights ∧ mapped.resolveOverride .sp0 0x010A#16 = .refused .noPoint ∧
    mapped.resolveOverride .sp3 0x0108#16 = .miss 0x0108#16 ∧
    mapped.resolveOverride .sp0 0x0107#16 =
      .found { seg := .fs0, station := 3, target := .point 7, direct := 0x8037 } ∧
    (mapped.resolveOverride .sp0 0x0109#16 =
      .found { seg := .fs0, station := 3, target := .output .valve, direct := 0x8039 } ∧ (2 : Int) ≠ 0 ∧ (2 : Int) ≠ 1) ∧
    (∀ x ∈ [{ openFan 5 150 with state := .inFlight (openFan 5 150).posted }, openFan 6 300], x.station = 5 →
      x.state ≠ .waiting) ∧ (openFan 5 300).station = 5 ∧ (openFan 5 300).state = .waiting ∧
    (∀ i, i < 16 → ∃ x ∈ sixteen, x.index = i) ∧
    ((∀ x ∈ sixteen.dropLast, x.index ≠ 15) ∧ ∀ j, j < 15 → ∃ x ∈ sixteen.dropLast, x.index = j) ∧
    (alive.answers .fs0 3 = true ∧ (withStation alive .fs0 3 fun st => { st with mode := .inLocal }).answers .fs0 3 = false) :=
  ⟨ask_ready _ _ _ _ rfl rfl, by decide +kernel⟩

theorem wit_ReleaseAndExpiryHandBack :
    (ask { alive with overrides := [record9] } .sp3 0x19#8 [0x80#8, 0x38#8]).Ready .sp3 ⟨7#8, 0x19#8, [0x80#8, 0x38#8]⟩ ∧
    (ask mapped .sp0 0x19#8 [1#8, 7#8]).Ready .sp0 ⟨7#8, 0x19#8, [1#8, 7#8]⟩ ∧
    body2 [0x80#8, 0x38#8] = some 0x8038#16 ∧
    alive.resolveOverride .sp3 0x8038#16 =
      .found { seg := .fs0, station := 3, target := .output .fan, direct := 0x8038 } ∧
    alive.override? .fs0 3 .fan = none ∧ alive.cls .sp3 = .supervisor ∧ mapped.cls .sp0 ≠ .supervisor ∧
    mapped.resolveOverride .sp0 0x0108#16 =
      .found { seg := .fs0, station := 3, target := .output .fan, direct := 0x8038 } ∧
    ({ mapped with overrides := [{ record9 with owner := .sp3 }] } : State).override? .fs0 3 .fan =
      some { record9 with owner := .sp3 } ∧
    [record9].find? (fun x => x.index == 9) = some record9 ∧ (alive.settings.port.get .sp0).notices = true ∧
    max alive.now 299999 < record9.deadline ∧ record9.deadline ≤ max alive.now 300000 ∧
    (∀ x ∈ [record9], x.index ≠ 8) ∧
    mapped.resolveOverride .sp0 0x0107#16 =
      .found { seg := .fs0, station := 3, target := .point 7, direct := 0x8037 } ∧
    mapped.resolveOverride .sp0 0x0201#16 = .refused .rights ∧ mapped.resolveOverride .sp0 0x010A#16 = .refused .noPoint ∧
    mapped.resolveOverride .sp3 0x0108#16 = .miss 0x0108#16 :=
  ⟨ask_ready _ _ _ _ rfl rfl, ask_ready _ _ _ _ rfl rfl, by decide +kernel⟩

/-! ### The access map -/

def mapBody (owner : Byte) (logical : Word) (size : Byte) : List Byte :=
  [owner] ++ be16 logical ++ [size, 0x80#8, 0x00#8, 3#8]

def mapOf (owner : Nat) (logical size : Nat) : MapBody :=
  { owner := owner, logical := logical, size := size, physical := 0x8000, readRight := true, overrideRight := true }

/-- Bank L full, with block size 4 in both banks. -/
def bankFull (n : Nat) : State :=
  { alive with
    settings := { alive.settings with blockHigh := 4 }
    accessMap := (List.range n).map fun i => { index := i, owner := none, logical := 4 * i, physical := 0x8000,
                                               readRight := true, overrideRight := true } }

/-- Every outcome of MAP's checks, with blocks that touch and blocks that overlap by one address. -/
theorem wit_MapPlaces : (ask mapped .sp3 0x20#8 (mapBody 0xFF#8 0x0204#16 4#8)).Ready .sp3
      ⟨7#8, 0x20#8, mapBody 0xFF#8 0x0204#16 4#8⟩ ∧
    bodyMap (mapBody 0xFF#8 0x0204#16 4#8) = some (mapOf 0xFF 0x0204 4) ∧ mapped.cls .sp3 = .supervisor ∧
    (ask mapped .sp0 0x20#8 (mapBody 0xFF#8 0x0204#16 4#8)).Ready .sp0
      ⟨7#8, 0x20#8, mapBody 0xFF#8 0x0204#16 4#8⟩ ∧ mapped.cls .sp0 ≠ .supervisor ∧
    bodyMap (mapBody 0#8 0x0002#16 4#8) = some (mapOf 0 2 4) ∧ 2 % 4 ≠ 0 ∧
    ownerOf 0xFF = some none ∧ 0x0204 % 4 = 0 ∧ 0x7FFC < 0x8000 ∧ 0x7FFC % 4 = 0 ∧ 0x8000 % 4 = 0 ∧
    (mapped.settings.blockLow ≠ 64 ∧ mapped.settings.blockHigh ≠ 64 ∧ mapped.settings.blockLow = 4) ∧
    (∃ e ∈ mapped.accessMap, 0x0200 < e.logical + mapped.sizeOf e ∧ e.logical < 0x0200 + 4) ∧
    (∀ e ∈ mapped.accessMap, ¬(0x0204 < e.logical + mapped.sizeOf e ∧ e.logical < 0x0204 + 4)) ∧
    ((∀ e ∈ mapped.accessMap, e.index ≠ 1) ∧ ∃ e ∈ mapped.accessMap, e.index = 0) ∧
    ((∀ e ∈ (bankFull 32).accessMap, e.index ≠ 32) ∧ (bankFull 32).settings.blockSize (bankOf 32) = 4) ∧
    (∀ j, j < 64 → ∃ e ∈ (bankFull 64).accessMap, e.index = j) ∧
    (∀ e ∈ (bankFull 64).accessMap, ¬(0x0204 < e.logical + (bankFull 64).sizeOf e ∧ e.logical < 0x0204 + 4)) :=
  ⟨ask_ready _ _ _ _ rfl rfl, by decide +kernel, by decide +kernel, ask_ready _ _ _ _ rfl rfl, by decide +kernel⟩

/-- A rights byte just past the two bits with a meaning, from a port of the class MAP needs and from one of another. -/
theorem wit_MapPlaces_rights :
    (ask mapped .sp3 0x20#8 [0#8, 0#8, 0#8, 4#8, 0x80#8, 0#8, 4#8]).Ready .sp3
      ⟨7#8, 0x20#8, [0#8, 0#8, 0#8, 4#8, 0x80#8, 0#8, 4#8]⟩ ∧
    (ask mapped .sp0 0x20#8 [0#8, 0#8, 0#8, 4#8, 0x80#8, 0#8, 4#8]).Ready .sp0
      ⟨7#8, 0x20#8, [0#8, 0#8, 0#8, 4#8, 0x80#8, 0#8, 4#8]⟩ ∧ 3 < (4#8 : Byte).toNat :=
  ⟨ask_ready _ _ _ _ rfl rfl, ask_ready _ _ _ _ rfl rfl, by decide⟩

theorem wit_UnmapFlushAndProbe : ((ask mapped .sp3 0x21#8 [0#8, 1#8, 0x0F#8]).Ready .sp3 ⟨7#8, 0x21#8, [0#8, 1#8, 0x0F#8]⟩ ∧
      mapped.cls .sp3 = .supervisor ∧ bodyOwned [0#8, 1#8, 0x0F#8] = some (0, 0x10F) ∧ ownerOf 0 = some (some .sp0) ∧
      (mapped.accessMap.find? (fun e => e.owner == some .sp0 && mapped.covers e 0x10F)).map MapEntry.index = some 32 ∧
      (∀ e ∈ mapped.accessMap, e.owner = some .sp0 → mapped.covers e 0x110 = false) ∧
      (mapped.match? (some .sp1) 0x203).map MapEntry.index = some 0 ∧ mapped.match? (some .sp1) 0x204 = none) ∧
    (ask mapped .sp3 0x23#8 [1#8, 2#8, 3#8]).Ready .sp3 ⟨7#8, 0x23#8, [1#8, 2#8, 3#8]⟩ ∧
    (ask mapped .sp3 0x22#8 [1#8]).Ready .sp3 ⟨7#8, 0x22#8, [1#8]⟩ ∧
    (ask mapped .sp3 0x24#8 [32#8]).Ready .sp3 ⟨7#8, 0x24#8, [32#8]⟩ ∧
    (ask mapped .sp0 0x24#8 [32#8]).Ready .sp0 ⟨7#8, 0x24#8, [32#8]⟩ ∧
    (ask mapped .sp3 0x21#8 [4#8, 1#8, 0x0F#8]).Ready .sp3 ⟨7#8, 0x21#8, [4#8, 1#8, 0x0F#8]⟩ ∧
    bodyOwned [4#8, 1#8, 0x0F#8] = some (4, 0x10F) ∧
    (ask mapped .sp3 0x22#8 [2#8]).Ready .sp3 ⟨7#8, 0x22#8, [2#8]⟩ ∧ 1 < (2#8 : Byte).toNat ∧
    (mapped.accessMap.find? (fun e => e.index == (32#8 : Byte).toNat)).isSome = true ∧ mapped.cls .sp0 ≠ .supervisor ∧
    ∀ e ∈ mapped.accessMap, e.index ≠ (33#8 : Byte).toNat :=
  ⟨⟨ask_ready _ _ _ _ rfl rfl, by decide +kernel⟩, ask_ready _ _ _ _ rfl rfl, ask_ready _ _ _ _ rfl rfl,
    ask_ready _ _ _ _ rfl rfl, ask_ready _ _ _ _ rfl rfl, ask_ready _ _ _ _ rfl rfl, by decide,
    ask_ready _ _ _ _ rfl rfl, by decide +kernel⟩

/-! ### Settings, saving, RESTART -/

theorem wit_MarkStaleMarks : (ask alive .sp3 0x28#8 [1#8]).Ready .sp3 ⟨7#8, 0x28#8, [1#8]⟩ ∧ alive.cls .sp3 = .supervisor ∧
    SegId.ofNumber (1#8 : Byte).toNat = some .fs1 ∧ SegId.ofNumber (2#8 : Byte).toNat = none ∧
    (ask alive .sp3 0x28#8 [2#8]).Ready .sp3 ⟨7#8, 0x28#8, [2#8]⟩ ∧
    (ask alive .sp0 0x28#8 [1#8]).Ready .sp0 ⟨7#8, 0x28#8, [1#8]⟩ ∧ alive.cls .sp0 ≠ .supervisor :=
  ⟨ask_ready _ _ _ _ rfl rfl, by decide, by decide, by decide, ask_ready _ _ _ _ rfl rfl, ask_ready _ _ _ _ rfl rfl,
    by decide⟩

/-- One item of every kind that WriteSettingApplies names, with a value accepted; with the loop's concentration, flow and
mast readings valid, and with none. -/
theorem wit_WriteSettingApplies : (ask alive .sp3 0x30#8 [0x21#8, 0#8, 0#8, 150#8]).Ready .sp3
      ⟨7#8, 0x30#8, [0x21#8, 0#8, 0#8, 150#8]⟩ ∧
    ((∀ g q, q < 2 → alive.validPoint g 11 q = none) ∧
      (withPoint alive .fs1 11 1 (goodPoint (-52) 1#16)).validPoint .fs1 11 1 = some (-52) ∧
      ∀ h r w, r < 2 → (withPoint alive .fs1 11 1 (goodPoint (-52) 1#16)).validPoint h 11 r = some w → -52 ≤ w) ∧
    bodyWriteSetting [0x21#8, 0#8, 0#8, 150#8] = some { item := 0x21, qualifier := 0, value := 150#16 } ∧
    alive.cls .sp3 = .supervisor ∧ Item.ofCode 0x21 0 = some .guardBand ∧ Item.ofCode 0x21 1 = none ∧
    ¬(alive.saving ≠ none ∨ alive.restartPending = true) ∧
    (({ alive with saving := some [] } : State).saving ≠ none ∧ ({ alive with restartPending := true } : State).restartPending = true) ∧
    alive.settings.accept .guardBand 151#16 = none ∧
    [(Item.guardBand, 150#16), (.kp .fs0, 255#16), (.notices .sp0, 0#16), (.rate .sp1, 4#16), (.fbFloor .fs0, 200#16),
      (.rotation .fs1, 0#16), (.guardCap .fs0, 1000#16), (.block .low, 64#16), (.designMin, 0#16), (.nominal .fs0, 600#16),
      (.minFlow .fs1, 0#16), (.freeze 12, signedWord (-600))].all
        (fun x => (alive.settings.accept x.1 x.2).isSome) = true ∧
    (∃ x ∈ (alive.fpb.get .fs0).units, x.frost = .guard) ∧
    (alive.validPoint .fs0 12 3 = none ∧ (withPoint alive .fs0 12 3 (goodPoint 372 1#16)).validPoint .fs0 12 3 = some 372 ∧
      (withPoint alive .fs0 12 2 (goodPoint 300 1#16)).validPoint .fs0 12 2 = some 300) ∧
    ((alive.fpb.get .fs0).units[7]?).map UnitFrost.addr = some 8 ∧
    [(Item.population .fs0, 0x19FE#16), (.mask .fs1, wordOf (alive.settings.seg.get .fs1).mask.toNat)].all (fun x =>
      alive.settings.accept x.1 x.2 == some alive.settings) = true := by
  refine ⟨ask_ready _ _ _ _ rfl rfl, ⟨?_, by decide +kernel, ?_⟩, by decide +kernel⟩
  · intro g q h
    match q, h with
    | 0, _ => cases g <;> decide +kernel
    | 1, _ => cases g <;> decide +kernel
  · intro g r w h e
    have hv : (withPoint alive .fs1 11 1 (goodPoint (-52) 1#16)).validPoint g 11 r = none ∨
        (withPoint alive .fs1 11 1 (goodPoint (-52) 1#16)).validPoint g 11 r = some (-52) := by
      match r, h with
      | 0, _ => cases g <;> decide +kernel
      | 1, _ => cases g <;> decide +kernel
    rcases hv with hv | hv <;> rw [hv] at e <;> cases e
    omega

/-- A fallback write while a clash stands: the merge is the same, and a CONFLICT that a supervisor has cleared is set again. -/
theorem wit_WriteSettingApplies_fallback :
    (let clashing := { threeRequests.recomputeMerge .fs0 with faults := 0#24 }
     let t := after (.writeSetting .sp3) (ask clashing .sp3 0x30#8 [0x12#8, 0#8, 0#8, 150#8])
     (clashing.held .fs0).length = 3 ∧ (clashing.merge.get .fs0).conflict = true ∧ t.merge = clashing.merge ∧
       t.hasFault .conflict = true) := by decide +kernel

/-- Two read-throughs of a segment with a WRITE in flight, of two ports whose READ POINT stands at the head. -/
def readingThrough (s : State) : State :=
  (ask (ask s .sp0 1#8 [0x80#8, 0x33#8, 1#8]) .sp1 1#8 [0x80#8, 0x38#8, 1#8]).modFsc .fs0 fun f => { f with
    readThroughs := [{ port := .sp0, station := 3, target := .point 3, address := 0x8033, arrived := 0 },
                     { port := .sp1, station := 3, target := .output .fan, address := 0x8038, arrived := 0 }] }

/-- A population, one of no address, and a mask, on a free segment and on one with a transaction in flight; and what stands
in its read-through queue. -/
theorem wit_WriteSettingRestartsSegment :
    ((ask flying .sp3 0x30#8 [8#8, 0#8, 0x10#8, 0x00#8]).Ready .sp3 ⟨7#8, 0x30#8, [8#8, 0#8, 0x10#8, 0x00#8]⟩ ∧
      bodyWriteSetting [8#8, 0#8, 0x10#8, 0x00#8] = some { item := 8, qualifier := 0, value := 0x1000#16 } ∧
      Item.ofCode 8 0 = some (.population .fs0) ∧ flying.cls .sp3 = .supervisor ∧ flying.saving = none ∧
      flying.restartPending = false ∧
      (flying.settings.accept (.population .fs0) 0x1000#16).map (fun new => new.population .fs0) = some [12] ∧
      (flying.settings.accept (.population .fs0) 0x1000#16).map (fun new => new.seg.get .fs0) ≠
        some (flying.settings.seg.get .fs0)) ∧
    (ask alive .sp3 0x30#8 [9#8, 1#8, 0x00#8, 0x02#8]).Ready .sp3 ⟨7#8, 0x30#8, [9#8, 1#8, 0x00#8, 0x02#8]⟩ ∧
    Item.ofCode 9 1 = some (.mask .fs1) ∧
    (alive.settings.accept (.mask .fs1) 2#16).map (fun new => new.seg.get .fs1) ≠ some (alive.settings.seg.get .fs1) ∧
    ((alive.settings.accept (.population .fs0) 0#16).map (fun new => new.population .fs0) = some [] ∧
      (alive.fsc.get .fs0).activity = .free ∧ (flying.fsc.get .fs0).activity ≠ .free) ∧
    (((readingThrough alive).fsc.get .fs0).readThroughs.filter (fun x => x.port == .sp0)).length = 1 ∧
    ((readingThrough alive).ports.get .sp0).queue.head? = some ⟨7#8, 1#8, [0x80#8, 0x33#8, 1#8]⟩ :=
  ⟨⟨ask_ready _ _ _ _ rfl rfl, by decide +kernel⟩, ask_ready _ _ _ _ rfl rfl, by decide +kernel⟩

/-- What a population write that drops the units, and one that adds unit 9, bring at the ends of the statement's clauses: with
no mast reading and with one of the other segment; a record's owner told; a fence ended; a unit kept and one created. -/
theorem wit_WriteSettingRestartsSegment_clauses :
    (let s := { alive.setFence .sp1 .fs0 (.pending false) with
       overrides := [record9]
       settings := alive.settings.setPort .sp0 fun x => { x with notices := true } }
     let t := after (.writeSetting .sp3) (ask s .sp3 0x30#8 [8#8, 0#8, 0x10#8, 0x00#8])
     (s.settings.port.get .sp0).notices = true ∧ record9.owner = .sp0 ∧ t.overrides = [] ∧ (t.fpb.get .fs0).units = [] ∧
       (t.fpb.get .fs0).bmax = 1000 ∧ t.ta = -400 ∧ t.hasFault .ambientLost = true ∧
       (t.alloc.get .fs0).commands.map StationCommands.addr = [12] ∧
       sent t .sp0 = some [0x28#8] ∧ (t.fences.get .sp1).get .fs0 = .incomplete) ∧
    (let s := withPoint (wishing.modFpb .fs0 fun f => { f with permitted := true, units := f.units.map fun u =>
       { u with iced := true, shortfall := 2 } }) .fs1 11 1 (goodPoint 20 1#16)
     let t := after (.writeSetting .sp3) (ask s .sp3 0x30#8 [8#8, 0#8, 0x1F#8, 0xFE#8])
     t.ta = 20 ∧ (t.fpb.get .fs0).cu = 350 ∧ (t.fpb.get .fs0).ma = 123 ∧ (t.fpb.get .fs0).permitted = true ∧
       [3, 9].map (fun a => (t.unit? .fs0 a).map fun u => (u.margin, u.frost, u.shortfall, u.iced)) =
         [some (123, .normal, 0, true), some (123, .normal, 0, false)] ∧
       (t.commands .fs0 3).fan = { allocator := some 420, posted := none, written := some 700 } ∧
       t.commands .fs0 9 = StationCommands.fresh 9) := by decide +kernel

theorem wit_SaveAndRestart : (ask alive .sp3 0x31#8 []).Ready .sp3 ⟨7#8, 0x31#8, []⟩ ∧
    (ask alive .sp3 0x32#8 []).Ready .sp3 ⟨7#8, 0x32#8, []⟩ ∧
    (ask { alive with saving := some [] } .sp3 0x32#8 []).Ready .sp3 ⟨7#8, 0x32#8, []⟩ ∧ alive.cls .sp3 = .supervisor ∧
    alive.saving = none ∧ alive.restartPending = false ∧ ({ alive with saving := some [1#8] } : State).saving = some [1#8] :=
  ⟨ask_ready _ _ _ _ rfl rfl, ask_ready _ _ _ _ rfl rfl, ask_ready _ _ _ _ rfl rfl, by decide +kernel⟩

/-! ### The transmitter -/

def ending (e : FrameEffect) : State :=
  running.modPort .sp3 fun x => { x with sending := some { sequence := 7#8, kind := 0xB2#8, body := [0#8], effect := e } }

def ending2 : State := (ending (.lineRate .sp0 .r9600)).modPort .sp0 fun x => { x with sending := some (ownFrame 0x71#8 []) }

theorem wit_TransmitterStartsNext : running.phase = .running ∧
    [FrameEffect.restart, .lineRate .sp3 .r9600, .lineRate .sp0 .r9600, .none].all (fun e =>
      ((ending e).ports.get .sp3).sending.map Frame.effect == some e) = true ∧
    ((ending (.lineRate .sp0 .r9600)).ports.get .sp0).sending = none ∧ (ending2.ports.get .sp0).sending ≠ none ∧
    ((ending .none).ports.get .sp3).newRate = none ∧
    (((ending .none).modPort .sp3 fun x => { x with newRate := some .r9600 }).ports.get .sp3).newRate = some .r9600 ∧
    ((running.modPort .sp0 fun x => { x with notices := 1#8, spacing := some 200 }).ports.get .sp0).spacing = some 200 := by
  decide +kernel

/-! ### Segments -/

/-- Some station answering, every station LOST in a pass that probes none, no station at all, and a pass still running. -/
theorem wit_PassTimerStartsPass : (goodPoint 10 41#16).stored = some { value := 10, stamp := 41#16 } ∧
    (goodPoint 10 41#16).quality = .good ∧ Point.fresh.quality = .none ∧
    (passDue.fsc.get .fs0).passTimer = some 1000 ∧ (passDue.fsc.get .fs0).passRunning = false ∧
    (∃ a ∈ passDue.settings.population .fs0, passDue.isLost .fs0 a = false) ∧
    ((passDue.modFsc .fs0 fun f => { f with passRunning := true }).fsc.get .fs0).passRunning = true ∧
    ((∀ a ∈ running.settings.population .fs0, running.isLost .fs0 a = true) ∧ (46#16 + 1#16 : Word).toNat % 10 ≠ 0 ∧
      ((running.modFsc .fs0 fun f => { f with passTimer := some 1000, passNumber := 46#16 }).fsc.get .fs0).passTimer =
        some 1000) ∧
    (extreme.population .fs0 = [] ∧ (49#16 + 1#16 : Word).toNat % 10 = 0) ∧ running.settings.population .fs0 ≠ [] ∧
    (after (.passTimerExpiry .fs0) (running.modFsc .fs0 fun f => { f with
      passTimer := some 1000, passNumber := 49#16 })).callOnSegment .fs0 = some (.identify 1) := by decide +kernel

/-- A pass that ends with no start due, and with one due that has a station to call and none. -/
theorem wit_PassTimerStartsPass_due :
    let due := fun (s : State) => s.modFsc .fs0 fun f => { f with startDue := true, passNumber := 46#16 }
    (alive.fsc.get .fs0).startDue = false ∧
    (((due alive).fsc.get .fs0).startDue = true ∧ ∃ a ∈ (due alive).settings.population .fs0, (due alive).isLost .fs0 a = false) ∧
    (((due running).fsc.get .fs0).startDue = true ∧
      (∀ a ∈ (due running).settings.population .fs0, (due running).isLost .fs0 a = true) ∧
      (((due running).fsc.get .fs0).passNumber + 1#16).toNat % 10 ≠ 0) := by decide +kernel

/-- Unit 3's scan READ in flight, with a FAN of 700 last written, two comparisons short of it, a FAN item of its own on the
settle list, and a read-through it serves. -/
def reading (item : Nat) : State :=
  let job := { scanOf 3 with serves := PortSet.single .sp0 }
  { ((readingThrough (busyWith wishing .fs0 (.read job) 1)).modUnit .fs0 3 fun u => { u with shortfall := 2 }) with
    settle := { s0 := [{ fanItem with station := 3, value := .fan item }], s1 := [] } }

/-- Whole answers of unit 3, the first with LOCAL, and of the loop and ambient stations, a short one with ready = 0, and one
that refuses; every check computed outside the model. -/
def wholeLocal : List Byte := [0x03#8, 0x03#8, 0x08#8, 0x00#8, 0x2D#8, 0x00#8, 0x3C#8, 0x01#8, 0xA3#8, 0x00#8, 0x00#8,
  0x02#8, 0xBC#8, 0x00#8, 0x08#8, 0x00#8, 0x01#8, 0x00#8, 0x00#8, 0xBE#8, 0xCC#8]

def wholeShut : List Byte := [0x03#8, 0x03#8, 0x08#8, 0x00#8, 0x2D#8, 0x00#8, 0x3C#8, 0x00#8, 0xC8#8, 0x00#8, 0x01#8,
  0x01#8, 0x2C#8, 0x00#8, 0x08#8, 0x00#8, 0x00#8, 0x00#8, 0x00#8, 0x01#8, 0x86#8]

def wholeLoop : List Byte := [0x0C#8, 0x03#8, 0x08#8, 0x00#8, 0x7B#8, 0x00#8, 0x3C#8, 0x01#8, 0xF4#8, 0x01#8, 0x90#8,
  0x00#8, 0x1E#8, 0x00#8, 0x00#8, 0x00#8, 0x00#8, 0x00#8, 0x00#8, 0x02#8, 0x0E#8]

def wholeAmbient : List Byte := [0x0B#8, 0x03#8, 0x08#8, 0xFF#8, 0xCE#8, 0xFF#8, 0xCD#8] ++
  List.replicate 12 0#8 ++ [0xD9#8, 0x25#8]

def shortAnswer : List Byte := [0x03#8, 0x01#8, 0x04#8, 0x00#8, 0x2D#8, 0x00#8, 0x3C#8, 0x01#8, 0x9A#8, 0x00#8, 0x00#8,
  0x95#8, 0x2A#8]

/-- What some characters deliver as the answer to a READ from point 0. -/
def delivers (a : Nat) (chars : List Byte) : Option (List Int) := (hear a chars).bind (readContent 0)

theorem wit_SegmentCommandsFrame :
    Instr.responseTaken .fs0 [] ∈ segmentCommands .fs0 [] true [] 1 .fan 9 ∧
    (∃ t, exec (.responseTaken .fs0 []) flying = .next t) ∧
    (flying.fsc.get .fs0).activity = .busy { job := .write 5, retries := 1, ends := 4 } ∧
    (Job.write 5).station? ≠ some 3 ∧ flying.portWaits .sp0 = false ∧ (flying.ports.get .sp0).newRate = none :=
  ⟨by decide, ⟨_, rfl⟩, by decide +kernel, by decide, by decide +kernel, by decide +kernel⟩

theorem wit_ReadResponseStores : ((reading 300).fsc.get .fs0).activity =
      .busy { job := .read { scanOf 3 with serves := PortSet.single .sp0 }, retries := 1, ends := 4 } ∧
    ((reading 300).fsc.get .fs0).startDue = false ∧
    (((reading 300).modFsc .fs0 fun f => { f with startDue := true }).fsc.get .fs0).startDue = true ∧
    ((reading 300).station? .fs0 3).map (fun st => (st.points.length, st.mode)) = some (8, .auto) ∧
    delivers 3 wholeLocal = some [45, 60, 419, 0, 700, 8, 1, 0] ∧
    delivers 3 wholeShut = some [45, 60, 200, 1, 300, 8, 0, 0] ∧
    delivers 12 wholeLoop = some [123, 60, 500, 400, 30, 0, 0, 0] ∧
    delivers 11 wholeAmbient = some [-50, -51, 0, 0, 0, 0, 0, 0] ∧ delivers 3 shortAnswer = some [45, 60, 410, 0] ∧
    readContent 3 { accept := true, ready := false, data := [1#8, 0x80#8, 0#8] } = some [-32768] ∧
    readContent 7 { accept := false, ready := false, data := [0#8] } = some [] := by decide +kernel

/-- What the answers of wit_ReadResponseStores bring, at the ends of its clauses: LOCAL, with no shortfall then; a shortfall
that sets the mark; a FAN item that settles at exactly 100 below its value, and one that does not; the read-through served
and answered; a continuation owed; the loop's and the ambient station's values; and the due pass started with the event. -/
theorem wit_ReadResponseStores_clauses :
    (let t := after (.responseTaken .fs0 wholeLocal) (reading 300)
     (t.station? .fs0 3).map Station.mode = some .inLocal ∧ (t.unit? .fs0 3).map UnitFrost.shortfall = some 0 ∧
       (t.settle.get .fs0).length = 1) ∧
    (let t := after (.responseTaken .fs0 wholeShut) (reading 300)
     (t.unit? .fs0 3).map (fun u => (u.shortfall, u.iced)) = some (3, true) ∧ t.settle.get .fs0 = [] ∧
       ((t.fsc.get .fs0).readThroughs.map ReadThrough.port = [.sp1]) ∧
       sent t .sp0 = some [0x00#8, 0x80#8, 0x33#8, 0x00#8, 0x01#8, 0x80#8, 0x00#8, 0x00#8]) ∧
    (after (.responseTaken .fs0 wholeShut) (reading 301)).settle.get .fs0 ≠ [] ∧
    ((after (.responseTaken .fs0 shortAnswer) (reading 300)).fsc.get .fs0).owed.map ReadJob.next = some 4 ∧
    ((after (.responseTaken .fs0 wholeLoop) (busyWith alive .fs0 (.read (scanOf 12)) 1)).fpb.get .fs0).cu = 400 ∧
    (after (.responseTaken .fs0 wholeAmbient) (busyWith alive .fs0 (.read (scanOf 11)) 1)).ta = -51 ∧
    ((after (.responseTaken .fs0 wholeLoop) ((busyWith alive .fs0 (.read (scanOf 12)) 1).modFsc .fs0 fun f => { f with
      startDue := true, passRunning := true })).fsc.get .fs0).passNumber = 1#16 := by decide +kernel

/-- A PENDING fence whose last mark settles, its failure mark clear and set; one that keeps a mark in the buffer; and the
scan's last READ with no start due. -/
theorem wit_ReadResponseStores_fences :
    (let fenced := fun failed es => { reading 300 with
       buffer := { s0 := es, s1 := [] }
       fences := stuck.fences.set { s0 := .pending failed, s1 := .none } .sp0 }
     let read := fun failed es => after (.responseTaken .fs0 wholeShut) (fenced failed es)
     ((read false []).fences.get .sp0).get .fs0 = .settled ∧ ((read true []).fences.get .sp0).get .fs0 = .incomplete ∧
       sent (read true []) .sp1 = some [0x31#8] ∧
       ((read true [{ openFan 6 300 with marks := PortSet.single .sp0 }]).fences.get .sp0).get .fs0 = .pending true) ∧
    (let t := after (.responseTaken .fs0 wholeLoop) ((busyWith alive .fs0 (.read (scanOf 12)) 1).modFsc .fs0 fun f =>
       { f with passRunning := true })
     (t.fsc.get .fs0).passRunning = false ∧ (t.fsc.get .fs0).passNumber = 0#16) := by decide +kernel

/-- R3's table at the ends of its ranges. -/
theorem wit_ReadResponseStores_ranges :
    [-601, -600, 800, 801].map (bringInto .ambient 1) = [-600, -600, 800, 800] ∧
    [-1, 0, 1000, 1001].map (bringInto .loop 5) = [0, 0, 1000, 1000] ∧
    [-1, 600, 601].map (bringInto .loop 3) = [0, 600, 600] ∧ [-1, 8, 9].map (bringInto .unit 5) = [0, 8, 8] ∧
    [-1, 0, 32767].map (bringInto .ambient 3) = [0, 0, 32767] ∧ [-1, 0, 3, 4].map (bringInto .unit 3) = [3, 0, 3, 3] ∧
    [-1, 0, 1, 2].map (bringInto .ambient 5) = [1, 0, 1, 1] ∧ [0, 1, 2].map (bringInto .loop 6) = [0, 1, 1] ∧
    [7, 8, -1].map (bringInto .unit 7) = [7, 0, 7] := by decide

/-- The attempt before the last and the last one of each kind of call; a station with something left and one with nothing;
no newer entry behind the WRITE's, and one; an answer that is none; and the window of an abandoned attempt. -/
theorem wit_ResponseWindowEnds : ((busyWith alive .fs0 (.read (scanOf 3)) 1).fsc.get .fs0).activity =
      .busy { job := .read (scanOf 3), retries := 1, ends := 4 } ∧
    (flying.fsc.get .fs0).activity = .busy { job := .write 5, retries := 1, ends := 4 } ∧
    [Job.read (scanOf 3), .write 5, .discovery 12, .discovery 11, .probe 12, .probe 11].all (fun j =>
      ((busyWith flying .fs0 j 0).fsc.get .fs0).activity == .busy { job := j, retries := 0, ends := 4 }) = true ∧
    flying.buffer.get .fs0 = { openFan 5 150 with state := .inFlight (openFan 5 150).posted } :: [] ∧
    (∀ y ∈ ([] : List Entry), y.station = 5 → y.state ≠ .waiting) ∧
    (∀ y ∈ [openFan 6 300], y.station = 5 → y.state ≠ .waiting) ∧ (openFan 5 300).station = 5 ∧
    (openFan 5 300).state = .waiting ∧
    ((withStation flying .fs0 5 fun st => { st with counter := 3 }).station? .fs0 5).map Station.counter = some 3 ∧
    ((withStation flying .fs0 5 fun st => { st with counter := 2 }).station? .fs0 5).map Station.counter = some 2 ∧
    ((withStation flying .fs0 5 fun st => { st with counter := 1 }).station? .fs0 5).map Station.counter = some 1 ∧
    ((alive.settings.population .fs0).find? (fun b => decide (11 < b)) = some 12 ∧
      (alive.settings.population .fs0).find? (fun b => decide (12 < b)) = none) ∧
    hear 3 [0x03#8] = none ∧ delivers 12 wholeLocal = none ∧
    ((withActivity alive .fs1 (.quiet 9)).fsc.get .fs1).activity = .quiet 9 ∧
    alive.settings.population .fs1 = 1 :: [2, 3, 4, 5, 6, 7, 8, 11, 12] ∧ alive.phase = .running := by decide +kernel

/-- The read-throughs that leave by a failed READ and by their station's entry into LOST: the point the READ had delivered is
answered and the output stays; or both are answered, the output without its discarded entry and last posted value. -/
theorem wit_ResponseWindowEnds_clauses :
    (let job := { scanOf 3 with next := 4, serves := { p0 := true, p1 := true, p2 := false, p3 := false } }
     let s := fun counter => { withStation (readingThrough (busyWith (wishing.modCommands .fs0 3 fun c =>
         c.recordPost { fan := some 420, valve := none, bypass := none }) .fs0 (.read job) 0)) .fs0 3
         fun st => { st with counter := counter } with buffer := { s0 := [openFan 3 420], s1 := [] } }
     let failed := after (.responseWindowExpiry .fs0) (s 3)
     let lost := after (.responseWindowExpiry .fs0) (s 2)
     (((s 3).fsc.get .fs0).readThroughs.filter (fun y => y.port == .sp1)).length = 1 ∧
       sent failed .sp0 = some [0x00#8, 0x80#8, 0x33#8, 0xFF#8, 0xFF#8, 0x03#8, 0xFF#8, 0xFF#8] ∧ sent failed .sp1 = none ∧
       sent lost .sp0 = sent failed .sp0 ∧
       (sent lost .sp1).map (List.take 12) = some [0x00#8, 0x80#8, 0x38#8, 0x00#8, 0x01#8, 0xA4#8, 0xFF#8, 0xFF#8, 0x02#8,
         0xBC#8, 0xFF#8, 0xFF#8]) := by decide +kernel

/-- A station that enters LOST with a discarded entry that bears a mark and an origin: its fence ends, and the owner is told;
with a mark left elsewhere the fence stays PENDING, failed. -/
theorem wit_ResponseWindowEnds_lost :
    (let s := fun es => { (withStation (busyWith alive .fs0 (.read (scanOf 3)) 0) .fs0 3
         fun st => { st with counter := 2 }) with
       buffer := { s0 := { openFan 3 420 with marks := PortSet.single .sp0, origins := PortSet.single .sp2 } :: es, s1 := [] }
       fences := stuck.fences.set { s0 := .none, s1 := .none } .sp1 }
     let lost := fun es => after (.responseWindowExpiry .fs0) (s es)
     ((lost []).fences.get .sp0).get .fs0 = .incomplete ∧ (lost []).buffer.get .fs0 = [] ∧
       (sent (lost []) .sp0, sent (lost []) .sp2) = (some [0x33#8], some [0x2B#8]) ∧
       ((lost [{ openFan 6 300 with marks := PortSet.single .sp0 }]).fences.get .sp0).get .fs0 = .pending true) := by
  decide +kernel

/-- Fourteen items of other outputs, the oldest with a mark whose fence is PENDING. -/
def fourteen : List SettleItem :=
  (List.range 14).map fun i => { fanItem with
    station := i / 2 + 6, value := if i % 2 = 0 then .fan 100 else .valve .toOpen
    marks := if i = 0 then PortSet.single .sp0 else PortSet.empty }

/-- A WRITE of both outputs of unit 5 in flight. -/
def flyingBoth (items : List SettleItem) : State :=
  let sent : Fields := { fan := some 150, valve := some .toOpen, bypass := none }
  { flying with
    buffer := { s0 := [{ openFan 5 150 with posted := sent, state := .inFlight sent }], s1 := [] }
    settle := { s0 := items, s1 := [] }
    fences := stuck.fences }

/-- Both answers to the WRITE in flight, over an empty settle list; over one that keeps 13 items and one that keeps 14, where
the two that join make 15 and 16; and over one with an item of the output written, whose mark passes on. -/
theorem wit_WriteAnswered : (flying.fsc.get .fs0).activity = .busy { job := .write 5, retries := 1, ends := 4 } ∧
    flying.buffer.get .fs0 = { openFan 5 150 with state := .inFlight (openFan 5 150).posted } :: [] ∧
    hear 5 [5#8, 3#8, 0xD2#8, 0x99#8] = some { accept := true, ready := true, data := [] } ∧
    hear 5 [5#8, 2#8, 0xC2#8, 0xB8#8] = some { accept := false, ready := true, data := [] } ∧
    (openFan 5 150).posted.get? .fan = some (.fan 150) ∧ (kindOf 5).hasOutput .fan = true ∧
    flying.commands? .fs0 5 ≠ none ∧
    (let answered := fun items => after (.responseTaken .fs0 [5#8, 3#8, 0xD2#8, 0x99#8]) (flyingBoth items)
     ((answered (fourteen.drop 1)).settle.get .fs0).length = 15 ∧ (answered (fourteen.drop 1)).faults = 0#24 ∧
     ((answered fourteen).settle.get .fs0).length = 15 ∧ (answered fourteen).hasFault .settleTimeout = true ∧
     ((answered fourteen).fences.get .sp0).get .fs0 = .incomplete ∧
     ((answered [{ fanItem with station := 5 }]).settle.get .fs0).map (fun i => (i.value, i.marks.get .sp1)) =
       [(.fan 150, true), (.valve .toOpen, false)]) ∧
    ((flyingBoth fourteen).fences.get .sp0).get .fs0 = .pending false := by decide +kernel

/-- A running part with a pass running on FS0 and the scan at its first station, and one thing more at each place of the
order. -/
def freeWith (f : Fsc → Fsc) : State := alive.modFsc .fs0 fun x => f { x with passRunning := true, scanPosition := 1 }

theorem wit_IdentifyAnswered : ((busyWith running .fs0 (.discovery 1) 2).fsc.get .fs0).activity =
      .busy { job := .discovery 1, retries := 2, ends := 4 } ∧
    (running.station? .fs0 1).map Station.counter = some 0 ∧
    hear 1 [0x01#8, 0x03#8, 0x01#8, 0xBE#8, 0xDE#8] = some { accept := true, ready := true, data := [1#8] } ∧
    hear 1 [0x01#8, 0x03#8, 0x02#8, 0x8E#8, 0xBD#8] = some { accept := true, ready := true, data := [2#8] } ∧
    ((busyWith running .fs0 (.probe 1) 0).fsc.get .fs0).activity = .busy { job := .probe 1, retries := 0, ends := 4 } ∧
    (kindOf 1).code = 1#8 ∧ (running.settings.population .fs0).find? (fun x => decide (1 < x)) = some 2 := by
  decide +kernel

theorem wit_ReadyPauseEndsInArbitration : ((withActivity alive .fs0 (.pause 10)).fsc.get .fs0).activity = .pause 10 ∧
    alive.phase = .running ∧ alive.ImageFollowsPopulation ∧ (alive.fsc.get .fs0).activity = .free ∧
    ((alive.modFsc .fs0 fun f => { f with activity := .pause 10, owed := some (scanOf 4) }).fsc.get .fs0).owed =
      some (scanOf 4) ∧
    (alive.fsc.get .fs0).owed = none ∧ (alive.fsc.get .fs0).passRunning = false ∧
    (∀ st ∈ alive.image.get .fs0, st.attention = false) ∧ alive.buffer.get .fs0 = [] ∧
    (alive.fsc.get .fs0).readThroughs = [] ∧
    (∀ a ∈ alive.settings.population .fs0, ¬13 ≤ a) := by
  refine ⟨by decide +kernel, rfl, ?_, by decide +kernel⟩
  intro g
  cases g <;> decide +kernel

/-- What is called at each place, with everything that comes after it there too: at the starvation guard's count and one
below it, with the poll armed and not, attention pending and not, the settle list one below its room and full; the scan of a
station that answers and of one that is LOST; and a pass with none left. -/
theorem wit_ReadyPauseEndsInArbitration_places :
    (let all := fun n (s : State) => (((withStation s .fs0 4 fun st => { st with attention := true }).modFsc .fs0 fun f =>
       { f with starvation := n, pollArmed := true, lineAsserted := true }).arbitrate .fs0).callOnSegment .fs0
     let called := fun (s : State) => (s.arbitrate .fs0).callOnSegment .fs0
     let waiting := fun items (s : State) => ({ s with
       buffer := { s0 := [openFan 5 150], s1 := [] }, settle := { s0 := items, s1 := [] } } : State)
     all 8 (freeWith id) = some (.read 1 0) ∧ all 8 alive = some .poll ∧ all 7 (freeWith id) = some .poll ∧
     called (withStation (waiting [] (freeWith id)) .fs0 4 fun st => { st with attention := true }) = some (.read 4 0) ∧
     called (waiting fourteen (readingThrough (freeWith id))) =
       some (.write 5 { fan := some 150, valve := none, bypass := none }) ∧
     called (waiting (fanItem :: fourteen) (readingThrough (freeWith id))) = some (.read 3 3) ∧
     called (freeWith fun f => { f with passNumber := 50#16 }) = some (.read 1 0) ∧
     called (withStation (freeWith fun f => { f with passNumber := 50#16 }) .fs0 1 fun st => { st with counter := 0 }) =
       some (.identify 1) ∧
     called (withStation (freeWith fun f => { f with passNumber := 51#16 }) .fs0 1 fun st => { st with counter := 0 }) =
       some (.read 2 0) ∧
     ((freeWith fun f => { f with scanPosition := 13 }).arbitrate .fs0).fsc.get .fs0 =
       { (freeWith fun f => { f with scanPosition := 13 }).fsc.get .fs0 with passRunning := false }) := by decide +kernel

/-- R11: a station that the probe of the running pass has brought back gets neither event READ nor read-through, and what
stands behind it at the same place goes first; once the pass has ended it gets both. -/
theorem wit_ReadyPauseEndsInArbitration_withheld :
    (let called := fun (s : State) => (s.arbitrate .fs0).callOnSegment .fs0
     let pass := fun as => freeWith fun f => { f with scanPosition := 5, revived := as }
     let ended := freeWith fun f => { f with scanPosition := 13, revived := [3, 4] }
     let pending := fun (s : State) => withStation s .fs0 4 fun st => { st with attention := true }
     let behind := fun (s : State) => (readingThrough s).modFsc .fs0 fun f => { f with
       readThroughs := f.readThroughs ++ [{ port := .sp2, station := 6, target := .point 2, address := 0x8062, arrived := 0 }] }
     called (pending (pass [3])) = some (.read 4 0) ∧ called (pending (pass [3, 4])) = some (.read 5 0) ∧
       called (withStation (pending (pass [3, 4])) .fs0 6 fun st => { st with attention := true }) = some (.read 6 0) ∧
       called (readingThrough (pass [4])) = some (.read 3 3) ∧ called (readingThrough (pass [3])) = some (.read 5 0) ∧
       called (behind (pass [3])) = some (.read 6 2) ∧
       called (pending ended) = some (.read 4 0) ∧ called (readingThrough ended) = some (.read 3 3)) := by decide +kernel

/-- R11: a probe that brings unit 1 back in a pass leaves it unread in that pass. -/
theorem wit_IdentifyAnswered_revived :
    (let t := after (.responseTaken .fs0 [0x01#8, 0x03#8, 0x01#8, 0xBE#8, 0xDE#8])
       (busyWith (withStation (freeWith id) .fs0 1 fun st => { st with counter := 0 }) .fs0 (.probe 1) 0)
     (t.fsc.get .fs0).revived = [1] ∧ (t.station? .fs0 1).map Station.counter = some 4 ∧ t.mayRead .fs0 1 = false ∧
       t.callOnSegment .fs0 = some (.read 2 0)) := by decide +kernel

theorem wit_AttentionPolled : alive.phase = .running ∧ (alive.fsc.get .fs0).activity = .free ∧
    (alive.fsc.get .fs0).owed = none ∧ alive.guardActs .fs0 = false ∧ (alive.fsc.get .fs0).lineAsserted = false ∧
    ((busyWith alive .fs0 .poll 0).fsc.get .fs0).activity = .busy { job := .poll, retries := 0, ends := 4 } := by
  decide +kernel

theorem wit_SettleDeadlineFails : loaded.SettleListsBounded ∧ loaded.FencesFollowMarks ∧
    fanItem ∈ loaded.settle.get .fs0 ∧ fanItem.station = 6 ∧ fanItem.value.output = .fan ∧
    fanItem.marks.get .sp0 = true ∧ fanItem.marks.get .sp2 = false ∧
    max loaded.now 120899 < fanItem.deadline ∧ fanItem.deadline ≤ max loaded.now 120900 ∧
    (∀ i ∈ loaded.settle.get .fs0, i.station = 6 → i.value.output ≠ .valve) :=
  ⟨wit_Safe.1.settle, wit_Safe.1.fences, by decide +kernel⟩

theorem wit_IcingAndRotationExpire : iced.icingTimer = some 1800000 ∧
    (∃ x ∈ (iced.fpb.get .fs1).units, x.iced = true) ∧ (∀ x ∈ (iced.fpb.get .fs0).units, x.iced = false) ∧
    ((running.modAlloc .fs0 fun al => { al with rotation := some 5 }).alloc.get .fs0).rotation = some 5 := by decide +kernel

/-! ### Arithmetic -/

theorem wit_SendFilterRule : (openFan 5 420).posted.fan = some 420 ∧
    (alive.sendFilter .fs0 5 (openFan 5 420).posted).fan = some 300 ∧
    (kindOf record9.station).hasOutput record9.value.output = true ∧
    (kindOf 5 = .unit ∧ (alive.unit? .fs0 5).isSome = true ∧ kindOf 12 = .loop) ∧
    ({ alive with overrides := [record9] } : State).overrideStatus record9 = .limited ∧
    ((alive.modUnit .fs0 3 fun u => { u with iced := true }).overrideStatus record9) = .suppressed := by decide +kernel

theorem wit_FreezeArithmetic : defaultFreezeTable.length = 13 ∧ (defaultFreezeTable.Pairwise fun x y => y ≤ x) ∧
    599 < 600 ∧ (599 ≤ 600 ∧ 600 ≤ 600) ∧ [30, 29, 0, -1].map (frostNext .normal) = [.normal, .guard, .guard, .protect] ∧
    [50, 49, 0, -1].map (frostNext .guard) = [.normal, .guard, .guard, .protect] ∧
    [50, 20, 19, -1].map (frostNext .protect) = [.guard, .guard, .protect, .protect] := by decide +kernel

/-- The demand at both ends of each clause of the ladder. -/
theorem wit_AllocatorArithmetic : (0 ≤ 1000 ∧ 199 < 200 ∧ 200 ≤ 200 ∧ 599 < 600 ∧ 600 ≤ 600 ∧ 1000 ≤ 1000) ∧
    (2 * (64 * roundBy64 (-32) - -32)).natAbs = 64 ∧ 0 ≤ 0 ∧ 10 ≤ 10 ∧ 1 ≤ 1 ∧
    (400 * 4 < (8 - 2) * (437 - 200) + 400 ∧ (8 - 2) * (437 - 200) ≤ 400 * 4) ∧
    (4 * 296 ≤ (437 - 200) * 5 ∧ (437 - 200) * 5 < 4 * 296 + 4) := by decide

/-- A warm-up end of pass with an invalid supply, and a later one with a valid supply whose run posts, with a WAITING record
of a station that may be posted to. -/
theorem wit_FullRunServes : alive.OrdersComplete ∧
    (alive.alloc.get .fs0).commands.map StationCommands.addr = outputStations (alive.settings.population .fs0) ∧
    3 ∈ alive.eligible .fs0 ∧ (alive.unit? .fs0 3).map UnitFrost.frost = some .guard ∧
    alive.validPoint .fs0 3 3 ≠ some 1 ∧ 12 ∈ alive.settings.population .fs0 ∧ 11 ∉ alive.eligible .fs0 ∧
    ((alive.alloc.get .fs0).passes = 0 ∧ alive.validPoint .fs0 12 0 = none) ∧
    (let s := (withPoint { alive with overrides := [{ record9 with delivery := .waiting }] } .fs0 12 0
       (goodPoint 230 1#16)).modAlloc .fs0 fun al => { al with passes := 1 }
     s.validPoint .fs0 12 0 = some 230 ∧ s.answers .fs0 3 = true ∧ (s.alloc.get .fs0).passes ≠ 0 ∧
     ((s.closePass .fs0).buffer.get .fs0).length = 9) := by
  refine ⟨?_, by decide +kernel⟩
  intro l
  cases l <;> decide +kernel

/-- Of eight eligible units in NORMAL a demand of 437 asks for six: the first six of the service order, and with it units held
by GUARD with a valve not CLOSED (R100). -/
theorem wit_FullRunServes_clauses :
    (let s := (alive.modFpb .fs0 fun f => { f with permitted := true, units := f.units.map fun u =>
       { u with frost := if u.addr = 1 then .guard else .normal } }).modAlloc .fs0 fun al => { al with
         demand := 437, order := [2, 3, 4, 5, 6, 7, 8, 1] }
     let t := s.fullStages .fs0
     ((t.alloc.get .fs0).lastRun.map LastRun.k = some 6) ∧
     [1, 2, 7, 8].map (fun a => (t.commands .fs0 a).valve.allocator) = [some .toOpen, some .toOpen, some .toOpen, some .toClose]) := by
  decide +kernel

end Sys2Proof.Tests
end

section
/-! MARK STALE (R7): what the command does to a ready port's head telegram, case by case, and obligation O42. -/

namespace Sys2Proof.Machine

/-- A body of one byte passes the port's own check and is read as that byte's value. -/
@[simp] theorem body1_singleton (b : Byte) : body1 [b] = some b.toNat := rfl

/-- MARK_STALE on a ready port carries out the MARK STALE telegram, and then the idle transmitters start. -/
theorem exec_markStale_ready {s : State} {p : PortId} {t : Telegram} (h : s.Ready p t) (hk : t.kind = 0x28#8) :
    exec (.markStale p) s = .next (s.markStale p t).kickPorts := by
  change Host.Outcome.next (s.execTelegram p 0x28#8 fun t s => s.markStale p t) = _
  rw [State.execTelegram_ready h hk]

section
variable {s : State} {p : PortId} {t : Telegram} {code : Nat}

theorem State.markStale_rights (hb : body1 t.body = some code) (hc : s.cls p ≠ .supervisor) :
    s.markStale p t = s.refuse p .rights := by
  simp [State.markStale, hb, hc]

theorem State.markStale_malformed (hb : body1 t.body = some code) (hc : s.cls p = .supervisor)
    (hg : SegId.ofNumber code = none) : s.markStale p t = s.refuse p .malformed := by
  simp [State.markStale, hb, hc, hg]

theorem State.markStale_done {g : SegId} (hb : body1 t.body = some code) (hc : s.cls p = .supervisor)
    (hg : SegId.ofNumber code = some g) :
    s.markStale p t = (s.modImage g fun sts => sts.map Station.stale).reply p [doneByte] := by
  simp [State.markStale, hb, hc, hg]

end

/-- A change of the image alone, answered: the image is the changed one, the port has answered, and nothing else differs. -/
theorem State.modImage_reply_kickPorts {s : State} (h : s.phase = .running) (g : SegId)
    (f : List Station → List Station) (p : PortId) (body : List Byte) :
    ((s.modImage g f).reply p body).kickPorts =
      { s with image := s.image.modify g f, ports := s.portsAnswering p body } := by
  rw [State.reply_kickPorts (by simpa using h)]
  rfl

/-- Settles O42: the class is checked first, then the segment number; only a SUPERVISOR's known segment changes the image. -/
theorem markStaleMarks : Obligations.MarkStaleMarks := by
  intro s p t b hready hkind hbody
  have hrun : s.phase = .running := hready.1
  have hcode : body1 t.body = some b.toNat := by rw [hbody, body1_singleton]
  rw [exec_markStale_ready hready hkind]
  refine ⟨fun hcls => ?rights, fun hcls g hg => ?done, fun hcls hg => ?malformed⟩
  case rights => rw [State.markStale_rights hcode hcls, State.refuse_kickPorts hrun]; rfl
  case done => rw [State.markStale_done hcode hcls hg, State.modImage_reply_kickPorts hrun]; rfl
  case malformed => rw [State.markStale_malformed hcode hcls hg, State.refuse_kickPorts hrun]; rfl

end Sys2Proof.Machine
end

section
/-! POST REQUEST (R78 to R80): how a request is brought into range, what recomputing a loop's merge does to the state, and
obligation O34. -/

namespace Sys2Proof.Machine

/-! ### Setting a fault, read off the fault summary -/

theorem FaultFlag.bit_lt (f : FaultFlag) : f.bit < 24 := by
  cases f with
  | passOverrun g => cases g <;> decide
  | supplyLost l => cases l <;> decide
  | queueOverrun p => cases p <;> decide
  | frameError p => cases p <;> decide
  | _ => decide

theorem FaultFlag.mask_bit (f : FaultFlag) : f.mask.getLsbD f.bit = true := by
  rw [FaultFlag.mask, BitVec.getLsbD_ofNat, Nat.testBit_two_pow]
  simp [f.bit_lt]

/-- A flag is set exactly when setting it leaves the fault summary as it is. -/
theorem State.hasFault_iff_faults_or_mask (s : State) (f : FaultFlag) :
    s.hasFault f = true ↔ s.faults ||| f.mask = s.faults := by
  constructor
  · intro h
    rw [← State.setFault_faults, State.setFault, if_pos h]
  · intro h
    rw [State.hasFault, ← h, BitVec.getLsbD_or, f.mask_bit, Bool.or_true]

/-- The FAULT bit goes out exactly when the fault summary has changed (R159). -/
theorem State.setFaultIf_noticed {s : State} {cause : Bool} {f : FaultFlag} {faults : BitVec 24}
    (hfaults : faults = if cause = true then s.faults ||| f.mask else s.faults) :
    s.setFaultIf cause f =
      { s with faults := faults, ports := s.noticed fun _ => if faults = s.faults then 0#8 else 0x20#8 } := by
  subst hfaults
  cases cause with
  | false => simp [State.setFaultIf]
  | true => simp [State.setFaultIf, State.setFault_noticed, State.hasFault_iff_faults_or_mask]

/-! ### Recomputing a merge -/

/-- Recomputing a loop's merge stores the merge of its HELD requests and sets CONFLICT at a clash, with the MERGE bit of a
changed merge and the FAULT bit of a changed fault summary; nothing else changes (R84 to R86). -/
theorem State.recomputeMerge_eq {s : State} {l : LoopId} {m : Merge} {faults : BitVec 24}
    (hm : m = mergeOf (s.settings.loop.get l) (s.held l))
    (hfaults : faults = if m.conflict = true then s.faults ||| FaultFlag.conflict.mask else s.faults) :
    s.recomputeMerge l = { s with
      merge := s.merge.set m l, faults := faults
      ports := s.noticed fun _ =>
        (if m = s.merge.get l then 0#8 else 0x04#8) ||| (if faults = s.faults then 0#8 else 0x20#8) } := by
  have hbits : (fun _ : PortId => if (m != s.merge.get l) = true then NoticeBit.merge.mask else 0#8) =
      fun _ => if m = s.merge.get l then 0#8 else 0x04#8 := by
    by_cases h : m = s.merge.get l <;> simp [h, NoticeBit.mask]
  calc s.recomputeMerge l
    _ = State.setFaultIf { s with
          merge := s.merge.set m l
          ports := s.noticed fun _ => if m = s.merge.get l then 0#8 else 0x04#8 } m.conflict .conflict := by
        rw [State.recomputeMerge, ← hm, State.notifyIf_eq, hbits]
        rfl
    _ = _ := by
        rw [State.setFaultIf_noticed (faults := faults) (by exact hfaults), ← State.noticed_noticed]
        rfl

/-! ### Answering after notices -/

/-- A port that is given notices and then forms a reply has answered, whatever else has changed. -/
theorem State.Ready.answered_of_noticed {s u : State} {p : PortId} {t : Telegram} {bits : PortId → Byte}
    {body : List Byte} (h : s.Ready p t) (hu : u.ports = (s.noticed bits).modify p (Port.form body .none)) :
    s.Answered u p t body := by
  obtain ⟨-, -, hhead⟩ := h
  obtain ⟨rest, hqueue⟩ := List.head?_eq_some_iff.1 hhead
  have hkept : ∀ q, ((s.noticed bits).get q).queue = (s.ports.get q).queue ∧
      ((s.noticed bits).get q).replies = (s.ports.get q).replies := by
    intro q
    rw [State.noticed_get]
    split <;> exact ⟨rfl, rfl⟩
  obtain ⟨hq, hr, -⟩ := Port.form_cons ((hkept p).1.trans hqueue) body .none
  refine ⟨?_, ?_, fun q hne => ?_⟩
  · rw [hu, PerPort.get_modify_self, hq, hqueue, List.tail_cons]
  · rw [hu, PerPort.get_modify_self, hr, (hkept p).2]
  · rw [hu, PerPort.get_modify_other _ _ hne]
    exact hkept q

/-! ### POST REQUEST -/

/-- POST_REQUEST on a ready port carries out the POST REQUEST telegram, and then the idle transmitters start. -/
theorem exec_postRequest_ready {s : State} {p : PortId} {t : Telegram} (h : s.Ready p t) (hk : t.kind = 0x10#8) :
    exec (.postRequest p) s = .next (s.postRequest p t).kickPorts := by
  change Host.Outcome.next (s.execTelegram p 0x10#8 fun t s => s.postRequest p t) = _
  rw [State.execTelegram_ready h hk]

theorem outcomeByte_not_decide (P : Prop) [Decidable P] :
    outcomeByte (!decide P) = if P then 0x00#8 else 0x01#8 := by
  by_cases h : P <;> simp [outcomeByte, doneByte, clampedByte, h]

/-- The outcome byte is CLAMPED unless every value stored is the one carried (R79). -/
theorem Request.reply_eq (r : Request) (b : RequestBody) :
    r.reply b = (if r.target = b.target ∧ r.floor = b.floor ∧ r.ceiling = b.ceiling ∧ r.hold = b.hold then 0x00#8
        else 0x01#8) ::
      (be16 (signedWord r.target) ++ be16 (signedWord r.floor) ++ be16 (signedWord r.ceiling) ++
        be16 (wordOf r.hold)) := by
  have hclamped : r.clamped b = !decide (r.target = b.target ∧ r.floor = b.floor ∧ r.ceiling = b.ceiling ∧
      r.hold = b.hold) := by
    simp [Request.clamped, bne, Bool.beq_eq_decide_eq, Bool.decide_and, Bool.or_assoc]
  rw [Request.reply, hclamped, outcomeByte_not_decide]

section
variable {s : State} {p : PortId} {t : Telegram} {b : RequestBody} {l : LoopId}

theorem State.postRequest_rights (hb : bodyPostRequest t.body = some b) (hc : s.cls p = .observer) :
    s.postRequest p t = s.refuse p .rights := by
  simp [State.postRequest, hb, hc]

theorem State.postRequest_noLoop (hb : bodyPostRequest t.body = some b) (hc : s.cls p ≠ .observer)
    (hl : SegId.ofNumber b.loop = none) : s.postRequest p t = s.refuse p .malformed := by
  simp [State.postRequest, hb, hc, hl]

theorem State.postRequest_outOfOrder (hb : bodyPostRequest t.body = some b) (hc : s.cls p ≠ .observer)
    (hl : SegId.ofNumber b.loop = some l) (hr : storedRequest s.now b = none) :
    s.postRequest p t = s.refuse p .malformed := by
  simp [State.postRequest, hb, hc, hl, hr]

theorem State.postRequest_stored {r : Request} (hb : bodyPostRequest t.body = some b) (hc : s.cls p ≠ .observer)
    (hl : SegId.ofNumber b.loop = some l) (hr : storedRequest s.now b = some r) :
    s.postRequest p t = ((s.modSlot p l (some r)).recomputeMerge l).reply p (r.reply b) := by
  simp [State.postRequest, hb, hc, hl, hr]

end

/-- Settles O34: a refusal answers and does nothing else; a request in range goes into the port's slot, and the rest is what
recomputing the merge and answering do. -/
theorem postRequestStores : Obligations.PostRequestStores := by
  intro s p t b hready hkind hbody
  have hrun : s.phase = .running := hready.1
  rw [exec_postRequest_ready hready hkind]
  refine ⟨fun hcls => ?rights, fun hcls hloop => ?noLoop, fun l hcls hloop => ?known⟩
  case rights => rw [State.postRequest_rights hbody hcls, State.refuse_kickPorts hrun]; rfl
  case noLoop => rw [State.postRequest_noLoop hbody hcls hloop, State.refuse_kickPorts hrun]; rfl
  case known =>
    intro floor ceiling hold r slots m faults body
    refine ⟨fun hcross => ?outOfOrder, fun horder => ?stored⟩
    case outOfOrder =>
      have hnone : storedRequest s.now b = none := if_pos hcross
      rw [State.postRequest_outOfOrder hbody hcls hloop hnone, State.refuse_kickPorts hrun]; rfl
    case stored =>
      have hsome : storedRequest s.now b = some r := if_neg (Int.not_lt.2 horder)
      rw [State.postRequest_stored hbody hcls hloop hsome, Request.reply_eq,
        State.recomputeMerge_eq (s := s.modSlot p l (some r)) (m := m) (faults := faults) rfl rfl]
      exact ⟨_, rfl, rfl, hready.answered_of_noticed rfl⟩

end Sys2Proof.Machine
end

section
/-! FENCE (R121): what marking a segment does to its marks, when a fence just taken completes at once, and obligation
O37. -/

namespace Sys2Proof

theorem PerSeg.modify_eq_self {α : Type} {t : PerSeg α} {g : SegId} {f : α → α} (h : f (t.get g) = t.get g) :
    t.modify g f = t := by
  refine PerSeg.ext_get fun k => ?_
  rw [PerSeg.get_modify]
  split
  · next hk => rw [hk, h]
  · rfl

@[simp] theorem PerSeg.modify_set_self {α : Type} (t : PerSeg α) (v : α) (g : SegId) (f : α → α) :
    (t.set v g).modify g f = t.set (f v) g := by
  cases g <;> rfl

end Sys2Proof

namespace Sys2Proof.Machine

/-! ### Marks -/

theorem State.markAll_buffer (s : State) (p : PortId) (l : LoopId) :
    (s.markAll p l).buffer = s.buffer.modify l fun es => es.map fun e => { e with marks := e.marks.set true p } := rfl

theorem State.markAll_settle (s : State) (p : PortId) (l : LoopId) :
    (s.markAll p l).settle = s.settle.modify l fun is => is.map fun i => { i with marks := i.marks.set true p } := rfl

@[simp] theorem State.setFence_marked (s : State) (p q : PortId) (l g : SegId) (r : FenceRecord) :
    (s.setFence p l r).marked g q = s.marked g q := rfl

/-- A port that has marked a segment has no mark on it exactly where nothing was outstanding. -/
theorem State.markAll_marked_self (s : State) (p : PortId) (l : LoopId) :
    (s.markAll p l).marked l p = false ↔ s.buffer.get l = [] ∧ s.settle.get l = [] := by
  rw [State.marked, State.markAll_buffer, State.markAll_settle, PerSeg.get_modify_self, PerSeg.get_modify_self]
  cases s.buffer.get l <;> cases s.settle.get l <;> simp

/-- One port's marking leaves every other port's marks as they were. -/
theorem State.markAll_marked_other (s : State) {p q : PortId} (l : LoopId) (h : q ≠ p) :
    (s.markAll p l).marked l q = s.marked l q := by
  simp [State.marked, State.markAll_buffer, State.markAll_settle, List.any_map, Function.comp_def,
    PerPort.get_set_other _ _ h]

/-! ### Completing fences -/

theorem State.fencesDone_get (s : State) (g : SegId) (p : PortId) :
    (s.fencesDone g).get p = (((s.fences.get p).get g).isPending && !s.marked g p) :=
  PerPort.get_map ..

/-- Completing a loop's fences ends those that are done, with their ports' FENCE bits, and nothing else (R123). -/
theorem State.completeFences_eq (s : State) (g : SegId) :
    s.completeFences g = { s with
      fences := s.fences.map fun p x => x.modify g fun r => if (s.fencesDone g).get p then r.complete else r
      ports := s.noticed fun p => if (s.fencesDone g).get p then 0x10#8 else 0#8 } :=
  State.notifySet_eq ..

/-! ### FENCE -/

/-- FENCE on a ready port carries out the FENCE telegram, and then the idle transmitters start. -/
theorem exec_fence_ready {s : State} {p : PortId} {t : Telegram} (h : s.Ready p t) (hk : t.kind = 0x12#8) :
    exec (.fence p) s = .next (s.fence p t).kickPorts := by
  change Host.Outcome.next (s.execTelegram p 0x12#8 fun t s => s.fence p t) = _
  rw [State.execTelegram_ready h hk]

section
variable {s : State} {p : PortId} {t : Telegram} {code : Nat} {l : LoopId}

theorem State.fence_rights (hb : body1 t.body = some code) (hc : s.cls p = .observer) :
    s.fence p t = s.refuse p .rights := by
  simp [State.fence, hb, hc]

theorem State.fence_noLoop (hb : body1 t.body = some code) (hc : s.cls p ≠ .observer)
    (hl : SegId.ofNumber code = none) : s.fence p t = s.refuse p .malformed := by
  simp [State.fence, hb, hc, hl]

theorem State.fence_busy (hb : body1 t.body = some code) (hc : s.cls p ≠ .observer)
    (hl : SegId.ofNumber code = some l) (hp : ((s.fences.get p).get l).isPending = true) :
    s.fence p t = s.refuse p .busy := by
  simp [State.fence, hb, hc, hl, hp]

theorem State.fence_taken (hb : body1 t.body = some code) (hc : s.cls p ≠ .observer)
    (hl : SegId.ofNumber code = some l) (hp : ((s.fences.get p).get l).isPending = false) :
    s.fence p t = s.takeFence p l := by
  simp [State.fence, hb, hc, hl, hp]

end

/-- Of a loop's fences, only the one just taken can be done, and it is when nothing is outstanding: every other PENDING
fence keeps the mark that it has. -/
theorem State.fencesDone_fresh {s : State} (h : s.FencesFollowMarks) (p q : PortId) (l : LoopId) :
    (((s.setFence p l (.pending false)).markAll p l).fencesDone l).get q = true ↔
      q = p ∧ s.buffer.get l = [] ∧ s.settle.get l = [] := by
  rw [State.fencesDone_get]
  by_cases hq : q = p
  · subst hq
    simp [State.markAll_marked_self, FenceRecord.isPending]
  · rw [State.markAll_marked_other _ _ hq, State.setFence_marked, ← h q l]
    simp [hq, PerPort.get_modify_other _ _ hq]

/-- A fence just taken is SETTLED at once with nothing outstanding, and PENDING otherwise; no other fence changes. -/
theorem State.completeFences_fresh {s : State} (h : s.FencesFollowMarks) (p : PortId) (l : LoopId) :
    ((s.setFence p l (.pending false)).markAll p l).completeFences l = { s with
      buffer := s.buffer.modify l fun es => es.map fun e => { e with marks := e.marks.set true p }
      settle := s.settle.modify l fun is => is.map fun i => { i with marks := i.marks.set true p }
      fences := s.fences.modify p fun x => x.set
        (if s.buffer.get l = [] ∧ s.settle.get l = [] then .settled else .pending false) l
      ports := s.noticed fun q => if q = p ∧ s.buffer.get l = [] ∧ s.settle.get l = [] then 0x10#8 else 0#8 } := by
  have hfences : (s.fences.modify p fun x => x.set (.pending false) l).map (fun q x => x.modify l fun r =>
        if q = p ∧ s.buffer.get l = [] ∧ s.settle.get l = [] then r.complete else r) =
      s.fences.modify p fun x => x.set
        (if s.buffer.get l = [] ∧ s.settle.get l = [] then .settled else .pending false) l := by
    refine PerPort.ext_get fun q => ?_
    rw [PerPort.get_map]
    by_cases hq : q = p
    · subst hq
      simp [FenceRecord.complete]
    · simp only [PerPort.get_modify_other _ _ hq, hq, false_and, if_false]
      exact PerSeg.modify_eq_self rfl
  rw [State.completeFences_eq, ← hfences]
  simp only [State.fencesDone_fresh h]
  rfl

/-- Settles O37: a refusal answers and does nothing else; a fence taken is what marking the segment, completing the fence
and answering do. -/
theorem fenceTaken : Obligations.FenceTaken := by
  intro s p t b hmarks hready hkind hbody
  have hrun : s.phase = .running := hready.1
  have hcode : body1 t.body = some b.toNat := by rw [hbody, body1_singleton]
  rw [exec_fence_ready hready hkind]
  refine ⟨fun hcls => ?rights, fun hcls hloop => ?noLoop, fun l hcls hloop => ⟨fun hpend => ?busy, fun hfree => ?taken⟩⟩
  case rights => rw [State.fence_rights hcode hcls, State.refuse_kickPorts hrun]; rfl
  case noLoop => rw [State.fence_noLoop hcode hcls hloop, State.refuse_kickPorts hrun]; rfl
  case busy => rw [State.fence_busy hcode hcls hloop hpend, State.refuse_kickPorts hrun]; rfl
  case taken =>
    rw [State.fence_taken hcode hcls hloop hfree, State.takeFence, State.completeFences_fresh hmarks]
    exact ⟨_, rfl, rfl, hready.answered_of_noticed rfl⟩

end Sys2Proof.Machine
end

section
/-! Point addresses (R137, R140 to R142): which numbers are direct addresses of a point, which entry of a well-formed map
a port's logical address matches, what a translation ends in by case, and obligation O33. -/

namespace Sys2Proof

theorem SegId.ofNumber_eq_some {n : Nat} {g : SegId} : SegId.ofNumber n = some g ↔ n = g.number := by
  match n with
  | 0 => cases g <;> simp [SegId.ofNumber, SegId.number]
  | 1 => cases g <;> simp [SegId.ofNumber, SegId.number]
  | n + 2 => cases g <;> simp [SegId.ofNumber, SegId.number]

/-- A direct address less its base has a field each for the segment, the station and the point number (9.1). -/
theorem SegId.addressFields_iff {g : SegId} {a k n : Nat} (ha : a < 0x10) (hk : k < 0x10) :
    (SegId.ofNumber (n / 0x100) = some g ∧ n / 0x10 % 0x10 = a ∧ n % 0x10 = k) ↔
      n = 0x100 * g.number + 0x10 * a + k := by
  rw [SegId.ofNumber_eq_some]
  omega

/-- Where of any two members of a list at most one has a property, only one member has it. -/
theorem eq_of_pairwise_not_both {α : Type} {P : α → Prop} {l : List α} (h : l.Pairwise fun x y => ¬(P x ∧ P y)) {x y : α}
    (hx : x ∈ l) (hy : y ∈ l) (hPx : P x) (hPy : P y) : x = y := by
  have hsymm : Std.Symm fun x y => ¬(P x ∧ P y) := ⟨fun _ _ hnot hboth => hnot hboth.symm⟩
  by_contra hne
  exact h.forall hx hy hne ⟨hPx, hPy⟩

end Sys2Proof

namespace Sys2Proof.Machine

/-! ### Stations and what they have -/

theorem addresses_bounds {set : Word} {a : Nat} (h : a ∈ addresses set) : 1 ≤ a ∧ a ≤ 12 := by
  have hmem := List.mem_of_mem_filter h
  simp only [List.mem_cons, List.not_mem_nil, or_false] at hmem
  omega

theorem Settings.population_bounds {st : Settings} {g : SegId} {a : Nat} (h : a ∈ st.population g) : 1 ≤ a ∧ a ≤ 12 :=
  addresses_bounds h

@[simp] theorem StationKind.hasOutput_fan {k : StationKind} : k.hasOutput .fan = true ↔ k = .unit := by
  cases k <;> simp [StationKind.hasOutput]

@[simp] theorem StationKind.hasOutput_valve {k : StationKind} : k.hasOutput .valve = true ↔ k = .unit := by
  cases k <;> simp [StationKind.hasOutput]

@[simp] theorem StationKind.hasOutput_bypass {k : StationKind} : k.hasOutput .bypass = true ↔ k = .loop := by
  cases k <;> simp [StationKind.hasOutput]

/-- A point number up to 7 names that point, and a higher one an output that the kind has. -/
theorem targetOf_eq_some {k : StationKind} {n : Nat} {t : Target} :
    targetOf k n = some t ↔ (n ≤ 7 ∧ t = .point n) ∨ (n = 8 ∧ t = .output .fan ∧ k = .unit) ∨
      (n = 9 ∧ t = .output .valve ∧ k = .unit) ∨ (n = 10 ∧ t = .output .bypass ∧ k = .loop) := by
  rcases Nat.lt_or_ge n 8 with hpoint | houtput
  · have hle : n ≤ 7 := by omega
    have hne : n ≠ 8 ∧ n ≠ 9 ∧ n ≠ 10 := by omega
    simp [targetOf, hle, hne, eq_comm]
  · obtain ⟨m, rfl⟩ := Nat.exists_eq_add_of_le' houtput
    match m with
    | 0 => simp [targetOf, and_comm, @eq_comm _ _ t]
    | 1 => simp [targetOf, and_comm, @eq_comm _ _ t]
    | 2 => simp [targetOf, and_comm, @eq_comm _ _ t]
    | m + 3 => simp [targetOf]

theorem targetOf_bound {k : StationKind} {n : Nat} {t : Target} (h : targetOf k n = some t) : n < 0x10 := by
  rcases targetOf_eq_some.1 h with ⟨hn, -⟩ | ⟨hn, -⟩ | ⟨hn, -⟩ | ⟨hn, -⟩ <;> omega

/-- What holds of some point number naming a target, told target by target. -/
theorem exists_targetOf_eq_some {k : StationKind} {t : Target} {P : Nat → Prop} :
    (∃ n, targetOf k n = some t ∧ P n) ↔ (∃ q, t = .point q ∧ q ≤ 7 ∧ P q) ∨ (t = .output .fan ∧ k = .unit ∧ P 8) ∨
      (t = .output .valve ∧ k = .unit ∧ P 9) ∨ (t = .output .bypass ∧ k = .loop ∧ P 10) := by
  simp only [targetOf_eq_some, or_and_right, exists_or, and_assoc, exists_eq_left, and_left_comm (a := _ ≤ 7)]

/-! ### Direct addresses (R137) -/

/-- What `direct?` finds, from the fields of the address less its base. (The difference stands as a number of its own: the
kernel would otherwise unfold the subtraction of the base step by step.) -/
theorem State.direct?_eq_some {s : State} {d n : Nat} {r : Resolved} (h : d - directBase = n) :
    s.direct? d = some r ↔ r.direct = d ∧ r.station ∈ s.settings.population r.seg ∧
      (SegId.ofNumber (n / 0x100) = some r.seg ∧ n / 0x10 % 0x10 = r.station) ∧
        targetOf (kindOf r.station) (n % 0x10) = some r.target := by
  obtain ⟨seg, station, target, direct⟩ := r
  rw [State.direct?, h]
  cases SegId.ofNumber (n / 0x100) with
  | none => simp
  | some g =>
    simp only [List.contains_iff_mem, Option.ite_none_right_eq_some, Option.map_eq_some_iff, Resolved.mk.injEq,
      Option.some.injEq]
    constructor
    · rintro ⟨hin, t, htarget, rfl, rfl, rfl, rfl⟩
      exact ⟨rfl, hin, ⟨rfl, rfl⟩, htarget⟩
    · rintro ⟨rfl, hin, ⟨rfl, rfl⟩, htarget⟩
      exact ⟨hin, target, htarget, rfl, rfl, rfl, rfl⟩

/-- A direct address names a point exactly where it is built from a configured station and a point number its kind has. -/
theorem State.direct?_eq_some_iff_built {s : State} {d : Nat} {r : Resolved} (hd : directBase ≤ d) :
    s.direct? d = some r ↔ r.direct = d ∧ r.station ∈ s.settings.population r.seg ∧
      ∃ k, targetOf (kindOf r.station) k = some r.target ∧
        d = directBase + 0x100 * r.seg.number + 0x10 * r.station + k := by
  rw [State.direct?_eq_some rfl]
  refine and_congr_right fun _ => and_congr_right fun hin => ?_
  have hstation : r.station < 0x10 := by have := Settings.population_bounds hin; omega
  refine ⟨?fields, ?built⟩
  case fields =>
    rintro ⟨⟨hseg, hst⟩, htarget⟩
    have hn := (SegId.addressFields_iff hstation (Nat.mod_lt _ (by decide))).1 ⟨hseg, hst, rfl⟩
    exact ⟨_, htarget, by omega⟩
  case built =>
    rintro ⟨k, htarget, hbuilt⟩
    have hn : d - directBase = 0x100 * r.seg.number + 0x10 * r.station + k := by omega
    obtain ⟨hseg, hst, hk⟩ := (SegId.addressFields_iff hstation (targetOf_bound htarget)).2 hn
    exact ⟨⟨hseg, hst⟩, by rw [hk, htarget]⟩

/-! ### The entry a logical address matches (R140) -/

theorem State.covers_iff {s : State} {e : MapEntry} {a : Nat} :
    s.covers e a = true ↔ e.logical ≤ a ∧ a < e.logical + s.sizeOf e := by
  simp [State.covers]

theorem MapEntry.serves_iff {e : MapEntry} {owner : Option PortId} :
    e.serves owner = true ↔ e.owner = owner ∨ e.owner = none := by
  simp [MapEntry.serves]

/-- In a well-formed map, two entries that one port can use and that cover one address are the same. -/
theorem State.MapFormed.covering_unique {s : State} (h : s.MapFormed) {owner : Option PortId} {a : Nat} {e f : MapEntry}
    (he : e ∈ s.accessMap) (hf : f ∈ s.accessMap) (hse : e.serves owner = true) (hsf : f.serves owner = true)
    (hce : s.covers e a = true) (hcf : s.covers f a = true) : e = f := by
  obtain ⟨-, -, hdisjoint, -⟩ := h
  refine eq_of_pairwise_not_both (P := fun x => x.serves owner = true ∧ s.covers x a = true)
    (hdisjoint.imp ?_) he hf ⟨hse, hce⟩ ⟨hsf, hcf⟩
  rintro x y hapart ⟨⟨hsx, hcx⟩, hsy, hcy⟩
  rw [MapEntry.serves_iff] at hsx hsy
  rw [State.covers_iff] at hcx hcy
  have hshared : x.owner = y.owner ∨ x.owner = none ∨ y.owner = none := by
    rcases hsx with hx | hx <;> rcases hsy with hy | hy <;> simp [hx, hy]
  rcases hapart hshared with hbelow | habove <;> omega

theorem State.match?_eq_none {s : State} {owner : Option PortId} {a : Nat} :
    s.match? owner a = none ↔ ∀ e ∈ s.accessMap, e.serves owner = true → s.covers e a = false := by
  simp [State.match?]

theorem State.of_match?_eq_some {s : State} {owner : Option PortId} {a : Nat} {e : MapEntry}
    (h : s.match? owner a = some e) : e ∈ s.accessMap ∧ e.serves owner = true ∧ s.covers e a = true := by
  have hmatches := List.find?_some h
  exact ⟨List.mem_of_find?_eq_some h, Bool.and_eq_true_iff.1 hmatches⟩

/-- In a well-formed map, any entry that a port can use and that covers the address is the one its address matches. -/
theorem State.MapFormed.match?_eq_some {s : State} (h : s.MapFormed) {owner : Option PortId} {a : Nat} {e : MapEntry}
    (he : e ∈ s.accessMap) (hs : e.serves owner = true) (hc : s.covers e a = true) : s.match? owner a = some e := by
  cases hfound : s.match? owner a with
  | none => simp [State.match?_eq_none.1 hfound e he hs] at hc
  | some f =>
    obtain ⟨hf, hsf, hcf⟩ := State.of_match?_eq_some hfound
    rw [h.covering_unique hf he hsf hs hcf hc]

/-! ### Translation (R140 to R142) -/

theorem State.judge_found {s : State} {d : Nat} {r : Resolved} (h : s.direct? d = some r) : s.judge d = .found r := by
  rw [State.judge, h]

theorem State.judge_noPoint {s : State} {d : Nat} (h : s.direct? d = none) : s.judge d = .refused .noPoint := by
  rw [State.judge, h]

section
variable {s : State} {p : PortId} {w : Word} {right : MapEntry → Bool}

theorem State.translate_direct (hw : directBase ≤ w.toNat) : s.translate p w right = s.judge w.toNat := by
  simp [State.translate, hw]

theorem State.translate_miss (hw : w.toNat < directBase) (h : s.match? (some p) w.toNat = none) :
    s.translate p w right = .miss w := by
  simp [State.translate, Nat.not_le.2 hw, h]

theorem State.translate_matched {e : MapEntry} (hw : w.toNat < directBase) (h : s.match? (some p) w.toNat = some e) :
    s.translate p w right = if right e = true then s.judge (e.physical + (w.toNat - e.logical)) else .refused .rights := by
  simp [State.translate, MapEntry.translate, Nat.not_le.2 hw, h]

theorem State.resolveOverride_rights (h : s.cls p = .observer ∨ (s.cls p = .plant ∧ directBase ≤ w.toNat)) :
    s.resolveOverride p w = .refused .rights := by
  rcases h with hc | ⟨hc, hw⟩
  · simp [State.resolveOverride, hc]
  · simp [State.resolveOverride, hc, Nat.not_lt.2 hw]

theorem State.resolveOverride_translate (h : s.cls p = .supervisor ∨ (s.cls p = .plant ∧ w.toNat < directBase)) :
    s.resolveOverride p w = s.translate p w MapEntry.overrideRight :=
  if_pos h

end

/-- Settles O33: the direct addresses by their fields, and both telegrams' addresses through the one translation, after
the class check of an override. -/
theorem addressesResolve : Obligations.AddressesResolve := by
  intro s p judge translated
  have hjudge : ∀ d, s.judge d = judge d := by
    intro d
    dsimp only [judge]
    split
    · next hfound => exact State.judge_found hfound
    · next hnone => exact State.judge_noPoint hnone
  have htranslated : ∀ w right, translated w right (s.translate p w right) := by
    refine fun w right => ⟨fun hw => ?direct, fun hw hmiss => ?miss, fun e hw hformed he howner hlo hhi => ?matched⟩
    case direct => rw [State.translate_direct hw, hjudge]
    case miss =>
      exact State.translate_miss hw (State.match?_eq_none.2 fun e he hs => hmiss e he (MapEntry.serves_iff.1 hs))
    case matched =>
      have hmatch := hformed.match?_eq_some he (MapEntry.serves_iff.2 howner) (State.covers_iff.2 ⟨hlo, hhi⟩)
      rw [State.translate_matched hw hmatch, hjudge]
  refine ⟨fun d r hd => ?direct, fun g a ha => Settings.population_bounds ha, fun w =>
    ⟨htranslated w _, State.resolveOverride_rights, fun hc => ?override⟩⟩
  case direct =>
    rw [State.direct?_eq_some_iff_built hd, exists_targetOf_eq_some, directBase]
  case override =>
    rw [State.resolveOverride_translate hc]
    exact htranslated w _

end Sys2Proof.Machine
end

section
/-! READ FAULTS and the fault summary (R159): one bit for each flag, what each operation of the part keeps set, and obligation
O27. -/

namespace Sys2Proof.Machine

/-! ### The flags and their bits -/

/-- The flags in the order of their bits (12.4). -/
def FaultFlag.all : List FaultFlag :=
  [.configDefaulted, .saveFailed, .stationLost, .kindMismatch, .passOverrun .fs0, .passOverrun .fs1, .settleTimeout,
   .conflict, .ambientLost, .supplyLost .fs0, .supplyLost .fs1, .frostProtect, .icing, .requestExpired,
   .queueOverrun .sp0, .queueOverrun .sp1, .queueOverrun .sp2, .queueOverrun .sp3,
   .frameError .sp0, .frameError .sp1, .frameError .sp2, .frameError .sp3]

theorem FaultFlag.all_bit (f : FaultFlag) : FaultFlag.all[f.bit]? = some f := by
  cases f with
  | passOverrun g => cases g <;> rfl
  | supplyLost l => cases l <;> rfl
  | queueOverrun p => cases p <;> rfl
  | frameError p => cases p <;> rfl
  | _ => rfl

theorem FaultFlag.bit_injective : Function.Injective FaultFlag.bit := fun f g h =>
  Option.some.inj (by rw [← f.all_bit, h, g.all_bit])

theorem FaultFlag.mask_other_bit {f g : FaultFlag} (h : g ≠ f) : f.mask.getLsbD g.bit = false := by
  have hbit : f.bit ≠ g.bit := fun heq => h (FaultFlag.bit_injective heq.symm)
  rw [FaultFlag.mask, BitVec.getLsbD_ofNat, Nat.testBit_two_pow_of_ne hbit, Bool.and_false]

theorem State.setFault_hasFault (s : State) (f g : FaultFlag) :
    (s.setFault f).hasFault g = (s.hasFault g || f.mask.getLsbD g.bit) := by
  simp [State.hasFault]

theorem State.setFault_notices {s : State} {f : FaultFlag} (h : s.hasFault f = false) (p : PortId) :
    ((s.setFault f).ports.get p).notices =
      if (s.settings.port.get p).notices then (s.ports.get p).notices ||| 0x20#8 else (s.ports.get p).notices := by
  simp only [State.setFault_noticed, State.noticed_get, h]
  split <;> rfl

/-! ### READ FAULTS -/

/-- READ_FAULTS on a ready port carries out the READ FAULTS telegram, and then the idle transmitters start. -/
theorem exec_readFaults_ready {s : State} {p : PortId} {t : Telegram} (h : s.Ready p t) (hk : t.kind = 0x04#8) :
    exec (.readFaults p) s = .next (s.readFaults p t).kickPorts := by
  change Host.Outcome.next (s.execTelegram p 0x04#8 fun t s => s.readFaults p t) = _
  rw [State.execTelegram_ready h hk]

theorem faultBytes_eq (f : BitVec 24) :
    faultBytes f = [f.extractLsb' 0 8, f.extractLsb' 8 8, f.extractLsb' 16 8] := by
  simp [faultBytes, BitVec.extractLsb', BitVec.setWidth_ushiftRight_eq_extractLsb]

theorem State.readFaults_malformed {s : State} {p : PortId} {t : Telegram} (hb : t.body ≠ []) :
    s.readFaults p t = s.refuse p .malformed := by
  simp [State.readFaults, hb]

theorem State.readFaults_done {s : State} {p : PortId} {t : Telegram} (hb : t.body = []) :
    s.readFaults p t = (s.reply p (doneByte :: faultBytes s.faults)).setFaults
      (if s.cls p = .supervisor then 0#24 else s.faults) := by
  have hkept : ∀ body, (s.reply p body).setFaults s.faults = s.reply p body := fun _ => rfl
  by_cases hc : s.cls p = .supervisor
  · simp [State.readFaults, hb, hc]
  · simp [State.readFaults, hb, hc, hkept]

/-- Clearing and answering: the fault summary is the new one, the port has answered, and nothing else differs. -/
theorem State.reply_setFaults_kickPorts {s : State} (h : s.phase = .running) (p : PortId) (body : List Byte)
    (faults : BitVec 24) :
    ((s.reply p body).setFaults faults).kickPorts = { s with ports := s.portsAnswering p body, faults := faults } := by
  rw [State.kickPorts_running (by simpa using h)]
  rfl

/-! ### Telegrams that leave the fault summary as it is -/

section
variable (s : State) (p : PortId) (t : Telegram)

@[simp] theorem State.unresolved_faults (r : Resolution) : (s.unresolved p r).faults = s.faults := by
  cases r <;> simp [State.unresolved]

@[simp] theorem State.readStation_faults : (s.readStation p t).faults = s.faults := by
  unfold State.readStation
  split
  · split <;> simp
  · simp

@[simp] theorem State.readStatus_faults : (s.readStatus p t).faults = s.faults := by
  unfold State.readStatus
  split <;> simp

theorem State.readFaults_faults (hc : s.cls p ≠ .supervisor) : (s.readFaults p t).faults = s.faults := by
  by_cases hb : t.body = []
  · simp [State.readFaults_done hb, hc]
  · simp [State.readFaults_malformed hb]

@[simp] theorem State.readOverrides_faults : (s.readOverrides p t).faults = s.faults := by
  unfold State.readOverrides
  split <;> simp

@[simp] theorem State.readSetting_faults : (s.readSetting p t).faults = s.faults := by
  unfold State.readSetting
  split
  · split <;> simp
  · simp

@[simp] theorem State.fence_faults : (s.fence p t).faults = s.faults := by
  unfold State.fence State.takeFence
  split
  · split
    · simp
    · split
      · split <;> simp
      · simp
  · simp

theorem State.mapTelegram_faults {α : Type} (body : Option α) {act : α → State}
    (hact : ∀ b, (act b).faults = s.faults) : (s.mapTelegram p body act).faults = s.faults := by
  unfold State.mapTelegram
  split
  · split <;> simp [hact]
  · simp

@[simp] theorem State.mapBlock_faults (b : MapBody) (owner : Option PortId) :
    (s.mapBlock p b owner).faults = s.faults := by
  unfold State.mapBlock
  split
  · simp
  · split
    · simp
    · split <;> simp

@[simp] theorem State.map_faults : (s.map p t).faults = s.faults := by
  refine s.mapTelegram_faults p _ fun b => ?_
  split
  · split <;> simp
  · simp

@[simp] theorem State.unmapAt_faults (owner : Option PortId) (a : Nat) : (s.unmapAt p owner a).faults = s.faults := by
  unfold State.unmapAt
  split <;> simp

@[simp] theorem State.unmap_faults : (s.unmap p t).faults = s.faults := by
  refine s.mapTelegram_faults p _ fun b => ?_
  split <;> simp

@[simp] theorem State.flush_faults : (s.flush p t).faults = s.faults := by
  refine s.mapTelegram_faults p _ fun b => ?_
  split <;> simp

@[simp] theorem State.probeAt_faults (owner : Option PortId) (a : Nat) : (s.probeAt p owner a).faults = s.faults := by
  unfold State.probeAt
  split <;> simp

@[simp] theorem State.probeByAddress_faults : (s.probeByAddress p t).faults = s.faults := by
  refine s.mapTelegram_faults p _ fun b => ?_
  split <;> simp

@[simp] theorem State.probeByIndex_faults : (s.probeByIndex p t).faults = s.faults := by
  refine s.mapTelegram_faults p _ fun b => ?_
  split <;> simp

@[simp] theorem State.markStale_faults : (s.markStale p t).faults = s.faults := by
  unfold State.markStale
  split
  · split
    · split <;> simp
    · simp
  · simp

@[simp] theorem State.saveSettings_faults : (s.saveSettings p t).faults = s.faults := by
  unfold State.saveSettings
  split
  · split
    · split <;> simp [State.setSaving]
    · simp
  · simp

@[simp] theorem State.restart_faults : (s.restart p t).faults = s.faults := by
  unfold State.restart
  split
  · split
    · split <;> simp [State.setRestartPending]
    · simp
  · simp

end

/-! ### What an operation keeps set

Bit `i` of the fault summary, once set, is set after the operation. An operation whose frame lemma keeps the whole summary
needs no lemma here. -/

section
variable {s : State} {i : Nat} (h : s.faults.getLsbD i = true)
include h

theorem State.setFault_keeps_fault (f : FaultFlag) : (s.setFault f).faults.getLsbD i = true := by
  rw [State.setFault_faults, BitVec.getLsbD_or, h, Bool.true_or]

theorem State.setFaultIf_keeps_fault (cause : Bool) (f : FaultFlag) :
    (s.setFaultIf cause f).faults.getLsbD i = true := by
  cases cause with
  | false => exact h
  | true => exact State.setFault_keeps_fault h f

/-! The Freeze Protection Block. -/

@[simp] theorem State.computeTa_keeps_fault : s.computeTa.faults.getLsbD i = true := by
  unfold State.computeTa
  split <;> simp [h]

@[simp] theorem State.fpbAmbient_keeps_fault (e : FpbEvent) : (State.fpbAmbient e s).faults.getLsbD i = true := by
  unfold State.fpbAmbient
  split <;> simp [h]

@[simp] theorem State.fpbFrost_keeps_fault (l : LoopId) (reached : UnitFrost → Bool) (restart : Bool) :
    (State.fpbFrost l reached restart s).faults.getLsbD i = true := by
  unfold State.fpbFrost
  apply State.setFaultIf_keeps_fault
  split <;> simp [h]

@[simp] theorem State.fpbEvent_keeps_fault (e : FpbEvent) : (s.fpbEvent e).faults.getLsbD i = true := by
  unfold State.fpbEvent
  dsimp only
  apply State.fpbFrost_keeps_fault
  apply State.fpbFrost_keeps_fault
  split <;> split <;> simp [h]

@[simp] theorem State.fpbUnitLost_keeps_fault (l : LoopId) (a : Nat) :
    (s.fpbUnitLost l a).faults.getLsbD i = true := by
  unfold State.fpbUnitLost
  split <;> simp [h]

@[simp] theorem State.setIcing_keeps_fault (l : LoopId) (a : Nat) : (s.setIcing l a).faults.getLsbD i = true := by
  simp [State.setIcing, h]

@[simp] theorem State.shortfall_keeps_fault (l : LoopId) (a : Nat) (v : Int) :
    (s.shortfall l a v).faults.getLsbD i = true := by
  unfold State.shortfall
  split
  · dsimp only
    split <;> split <;> simp [h]
  · exact h

@[simp] theorem State.fpbRestart_keeps_fault (l : LoopId) : (s.fpbRestart l).faults.getLsbD i = true := by
  simp [State.fpbRestart, h]

/-! The Output Controller, the allocators and the merge. -/

@[simp] theorem State.writeGood_keeps_fault (g : SegId) (a : Nat) : (s.writeGood g a).faults.getLsbD i = true := by
  unfold State.writeGood
  split
  · split
    · simp only [State.completeFences_frame, State.failMarks_frame]
      apply State.setFaultIf_keeps_fault
      simp [h]
    · exact h
  · exact h

@[simp] theorem State.settleFail_keeps_fault (g : SegId) (a : Nat) (o : OutputId) :
    (s.settleFail g a o).faults.getLsbD i = true := by
  simp [State.settleFail, h]

@[simp] theorem State.demandStage_keeps_fault (l : LoopId) (warmUp : Bool) :
    (s.demandStage l warmUp).faults.getLsbD i = true := by
  unfold State.demandStage
  split <;> simp [h]

@[simp] theorem State.allocationRun_keeps_fault (l : LoopId) : (s.allocationRun l).faults.getLsbD i = true := by
  unfold State.allocationRun
  dsimp only
  split <;> simp [h]

@[simp] theorem State.recomputeMerge_keeps_fault (l : LoopId) : (s.recomputeMerge l).faults.getLsbD i = true := by
  apply State.setFaultIf_keeps_fault
  simp [h]

/-! The receiver. -/

@[simp] theorem State.takeTelegram_keeps_fault (p : PortId) (t : Telegram) :
    (s.takeTelegram p t).faults.getLsbD i = true := by
  unfold State.takeTelegram
  split <;> simp [h]

@[simp] theorem State.frameEnds_keeps_fault (p : PortId) (bytes : List Byte) :
    (s.frameEnds p bytes).faults.getLsbD i = true := by
  unfold State.frameEnds
  split <;> simp [h]

@[simp] theorem State.receiveChar_keeps_fault (p : PortId) (c : Byte) :
    (s.receiveChar p c).faults.getLsbD i = true := by
  unfold State.receiveChar
  split
  · split <;> simp [h]
  · split <;> simp [h]
  · dsimp only
    split <;> simp [h]

@[simp] theorem State.receive_keeps_fault (p : PortId) (cs : List Byte) :
    (s.receive p cs).faults.getLsbD i = true := by
  induction cs generalizing s with
  | nil => exact h
  | cons c cs ih => exact ih (State.receiveChar_keeps_fault h p c)

/-! Counters, passes and discovery. -/

@[simp] theorem State.enterLost_keeps_fault (g : SegId) (a : Nat) : (s.enterLost g a).faults.getLsbD i = true := by
  simp [State.enterLost, h]

@[simp] theorem State.setCounter_keeps_fault (g : SegId) (a c : Nat) :
    (s.setCounter g a c).faults.getLsbD i = true := by
  unfold State.setCounter
  dsimp only
  split <;> simp [h]

@[simp] theorem State.countGood_keeps_fault (g : SegId) (a : Nat) : (s.countGood g a).faults.getLsbD i = true :=
  State.setCounter_keeps_fault h g a _

@[simp] theorem State.countBad_keeps_fault (g : SegId) (a : Nat) : (s.countBad g a).faults.getLsbD i = true :=
  State.setCounter_keeps_fault h g a _

@[simp] theorem State.setMismatch_keeps_fault (g : SegId) (a : Nat) (m : Bool) :
    (s.setMismatch g a m).faults.getLsbD i = true := by
  unfold State.setMismatch
  split
  · apply State.setFaultIf_keeps_fault
    simp [h]
  · exact h

@[simp] theorem State.closePass_keeps_fault (g : SegId) : (s.closePass g).faults.getLsbD i = true := by
  simp [State.closePass, h]

@[simp] theorem State.startPass_keeps_fault (g : SegId) : (s.startPass g).faults.getLsbD i = true := by
  unfold State.startPass
  dsimp only
  split <;> simp [h]

@[simp] theorem State.endPass_keeps_fault (g : SegId) : (s.endPass g).faults.getLsbD i = true := by
  unfold State.endPass
  dsimp only
  split <;> simp [h]

@[simp] theorem State.dealtWith_keeps_fault (g : SegId) (a : Nat) : (s.dealtWith g a).faults.getLsbD i = true := by
  unfold State.dealtWith
  split <;> simp [h]

@[simp] theorem State.discoverFrom_keeps_fault (g : SegId) (a : Nat) :
    (s.discoverFrom g a).faults.getLsbD i = true := by
  unfold State.discoverFrom
  split <;> simp [h]

@[simp] theorem State.beginDiscovery_keeps_fault (g : SegId) : (s.beginDiscovery g).faults.getLsbD i = true :=
  State.discoverFrom_keeps_fault h g 0

@[simp] theorem State.conclude_keeps_fault (g : SegId) (a : Nat) (found : Bool) :
    (s.conclude g a found).faults.getLsbD i = true := by
  cases found <;> simp [State.conclude, h]

/-! The ends of a transaction, and the choice of the next. -/

@[simp] theorem State.shortfallFrom_keeps_fault (g : SegId) (j : ReadJob) (valued : List Nat) :
    (s.shortfallFrom g j valued).faults.getLsbD i = true := by
  unfold State.shortfallFrom
  split <;> simp [h]

@[simp] theorem State.readPoints_keeps_fault (g : SegId) (j : ReadJob) (vs : List Int) :
    (s.readPoints g j vs).faults.getLsbD i = true := by
  simp only [State.readPoints, State.settleCheck_frame]
  apply State.shortfallFrom_keeps_fault
  simp [h]

@[simp] theorem State.endRead_keeps_fault (g : SegId) (j : ReadJob) : (s.endRead g j).faults.getLsbD i = true := by
  unfold State.endRead
  dsimp only
  split <;> simp [h]

@[simp] theorem State.readGood_keeps_fault (g : SegId) (j : ReadJob) (ready : Bool) (vs : List Int) :
    (s.readGood g j ready vs).faults.getLsbD i = true := by
  unfold State.readGood
  dsimp only
  split <;> simp [h]

@[simp] theorem State.endProbe_keeps_fault (g : SegId) (a : Nat) : (s.endProbe g a).faults.getLsbD i = true := by
  simp [State.endProbe, h]

@[simp] theorem State.attemptFailed_keeps_fault (g : SegId) (t : Transaction) :
    (s.attemptFailed g t).faults.getLsbD i = true := by
  unfold State.attemptFailed
  split
  case h_1 => split <;> simp [h]
  case h_2 => simp [h]
  case h_3 => dsimp only; split <;> simp [h]
  case h_4 =>
    dsimp only
    split
    · simp [h]
    · split <;> simp [h]
  case h_5 => exact h

@[simp] theorem State.discoveryAnswer_keeps_fault (g : SegId) (a : Nat) (kind : Byte) :
    (s.discoveryAnswer g a kind).faults.getLsbD i = true := by
  simp [State.discoveryAnswer, h]

@[simp] theorem State.probeAnswer_keeps_fault (g : SegId) (a : Nat) (kind : Byte) :
    (s.probeAnswer g a kind).faults.getLsbD i = true := by
  unfold State.probeAnswer
  dsimp only
  apply State.endProbe_keeps_fault
  split <;> simp [State.revive, h]

@[simp] theorem State.answer_keeps_fault (g : SegId) (t : Transaction) (chars : List Byte) :
    (s.answer g t chars).faults.getLsbD i = true := by
  unfold State.answer
  split
  case h_1 => split <;> simp [h]
  case h_2 => split <;> simp [h]
  case h_3 =>
    split
    · split
      · split <;> simp [h]
      · simp [h]
    · simp [h]
  case h_4 =>
    split
    · dsimp only
      split
      · split <;> simp [h]
      · simp [h]
    · simp [h]
  case h_5 => exact h

@[simp] theorem State.arbitrate_keeps_fault (g : SegId) : (s.arbitrate g).faults.getLsbD i = true := by
  unfold State.arbitrate
  split
  · split <;> simp [h]
  · exact h

@[simp] theorem State.restartSegment_keeps_fault (g : SegId) (changed : Bool) :
    (s.restartSegment g changed).faults.getLsbD i = true := by
  have hreplies := foldl_keeps State.faults (fun t e => t.replyReadThrough g e) fun t e => by simp
  unfold State.restartSegment
  dsimp only
  split <;> simp [hreplies, h]

/-! The telegrams. -/

@[simp] theorem State.readPoint_keeps_fault (p : PortId) (t : Telegram) :
    (s.readPoint p t).faults.getLsbD i = true := by
  unfold State.readPoint
  split
  · split
    · unfold State.readResolved
      split <;> simp [State.placeReadThrough, h]
    · simp [h]
  · simp [h]

@[simp] theorem State.postRequest_keeps_fault (p : PortId) (t : Telegram) :
    (s.postRequest p t).faults.getLsbD i = true := by
  unfold State.postRequest
  split
  · split
    · simp [h]
    · split
      · split <;> simp [h]
      · simp [h]
  · simp [h]

@[simp] theorem State.emptySlot_keeps_fault (p : PortId) (l : LoopId) : (s.emptySlot p l).faults.getLsbD i = true := by
  unfold State.emptySlot
  split <;> simp [h]

@[simp] theorem State.withdrawRequest_keeps_fault (p : PortId) (t : Telegram) :
    (s.withdrawRequest p t).faults.getLsbD i = true := by
  unfold State.withdrawRequest
  split
  · split
    · simp [h]
    · split <;> simp [h]
  · simp [h]

@[simp] theorem State.placeOverride_keeps_fault (p : PortId) (r : Resolved) (v : OutputValue) (b : OverrideBody) :
    (s.placeOverride p r v b).faults.getLsbD i = true := by
  unfold State.placeOverride
  split
  · split <;> simp [h]
  · split <;> simp [h]

@[simp] theorem State.setOverride_keeps_fault (p : PortId) (t : Telegram) :
    (s.setOverride p t).faults.getLsbD i = true := by
  unfold State.setOverride
  split
  · split
    · split
      · split <;> simp [h]
      · simp [h]
    · simp [h]
  · simp [h]

@[simp] theorem State.releaseOutput_keeps_fault (p : PortId) (r : Resolved) (o : OutputId) :
    (s.releaseOutput p r o).faults.getLsbD i = true := by
  unfold State.releaseOutput
  split
  · split <;> simp [h]
  · simp [h]

@[simp] theorem State.releaseOverride_keeps_fault (p : PortId) (t : Telegram) :
    (s.releaseOverride p t).faults.getLsbD i = true := by
  unfold State.releaseOverride
  split
  · split
    · split <;> simp [h]
    · simp [h]
  · simp [h]

@[simp] theorem State.settingWritten_keeps_fault (old : Settings) (item : Item) :
    (s.settingWritten old item).faults.getLsbD i = true := by
  cases item with
  | notices p => simp only [State.settingWritten, State.noticesWritten]; split <;> simp [h]
  | population g => simp only [State.settingWritten, State.setWritten]; split <;> simp [h]
  | mask g => simp only [State.settingWritten, State.setWritten]; split <;> simp [h]
  | _ => simp [State.settingWritten, State.guardCapWritten, State.rotationWritten, h]

@[simp] theorem State.arbitrateFor_keeps_fault (old : Settings) (item : Item) :
    (s.arbitrateFor old item).faults.getLsbD i = true := by
  unfold State.arbitrateFor
  split
  · split <;> simp [h]
  · split <;> simp [h]
  · exact h

@[simp] theorem State.writeSetting_keeps_fault (p : PortId) (t : Telegram) :
    (s.writeSetting p t).faults.getLsbD i = true := by
  unfold State.writeSetting
  split
  · split
    · split
      · split
        · simp [h]
        · split <;> simp [State.applySetting, h]
      · simp [h]
    · simp [h]
  · simp [h]

@[simp] theorem State.passTimerExpired_keeps_fault (g : SegId) :
    (s.passTimerExpired g).faults.getLsbD i = true := by
  unfold State.passTimerExpired
  dsimp only
  split <;> simp [h]

@[simp] theorem State.windowExpired_keeps_fault (g : SegId) : (s.windowExpired g).faults.getLsbD i = true := by
  unfold State.windowExpired
  split
  · simp [h]
  · split
    · simp [h]
    · exact h

@[simp] theorem State.icingExpired_keeps_fault : s.icingExpired.faults.getLsbD i = true := by
  simp [State.icingExpired, h]

end

/-! ### The commands -/

/-- The commands that clear flags in a state (R159, R160): a SUPERVISOR's READ FAULTS, and those with which a start-up begins
or ends. -/
def State.FaultsClearedBy (s : State) : Instr → Prop
  | .powerOn => True
  | .resetPin => True
  | .settingsLoadEnd _ => s.phase = .loading
  | .transmitterFrameDone p => ∃ x, (s.ports.get p).sending = some x ∧ x.effect = .restart
  | .readFaults p => s.cls p = .supervisor
  | _ => False

/-- Bit `i` of the fault summary is set in the next state that an outcome gives. -/
def SetAfter (i : Nat) (o : Host.Outcome State Fault Refusal) : Prop := ∀ t, o = .next t → t.faults.getLsbD i = true

theorem SetAfter.next {i : Nat} {u : State} (h : u.faults.getLsbD i = true) : SetAfter i (.next u) := by
  rintro t ⟨⟩
  exact h

section
variable {s : State} {i : Nat} (h : s.faults.getLsbD i = true)
include h

/-- Executing a telegram keeps what its act keeps. -/
theorem SetAfter.telegram {p : PortId} {k : Byte} {act : Telegram → State → State}
    (hact : ∀ t, (act t s).faults.getLsbD i = true) : SetAfter i (.next (s.execTelegram p k act)) := by
  refine .next ?_
  rcases State.execTelegram_cases s p k act with ⟨t, -, -, heq⟩ | heq
  · simp [heq, hact]
  · rw [heq, h]

theorem execTakeFrame_keeps_fault (p : PortId) (chars : List Byte) : SetAfter i (execTakeFrame p chars s) := by
  unfold execTakeFrame
  split
  · exact .next (by simp [h])
  · exact .next h

theorem execFrameGapTimeout_keeps_fault (p : PortId) : SetAfter i (execFrameGapTimeout p s) := by
  unfold execFrameGapTimeout
  split
  · exact .next (by simp [h])
  · exact .next h

theorem execUnknownKind_keeps_fault (p : PortId) : SetAfter i (execUnknownKind p s) := by
  unfold execUnknownKind
  split
  · split
    · exact .next h
    · exact .next (by simp [h])
  · exact .next h

theorem execSaveEnd_keeps_fault (acknowledged : Bool) (readBack : List Byte) :
    SetAfter i (execSaveEnd acknowledged readBack s) := by
  unfold execSaveEnd
  split
  · refine .next ?_
    simp only [State.kickPorts_frame]
    exact State.setFaultIf_keeps_fault (s := s.setSaving none) h _ _
  · exact .next h

/-- A frame that leaves brings no start-up where it is no RESTART's reply. -/
theorem execTransmitterFrameDone_keeps_fault (p : PortId)
    (hframe : ¬∃ x, (s.ports.get p).sending = some x ∧ x.effect = .restart) :
    SetAfter i (execTransmitterFrameDone p s) := by
  unfold execTransmitterFrameDone
  split
  case h_1 x hsending =>
    refine .next ?_
    cases heffect : x.effect with
    | restart => exact absurd ⟨x, hsending, heffect⟩ hframe
    | none => simp [State.frameLeft, h]
    | lineRate target rate => simp [State.frameLeft, h]
  case h_2 => exact .next h

theorem execNoticeSpacingExpiry_keeps_fault (p : PortId) : SetAfter i (execNoticeSpacingExpiry p s) := by
  unfold execNoticeSpacingExpiry
  split
  · exact .next (by simp [h])
  · exact .next h

theorem execPassTimerExpiry_keeps_fault (g : SegId) : SetAfter i (execPassTimerExpiry g s) := by
  unfold execPassTimerExpiry
  split
  · exact .next (by simp [h])
  · exact .next h

theorem execResponseTaken_keeps_fault (g : SegId) (chars : List Byte) : SetAfter i (execResponseTaken g chars s) := by
  unfold execResponseTaken
  split
  · split
    · exact .next h
    · exact .next (by simp [h])
  · exact .next h

theorem execReadyPauseExpiry_keeps_fault (g : SegId) : SetAfter i (execReadyPauseExpiry g s) := by
  unfold execReadyPauseExpiry
  split
  · exact .next (by simp [h])
  · exact .next h

theorem execAttentionPollEnd_keeps_fault (g : SegId) (slots : List (Option Byte)) :
    SetAfter i (execAttentionPollEnd g slots s) := by
  unfold execAttentionPollEnd
  split
  · exact .next (by simp [h])
  · exact .next h

theorem execSettleDeadlineExpiry_keeps_fault (g : SegId) (a : Nat) (o : Expiry OutputId) :
    SetAfter i (execSettleDeadlineExpiry g a o s) := by
  unfold execSettleDeadlineExpiry
  split
  · split
    · exact .next (by simp [h])
    · exact .next h
  · exact .next h

theorem execIcingClearExpiry_keeps_fault : SetAfter i (execIcingClearExpiry s) := by
  unfold execIcingClearExpiry
  split
  · exact .next (by simp [h])
  · exact .next h

theorem execRotationExpiry_keeps_fault (l : LoopId) : SetAfter i (execRotationExpiry l s) := by
  unfold execRotationExpiry
  split
  · exact .next (by simp [h])
  · exact .next h

theorem execRequestExpiry_keeps_fault (p : PortId) (l : Expiry LoopId) : SetAfter i (execRequestExpiry p l s) := by
  unfold execRequestExpiry
  split
  · split
    · exact .next (by simp [h])
    · exact .next h
  · exact .next h

theorem execOverrideExpiry_keeps_fault (n : Expiry Nat) : SetAfter i (execOverrideExpiry n s) := by
  unfold execOverrideExpiry
  split
  · split
    · exact .next (by simp [h])
    · exact .next h
  · exact .next h

/-- No command but those named clears a flag (R159). -/
theorem exec_keeps_fault {c : Instr} (hc : ¬s.FaultsClearedBy c) : SetAfter i (exec c s) := by
  cases c with
  | powerOn => exact absurd trivial hc
  | resetPin => exact absurd trivial hc
  | settingsLoadEnd image =>
    have hrun : s.phase = .running := by
      cases hphase : s.phase with
      | loading => exact absurd hphase hc
      | running => rfl
    simp only [exec, execSettingsLoadEnd, hrun]
    exact .next h
  | takeFrame p chars => exact execTakeFrame_keeps_fault h p chars
  | frameGapTimeout p => exact execFrameGapTimeout_keeps_fault h p
  | unknownKind p => exact execUnknownKind_keeps_fault h p
  | readPoint p => exact .telegram h fun t => State.readPoint_keeps_fault h p t
  | readStation p => exact .telegram h fun t => by simp [h]
  | readStatus p => exact .telegram h fun t => by simp [h]
  | readFaults p => exact .telegram h fun t => by rw [State.readFaults_faults s p t hc, h]
  | readOverrides p => exact .telegram h fun t => by simp [h]
  | readSetting p => exact .telegram h fun t => by simp [h]
  | postRequest p => exact .telegram h fun t => State.postRequest_keeps_fault h p t
  | withdrawRequest p => exact .telegram h fun t => State.withdrawRequest_keeps_fault h p t
  | fence p => exact .telegram h fun t => by simp [h]
  | setOverride p => exact .telegram h fun t => State.setOverride_keeps_fault h p t
  | releaseOverride p => exact .telegram h fun t => State.releaseOverride_keeps_fault h p t
  | map p => exact .telegram h fun t => by simp [h]
  | unmap p => exact .telegram h fun t => by simp [h]
  | flush p => exact .telegram h fun t => by simp [h]
  | probeByAddress p => exact .telegram h fun t => by simp [h]
  | probeByIndex p => exact .telegram h fun t => by simp [h]
  | markStale p => exact .telegram h fun t => by simp [h]
  | writeSetting p => exact .telegram h fun t => State.writeSetting_keeps_fault h p t
  | saveSettings p => exact .telegram h fun t => by simp [h]
  | saveEnd acknowledged readBack => exact execSaveEnd_keeps_fault h acknowledged readBack
  | restart p => exact .telegram h fun t => by simp [h]
  | transmitterFrameDone p => exact execTransmitterFrameDone_keeps_fault h p hc
  | noticeSpacingExpiry p => exact execNoticeSpacingExpiry_keeps_fault h p
  | passTimerExpiry g => exact execPassTimerExpiry_keeps_fault h g
  | responseTaken g chars => exact execResponseTaken_keeps_fault h g chars
  | responseWindowExpiry g => exact .next (State.windowExpired_keeps_fault h g)
  | readyPauseExpiry g => exact execReadyPauseExpiry_keeps_fault h g
  | attentionLineChange g level => exact .next (by simp [h])
  | attentionPollEnd g slots => exact execAttentionPollEnd_keeps_fault h g slots
  | settleDeadlineExpiry g a o => exact execSettleDeadlineExpiry_keeps_fault h g a o
  | icingClearExpiry => exact execIcingClearExpiry_keeps_fault h
  | rotationExpiry l => exact execRotationExpiry_keeps_fault h l
  | requestExpiry p l => exact execRequestExpiry_keeps_fault h p l
  | overrideExpiry n => exact execOverrideExpiry_keeps_fault h n

/-- A step clears no flag but with a command that clears flags. -/
theorem step_keeps_fault (hc : ∀ c, s.pending.head? = some c → ¬s.FaultsClearedBy c) : SetAfter i (step s) := by
  unfold step
  split
  case h_1 => exact .next h
  case h_2 c rest hpending =>
    exact exec_keeps_fault (s := { s with pending := rest }) h (hc c (by rw [hpending, List.head?_cons]))

end

/-- Settles O27: a cause sets one bit of the fault summary, READ FAULTS answers with the summary, and every other step keeps
each bit that is set. -/
theorem faultsAreStickyUntilRead : Obligations.FaultsAreStickyUntilRead := by
  refine ⟨fun s f => ⟨?set, fun g hne => ?other, fun hset => if_pos hset, State.setFault_notices⟩,
    fun s p t hready hkind => ⟨fun hbody => ?malformed, fun hbody => ?done⟩,
    fun s t f hstep hset hpower hpin hload hframe hread => ?kept⟩
  case set => rw [State.setFault_hasFault, f.mask_bit, Bool.or_true]
  case other => rw [State.setFault_hasFault, FaultFlag.mask_other_bit hne, Bool.or_false]
  case malformed =>
    rw [exec_readFaults_ready hready hkind, State.readFaults_malformed hbody, State.refuse_kickPorts hready.1]
    rfl
  case done =>
    rw [exec_readFaults_ready hready hkind, State.readFaults_done hbody, State.reply_setFaults_kickPorts hready.1,
      faultBytes_eq]
    rfl
  case kept =>
    refine step_keeps_fault hset (fun c hhead hclears => ?_) t hstep
    cases c with
    | powerOn => exact hpower hhead
    | resetPin => exact hpin hhead
    | settingsLoadEnd image => exact absurd (hclears.symm.trans (hload image hhead)) (by decide)
    | transmitterFrameDone p =>
      obtain ⟨x, hsending, heffect⟩ := hclears
      exact hframe p x hhead hsending heffect
    | readFaults p => exact hread p hhead hclears
    | _ => exact hclears

end Sys2Proof.Machine
end

section
/-! What an event of the part keeps: `Event gs s u` relates the state before an event to the one before the segments `gs`
choose their next call. It carries every invariant of a safe state, so that each operation is looked at once. -/

namespace Sys2Proof.Machine

/-! ### The words -/

/-- R154 for one port. -/
def Port.QueueBounded (x : Port) : Prop :=
  x.queue.length ≤ 16 ∧ (x.paused = false → x.queue.length < 12) ∧ (x.paused = true → 4 < x.queue.length)

/-- R160 for one port. -/
def Port.Empty (x : Port) : Prop := x.queue = [] ∧ x.receiving = none ∧ x.replies = [] ∧ x.sending = none

/-- 12.2 for one port. -/
def Port.FramesShort (x : Port) : Prop :=
  (∀ f ∈ x.replies, f.body.length ≤ 248) ∧ ∀ f, x.sending = some f → f.body.length ≤ 248

/-- What an update of a port keeps, in a part of this phase. -/
structure Port.Kept (phase : Phase) (x y : Port) : Prop where
  queue : x.QueueBounded → y.QueueBounded
  empty : phase = .loading → x.Empty → y.Empty
  frames : x.FramesShort → y.FramesShort

/-- What the controller of a segment looks at in a station when it chooses. -/
def Station.seen (st : Station) : Station := { st with points := [] }

/-- Everything a segment looks at when it chooses, and what its WRITE in flight carries, is as it was. -/
structure State.SegmentKept (s u : State) (g : SegId) : Prop where
  fsc : u.fsc.get g = s.fsc.get g := by exact rfl
  image : (u.image.get g).map Station.seen = (s.image.get g).map Station.seen := by exact rfl
  buffer : (u.buffer.get g).map Entry.station = (s.buffer.get g).map Entry.station := by exact rfl
  flying : u.flyingFields g = s.flyingFields g := by exact rfl
  settle : (u.settle.get g).length = (s.settle.get g).length := by exact rfl
  population : u.settings.population g = s.settings.population g := by exact rfl

/-- What an event leaves before the segments `gs` choose. -/
structure Event (gs : List SegId) (s u : State) : Prop where
  pending : u.pending = s.pending := by exact rfl
  now : s.now ≤ u.now := by exact Nat.le_refl _
  phase : u.phase = s.phase := by exact rfl
  segments : ∀ g, g ∉ gs → s.SegmentKept u g := by exact fun _ _ => {}
  counters : s.CountersBounded → u.CountersBounded := by exact id
  image : s.ImageFollowsPopulation → u.ImageFollowsPopulation := by exact id
  demand : s.DemandBounded → u.DemandBounded := by exact id
  orders : s.OrdersComplete → u.OrdersComplete := by exact id
  merges : s.MergesOrdered → u.MergesOrdered := by exact id
  settle : s.SettleListsBounded → u.SettleListsBounded := by exact id
  buffers : s.BuffersFormed → u.BuffersFormed := by exact id
  overrides : s.OverridesFormed → u.OverridesFormed := by exact id
  accessMap : s.MapFormed → u.MapFormed := by exact id
  settings : s.SettingsFormed → u.SettingsFormed := by exact id
  margins : s.MarginsCurrent → u.MarginsCurrent := by exact id
  caps : s.CapsFollowFrost → u.CapsFollowFrost := by exact id
  fences : s.FencesFollowMarks → u.FencesFollowMarks := by exact id
  queues : s.QueuesBounded → u.QueuesBounded := by exact id
  loading : s.LoadingHeld → u.LoadingHeld := by exact id
  frames : s.ImageFollowsPopulation → s.OrdersComplete → s.CapsFollowFrost → s.OverridesFormed → s.FramesBounded →
    u.FramesBounded := by exact fun _ _ _ _ => id

theorem Port.Kept.refl (phase : Phase) (x : Port) : x.Kept phase x := ⟨id, fun _ => id, id⟩

theorem Port.Kept.trans {phase : Phase} {x y z : Port} (h : x.Kept phase y) (k : y.Kept phase z) : x.Kept phase z :=
  ⟨k.queue ∘ h.queue, fun hl => k.empty hl ∘ h.empty hl, k.frames ∘ h.frames⟩

theorem State.SegmentKept.trans {s u t : State} {g : SegId} (h : s.SegmentKept u g) (k : u.SegmentKept t g) :
    s.SegmentKept t g :=
  ⟨k.fsc.trans h.fsc, k.image.trans h.image, k.buffer.trans h.buffer, k.flying.trans h.flying, k.settle.trans h.settle,
    k.population.trans h.population⟩

section
variable {gs : List SegId} {s u t : State}

theorem Event.refl (gs : List SegId) (s : State) : Event gs s s where

theorem Event.trans (h : Event gs s u) (k : Event gs u t) : Event gs s t where
  pending := k.pending.trans h.pending
  now := h.now.trans k.now
  phase := k.phase.trans h.phase
  segments g hg := (h.segments g hg).trans (k.segments g hg)
  counters := k.counters ∘ h.counters
  image := k.image ∘ h.image
  demand := k.demand ∘ h.demand
  orders := k.orders ∘ h.orders
  merges := k.merges ∘ h.merges
  settle := k.settle ∘ h.settle
  buffers := k.buffers ∘ h.buffers
  overrides := k.overrides ∘ h.overrides
  accessMap := k.accessMap ∘ h.accessMap
  settings := k.settings ∘ h.settings
  margins := k.margins ∘ h.margins
  caps := k.caps ∘ h.caps
  fences := k.fences ∘ h.fences
  queues := k.queues ∘ h.queues
  loading := k.loading ∘ h.loading
  frames hi ho hc hv := k.frames (h.image hi) (h.orders ho) (h.caps hc) (h.overrides hv) ∘ h.frames hi ho hc hv

/-- An event that leaves all segments' choices alone does so with some segments to choose after it. -/
theorem Event.mono (h : Event [] s u) : Event gs s u where
  pending := h.pending
  now := h.now
  phase := h.phase
  segments g _ := h.segments g List.not_mem_nil
  counters := h.counters
  image := h.image
  demand := h.demand
  orders := h.orders
  merges := h.merges
  settle := h.settle
  buffers := h.buffers
  overrides := h.overrides
  accessMap := h.accessMap
  settings := h.settings
  margins := h.margins
  caps := h.caps
  fences := h.fences
  queues := h.queues
  loading := h.loading
  frames := h.frames

/-- A run of events, one for each member of a list. -/
theorem Event.foldl {α : Type} {f : State → α → State} (hf : ∀ (u : State) (x : α), Event gs u (f u x)) (xs : List α)
    (s : State) : Event gs s (xs.foldl f s) := by
  induction xs generalizing s with
  | nil => exact .refl gs s
  | cons x xs ih => exact (hf s x).trans (ih _)

/-! ### Time, faults, slots and the states of a save and of a RESTART -/

@[simp] theorem Event.advanceTo (moment : Nat) : Event gs s (s.advanceTo moment) where
  now := Nat.le_max_left ..

theorem Event.setFaults (f : BitVec 24) : Event gs s (s.setFaults f) where

theorem Event.modSlot (p : PortId) (l : LoopId) (r : Option Request) : Event gs s (s.modSlot p l r) where

theorem Event.setSaving (image : Option (List Byte)) : Event gs s (s.setSaving image) where

theorem Event.setRestartPending : Event gs s s.setRestartPending where

/-! ### Ports -/

/-- The ports change alone, each keeping what a port keeps. -/
theorem Event.ports (ports : PerPort Port) (h : ∀ p, (s.ports.get p).Kept s.phase (ports.get p)) :
    Event gs s { s with ports := ports } where
  queues hs p := (h p).queue (hs p)
  loading hs hl p := (h p).empty hl (hs hl p)
  frames _ _ _ _ hs p := (h p).frames (hs p)

theorem Event.mapPorts {f : PortId → Port → Port} (h : ∀ p, (s.ports.get p).Kept s.phase (f p (s.ports.get p))) :
    Event gs s (s.mapPorts f) :=
  .ports _ fun p => by rw [PerPort.get_map]; exact h p

theorem Event.modPort {p : PortId} {f : Port → Port} (h : (s.ports.get p).Kept s.phase (f (s.ports.get p))) :
    Event gs s (s.modPort p f) :=
  .ports _ fun q => by
    rw [PerPort.get_modify]
    split
    · next hq => subst hq; exact h
    · exact .refl _ _

/-- An update that leaves the queue, the pause state and the frames of a port alone, and drops what it receives or
nothing, keeps what a port keeps. -/
theorem Port.Kept.quiet {phase : Phase} {x y : Port} (hq : y.queue = x.queue) (hp : y.paused = x.paused)
    (hr : y.replies = x.replies) (hs : y.sending = x.sending ∨ y.sending = none)
    (hv : y.receiving = x.receiving ∨ y.receiving = none ∨ phase = .running) : x.Kept phase y where
  queue h := by unfold Port.QueueBounded; rw [hq, hp]; exact h
  empty hl h := by
    obtain ⟨hq', hv', hr', hs'⟩ := h
    refine ⟨hq.trans hq', ?_, hr.trans hr', ?_⟩
    · rcases hv with hv | hv | hv
      · exact hv.trans hv'
      · exact hv
      · exact absurd (hl.symm.trans hv) (by decide)
    · rcases hs with hs | hs
      · exact hs.trans hs'
      · exact hs
  frames h := by
    refine ⟨hr ▸ h.1, fun f hf => h.2 f ?_⟩
    rcases hs with hs | hs
    · exact hs ▸ hf
    · exact absurd (hs.symm.trans hf) (by simp)

theorem Port.Kept.raise (phase : Phase) (x : Port) (e : Bool) (b : NoticeBit) : x.Kept phase (x.raise e b) := by
  unfold Port.raise
  split
  · exact .quiet rfl rfl rfl (.inl rfl) (.inl rfl)
  · exact .refl _ _

theorem Event.notify (b : NoticeBit) (p : PortId) : Event gs s (s.notify b p) := .modPort (.raise ..)

theorem Event.notifyAll (b : NoticeBit) : Event gs s (s.notifyAll b) := .mapPorts fun _ => .raise ..

theorem Event.notifySet (b : NoticeBit) (ps : PortSet) : Event gs s (s.notifySet b ps) :=
  .mapPorts fun p => by
    split
    · exact .raise ..
    · exact .refl _ _

theorem Event.notifyIf (cause : Bool) (b : NoticeBit) : Event gs s (s.notifyIf cause b) := by
  cases cause
  · exact .refl gs s
  · exact .notifyAll b

theorem Event.setFault (f : FaultFlag) : Event gs s (s.setFault f) := by
  unfold State.setFault
  split
  · exact .refl gs s
  · exact (Event.setFaults _).trans (.notifyAll _)

theorem Event.setFaultIf (cause : Bool) (f : FaultFlag) : Event gs s (s.setFaultIf cause f) := by
  cases cause
  · exact .refl gs s
  · exact .setFault f

theorem Port.QueueBounded.form {x : Port} (h : x.QueueBounded) (body : List Byte) (e : FrameEffect) :
    (x.form body e).QueueBounded := by
  cases hx : x.queue with
  | nil => unfold Port.form; rw [hx]; exact h
  | cons t rest =>
    obtain ⟨hq, -, hp, -⟩ := Port.form_cons hx body e
    obtain ⟨hroom, hclear, hpaused⟩ := h
    rw [hx, List.length_cons] at hroom hclear hpaused
    unfold Port.QueueBounded
    rw [hq, hp]
    cases hxp : x.paused
    · have := hclear hxp
      refine ⟨by omega, fun _ => by omega, fun hc => by simp at hc⟩
    · have := hpaused hxp
      refine ⟨by omega, fun hc => ?_, fun hc => ?_⟩ <;> simp at hc <;> omega

theorem Port.Empty.form {x : Port} (h : x.Empty) (body : List Byte) (e : FrameEffect) : (x.form body e).Empty := by
  unfold Port.form
  rw [h.1]
  exact h

theorem Port.FramesShort.form {x : Port} (h : x.FramesShort) {body : List Byte} (hb : body.length ≤ 248)
    (e : FrameEffect) : (x.form body e).FramesShort := by
  cases hx : x.queue with
  | nil => unfold Port.form; rw [hx]; exact h
  | cons t rest =>
    obtain ⟨-, hr, -, hs, -⟩ := Port.form_cons hx body e
    refine ⟨fun f hmem => ?_, fun f hsend => h.2 f (hs ▸ hsend)⟩
    rw [hr] at hmem
    rcases List.mem_append.1 hmem with hmem | hmem
    · exact h.1 f hmem
    · rw [List.mem_singleton.1 hmem]
      exact hb

/-- A port forms a reply whose body fits its frame in a safe state. -/
theorem Event.replyWith {p : PortId} {body : List Byte} (h : s.ImageFollowsPopulation → s.OrdersComplete →
    s.CapsFollowFrost → s.OverridesFormed → body.length ≤ 248) (e : FrameEffect) :
    Event gs s (s.replyWith p body e) where
  queues hs q := by
    rw [State.replyWith, State.modPort_ports, PerPort.get_modify]
    split
    · exact Port.QueueBounded.form (hs q) body e
    · exact hs q
  loading hs hl q := by
    rw [State.replyWith, State.modPort_ports, PerPort.get_modify]
    split
    · exact Port.Empty.form (hs hl q) body e
    · exact hs hl q
  frames hi ho hc hv hs q := by
    rw [State.replyWith, State.modPort_ports, PerPort.get_modify]
    split
    · exact Port.FramesShort.form (hs q) (h hi ho hc hv) e
    · exact hs q

theorem Event.reply {p : PortId} {body : List Byte} (h : body.length ≤ 248) : Event gs s (s.reply p body) :=
  .replyWith (fun _ _ _ _ => h) _

theorem Event.refuse (p : PortId) (r : RefusalCode) : Event gs s (s.refuse p r) := .reply (by simp)

theorem Event.refuseMiss (p : PortId) (w : Word) : Event gs s (s.refuseMiss p w) := .reply (by simp [be16])

end

end Sys2Proof.Machine
end

section
/-! One event of the Freeze Protection Block (R55, R66): what it leaves in each loop, from the values it reads; that it
gives notices and changes no more of the allocators than command records; and what it keeps. -/

namespace Sys2Proof.Machine

/-! ### Notices alone, command records alone -/

/-- The ports differ at most in notice bits, set where notices are enabled. -/
structure State.Noticed (s u : State) : Prop where
  settings : u.settings = s.settings
  ports : ∃ bits, u.ports = s.noticed bits

/-- The allocators differ at most in their command records. -/
structure State.CommandsOnly (s u : State) : Prop where
  alloc : ∀ l, u.alloc.get l = { s.alloc.get l with commands := (u.alloc.get l).commands }

section
variable {s u t : State}

theorem State.Noticed.of_eq (h : u.settings = s.settings) (hp : u.ports = s.ports) : s.Noticed u :=
  ⟨h, fun _ => 0#8, by rw [hp, State.noticed_none]⟩

theorem State.Noticed.trans (h : s.Noticed u) (k : u.Noticed t) : s.Noticed t := by
  obtain ⟨hs, bits, hb⟩ := h
  obtain ⟨ks, more, kb⟩ := k
  refine ⟨ks.trans hs, fun p => bits p ||| more p, ?_⟩
  rw [kb, ← State.noticed_noticed]
  unfold State.noticed
  rw [hs, hb]
  rfl

theorem State.Noticed.setTa (s : State) (x : Int) : s.Noticed (s.setTa x) := .of_eq rfl rfl

theorem State.Noticed.notifyAll (s : State) (b : NoticeBit) : s.Noticed (s.notifyAll b) :=
  ⟨by simp, fun _ => b.mask, by rw [State.notifyAll_eq]⟩

theorem State.Noticed.notifyIf (s : State) (cause : Bool) (b : NoticeBit) : s.Noticed (s.notifyIf cause b) :=
  ⟨by simp, _, by rw [State.notifyIf_eq]⟩

theorem State.Noticed.notifySet (s : State) (b : NoticeBit) (ps : PortSet) : s.Noticed (s.notifySet b ps) :=
  ⟨by simp, _, by rw [State.notifySet_eq]⟩

theorem State.Noticed.setFault (s : State) (f : FaultFlag) : s.Noticed (s.setFault f) :=
  ⟨by simp, _, by rw [State.setFault_noticed]⟩

theorem State.Noticed.setFaultIf (s : State) (cause : Bool) (f : FaultFlag) : s.Noticed (s.setFaultIf cause f) :=
  ⟨by simp, _, by rw [State.setFaultIf_noticed rfl]⟩

/-- What a port has other than its notice bits is as it was. -/
theorem State.Noticed.get (h : s.Noticed u) (p : PortId) :
    u.ports.get p = { s.ports.get p with notices := (u.ports.get p).notices } := by
  obtain ⟨-, bits, hb⟩ := h
  rw [hb, State.noticed_get]
  split <;> rfl

theorem State.Noticed.kept (h : s.Noticed u) (p : PortId) : (s.ports.get p).Kept s.phase (u.ports.get p) := by
  rw [h.get p]
  exact .quiet rfl rfl rfl (.inl rfl) (.inl rfl)

theorem State.CommandsOnly.of_eq (h : u.alloc = s.alloc) : s.CommandsOnly u := ⟨fun l => by rw [h]⟩

theorem State.CommandsOnly.trans (h : s.CommandsOnly u) (k : u.CommandsOnly t) : s.CommandsOnly t :=
  ⟨fun l => by rw [k.alloc l, h.alloc l]⟩

theorem State.CommandsOnly.modFpb (s : State) (l : LoopId) (f : Fpb → Fpb) : s.CommandsOnly (s.modFpb l f) := .of_eq rfl

theorem State.CommandsOnly.setFaultIf (s : State) (cause : Bool) (f : FaultFlag) :
    s.CommandsOnly (s.setFaultIf cause f) := .of_eq (by simp)

theorem State.CommandsOnly.notifyIf (s : State) (cause : Bool) (b : NoticeBit) :
    s.CommandsOnly (s.notifyIf cause b) := .of_eq (by simp)

theorem State.CommandsOnly.modCommands (s : State) (l : LoopId) (a : Nat) (f : StationCommands → StationCommands) :
    s.CommandsOnly (s.modCommands l a f) := ⟨fun k => by
  rw [State.modCommands, State.modAlloc_alloc, PerSeg.get_modify]
  split <;> rfl⟩

theorem State.CommandsOnly.repost (s : State) (l : LoopId) (a : Nat) (o : OutputId) : s.CommandsOnly (s.repost l a o) :=
  .modCommands ..

theorem State.CommandsOnly.repostAll (s : State) (l : LoopId) (as : List Nat) (o : OutputId) :
    s.CommandsOnly (s.repostAll l as o) := ⟨fun k => by
  rw [State.repostAll, State.modAlloc_alloc, PerSeg.get_modify]
  split <;> rfl⟩

end

/-! ### What an event reads -/

/-- The state after the first two stages of an event: the concentrations, freeze points and flow marks, and the yard
ambient (R55). -/
def State.fpbRead (s : State) (e : FpbEvent) : State :=
  State.fpbAmbient e (State.fpbGlycol e .fs1 (State.fpbGlycol e .fs0 s))

theorem State.fpbGlycol_get (s : State) (e : FpbEvent) (l k : LoopId) :
    (State.fpbGlycol e l s).fpb.get k = if k = l then
      { s.fpb.get k with
        cu := if e.cu.get k then s.concentrationFound k else (s.fpb.get k).cu
        fp := if e.table || (if e.cu.get k then s.concentrationFound k else (s.fpb.get k).cu) != (s.fpb.get k).cu then
            freezePoint s.settings.freezeTable (if e.cu.get k then s.concentrationFound k else (s.fpb.get k).cu)
          else (s.fpb.get k).fp
        flowAdequate := if e.flow.get k then s.flowFound k else (s.fpb.get k).flowAdequate }
      else s.fpb.get k := by
  rw [State.fpbGlycol, State.modFpb_fpb, PerSeg.get_modify]
  split
  · next h => subst h; rfl
  · rfl

section
variable {s : State} {e : FpbEvent} {l : LoopId}

/-- The concentration, freeze point and flow mark an event reads; nothing else of a loop changes yet. -/
theorem State.fpbRead_get (s : State) (e : FpbEvent) (l : LoopId) :
    (s.fpbRead e).fpb.get l =
      { s.fpb.get l with
        cu := if e.cu.get l then s.concentrationFound l else (s.fpb.get l).cu
        fp := if e.table || (if e.cu.get l then s.concentrationFound l else (s.fpb.get l).cu) != (s.fpb.get l).cu then
            freezePoint s.settings.freezeTable (if e.cu.get l then s.concentrationFound l else (s.fpb.get l).cu)
          else (s.fpb.get l).fp
        flowAdequate := if e.flow.get l then s.flowFound l else (s.fpb.get l).flowAdequate } := by
  have hambient : ∀ u : State, (State.fpbAmbient e u).fpb = u.fpb := fun u => by simp
  rw [State.fpbRead, hambient, State.fpbGlycol_get]
  cases l
  · rw [if_neg (by decide), State.fpbGlycol_get, if_pos rfl]
  · rw [if_pos rfl, State.fpbGlycol_get, if_neg (by decide)]
    rfl

theorem State.fpbRead_ta : (s.fpbRead e).ta = if e.ta then s.computeTa.ta else s.ta := by
  have hta : ∀ u : State, u.image = s.image → u.settings = s.settings → u.computeTa.ta = s.computeTa.ta := by
    intro u hi hs
    have hread : u.ambientReadings = s.ambientReadings := by
      simp [State.ambientReadings, State.validPoint, State.point, State.station?, hi]
    unfold State.computeTa
    rw [hread, hs]
    split <;> simp
  unfold State.fpbRead State.fpbAmbient
  split
  · exact hta _ (by simp) (by simp)
  · simp only [State.fpbGlycol_frame]

@[simp] theorem State.fpbRead_frame (s : State) (e : FpbEvent) :
    (s.fpbRead e).settings = s.settings ∧ (s.fpbRead e).image = s.image ∧ (s.fpbRead e).alloc = s.alloc := by
  simp [State.fpbRead]

theorem State.Noticed.computeTa (s : State) : s.Noticed s.computeTa := by
  unfold State.computeTa
  split
  · exact .setTa _ _
  · exact (State.Noticed.setTa _ _).trans (.setFault _ _)

theorem State.Noticed.fpbRead (s : State) (e : FpbEvent) : s.Noticed (s.fpbRead e) := by
  unfold State.fpbRead State.fpbAmbient
  split
  · exact (State.Noticed.of_eq (by simp) (by simp)).trans (.computeTa _)
  · exact .of_eq (by simp) (by simp)

end

/-! ### What an event evaluates -/

section
variable (s : State) (l k : LoopId)

theorem State.computeMa_get : (s.computeMa l).fpb.get k = if k = l then
    { s.fpb.get k with
      ma := marginOver s.ta (s.fpb.get k).fp s.settings.guardBand
      permitted := isolationNext (s.fpb.get k).permitted (marginOver s.ta (s.fpb.get k).fp s.settings.guardBand) }
    else s.fpb.get k := by
  have h : (s.computeMa l).fpb = s.fpb.modify l fun f => { f with
      ma := marginOver s.ta (s.fpb.get l).fp s.settings.guardBand
      permitted := isolationNext (s.fpb.get l).permitted (marginOver s.ta (s.fpb.get l).fp s.settings.guardBand) } := by
    unfold State.computeMa
    dsimp only
    split <;> simp
  rw [h, PerSeg.get_modify]
  split
  · next hk => subst hk; rfl
  · rfl

theorem State.CommandsOnly.computeMa : s.CommandsOnly (s.computeMa l) := by
  unfold State.computeMa
  dsimp only
  split
  · exact .of_eq (by simp)
  · exact (State.CommandsOnly.modFpb ..).trans (.repostAll _ _ _ _)

theorem State.recomputeCap_get : (s.recomputeCap l).fpb.get k =
    if k = l then { s.fpb.get k with bmax := bypassCap (s.fpb.get k).units } else s.fpb.get k := by
  have h : (s.recomputeCap l).fpb = s.fpb.modify l fun f => { f with bmax := bypassCap (s.fpb.get l).units } := by
    unfold State.recomputeCap
    dsimp only
    split <;> simp
  rw [h, PerSeg.get_modify]
  split
  · next hk => subst hk; rfl
  · rfl

theorem State.CommandsOnly.recomputeCap : s.CommandsOnly (s.recomputeCap l) := by
  unfold State.recomputeCap
  dsimp only
  split
  · exact .of_eq (by simp)
  · exact (State.CommandsOnly.modFpb ..).trans (.repost _ _ _ _)

end

/-- The units of a loop once those an event reaches are evaluated. -/
def State.unitsEvaluated (s : State) (l : LoopId) (reached : UnitFrost → Bool) : List UnitFrost :=
  (s.fpb.get l).units.map fun u => if reached u then s.evaluateUnit l u else u

section
variable (s : State) (l k : LoopId) (reached : UnitFrost → Bool) (restart : Bool)

/-- A frost evaluation leaves the units evaluated, and the cap they give where one changed or the segment restarts. -/
theorem State.fpbFrost_get : (State.fpbFrost l reached restart s).fpb.get k = if k = l then
    { s.fpb.get k with
      units := s.unitsEvaluated k reached
      bmax := if (frostChanges (s.fpb.get k).units (s.unitsEvaluated k reached)).isEmpty && !restart then
        (s.fpb.get k).bmax else bypassCap (s.unitsEvaluated k reached) }
    else s.fpb.get k := by
  have hunits : (s.fpb.get l).units.map (fun u => if reached u then s.evaluateUnit l u else u) =
    s.unitsEvaluated l reached := rfl
  unfold State.fpbFrost
  dsimp only
  rw [hunits]
  by_cases hk : k = l
  · subst hk
    rw [if_pos rfl]
    split <;> simp [State.recomputeCap_get]
  · rw [if_neg hk]
    split <;> simp [State.recomputeCap_get, PerSeg.get_modify_other, hk]

theorem State.CommandsOnly.fpbFrost : s.CommandsOnly (State.fpbFrost l reached restart s) := by
  unfold State.fpbFrost
  dsimp only
  refine State.CommandsOnly.trans ?_ (.setFaultIf _ _ _)
  refine State.CommandsOnly.trans ?_ (.notifyIf _ _ _)
  split
  · exact (State.CommandsOnly.modFpb ..).trans ((State.CommandsOnly.repostAll ..).trans (.repostAll ..))
  · exact ((State.CommandsOnly.modFpb ..).trans ((State.CommandsOnly.repostAll ..).trans (.repostAll ..))).trans
      (.recomputeCap _ _)

theorem State.Noticed.fpbFrost : s.Noticed (State.fpbFrost l reached restart s) := by
  unfold State.fpbFrost
  dsimp only
  refine State.Noticed.trans ?_ (.setFaultIf _ _ _)
  refine State.Noticed.trans ?_ (.notifyIf _ _ _)
  split <;> exact .of_eq (by simp) (by simp)

end

/-- An evaluation goes by the image, the settings, the yard ambient, and the loop's freeze point and flow mark. -/
theorem State.evaluateUnit_congr {s t : State} {l : LoopId} (hi : t.image = s.image) (hs : t.settings = s.settings)
    (hta : t.ta = s.ta) (hfp : (t.fpb.get l).fp = (s.fpb.get l).fp)
    (hflow : (t.fpb.get l).flowAdequate = (s.fpb.get l).flowAdequate) : t.evaluateUnit l = s.evaluateUnit l := by
  funext u
  simp [State.evaluateUnit, State.outletUsed, State.isLost, State.link, State.validPoint, State.point, State.station?,
    hi, hs, hta, hfp, hflow]

/-! ### What an event leaves -/

/-- The unit is reached by the event (R54). -/
def FpbEvent.reaches (e : FpbEvent) (s : State) (l : LoopId) (u : UnitFrost) : Bool :=
  reachesUnits e s (s.fpbRead e) l || e.unit == some (l, u.addr)

/-- The units of a loop after an event. -/
def State.unitsAfter (s : State) (e : FpbEvent) (l : LoopId) : List UnitFrost :=
  (s.fpb.get l).units.map fun u => if e.reaches s l u then (s.fpbRead e).evaluateUnit l u else u

/-- The state after the margins and permissions an event reaches are computed. -/
def State.fpbJudged (s : State) (e : FpbEvent) : State :=
  let read := s.fpbRead e
  let first := if reachesMa e s read .fs0 then read.computeMa .fs0 else read
  if reachesMa e s read .fs1 then first.computeMa .fs1 else first

theorem State.fpbEvent_eq (s : State) (e : FpbEvent) :
    s.fpbEvent e = State.fpbFrost .fs1 (e.reaches s .fs1) (e.restart.get .fs1)
      (State.fpbFrost .fs0 (e.reaches s .fs0) (e.restart.get .fs0) (s.fpbJudged e)) := rfl

@[simp] theorem State.fpbJudged_frame (s : State) (e : FpbEvent) :
    (s.fpbJudged e).settings = s.settings ∧ (s.fpbJudged e).image = s.image ∧ (s.fpbJudged e).ta = (s.fpbRead e).ta := by
  unfold State.fpbJudged
  dsimp only
  split <;> split <;> simp

theorem State.fpbJudged_get (s : State) (e : FpbEvent) (l : LoopId) :
    (s.fpbJudged e).fpb.get l =
      { (s.fpbRead e).fpb.get l with
        ma := if reachesMa e s (s.fpbRead e) l then
            marginOver (s.fpbRead e).ta ((s.fpbRead e).fpb.get l).fp s.settings.guardBand
          else (s.fpb.get l).ma
        permitted := if reachesMa e s (s.fpbRead e) l then
            isolationNext (s.fpb.get l).permitted
              (marginOver (s.fpbRead e).ta ((s.fpbRead e).fpb.get l).fp s.settings.guardBand)
          else (s.fpb.get l).permitted } := by
  have hma : ((s.fpbRead e).fpb.get l).ma = (s.fpb.get l).ma := by rw [State.fpbRead_get]
  have hpermitted : ((s.fpbRead e).fpb.get l).permitted = (s.fpb.get l).permitted := by rw [State.fpbRead_get]
  rw [← hma, ← hpermitted]
  unfold State.fpbJudged
  dsimp only
  cases l
  · by_cases h : reachesMa e s (s.fpbRead e) .fs0 = true <;> simp only [h, if_true, Bool.false_eq_true, if_false] <;> split <;>
      simp [State.computeMa_get]
  · by_cases h : reachesMa e s (s.fpbRead e) .fs1 = true <;> simp only [h, if_true, Bool.false_eq_true, if_false] <;> split <;>
      simp [State.computeMa_get]

/-- What an event leaves of a loop: what it read; the margin and the permission, computed afresh where they are reached; the
units reached, evaluated; and the cap, where a frost state changed or the segment restarts (R55, R65). -/
theorem State.fpbEvent_get (s : State) (e : FpbEvent) (l : LoopId) :
    (s.fpbEvent e).fpb.get l =
      { (s.fpbJudged e).fpb.get l with
        units := s.unitsAfter e l
        bmax := if (frostChanges (s.fpb.get l).units (s.unitsAfter e l)).isEmpty && !e.restart.get l then
          (s.fpb.get l).bmax else bypassCap (s.unitsAfter e l) } := by
  have hunits : ((s.fpbJudged e).fpb.get l).units = (s.fpb.get l).units := by rw [State.fpbJudged_get, State.fpbRead_get]
  have hbmax : ((s.fpbJudged e).fpb.get l).bmax = (s.fpb.get l).bmax := by rw [State.fpbJudged_get, State.fpbRead_get]
  have hevaluate : ∀ t : State, t.image = s.image → t.settings = s.settings → t.ta = (s.fpbRead e).ta →
      t.fpb.get l = (s.fpbJudged e).fpb.get l → t.unitsEvaluated l (e.reaches s l) = s.unitsAfter e l := by
    intro t hi hs hta hf
    have hsame : t.evaluateUnit l = (s.fpbRead e).evaluateUnit l :=
      State.evaluateUnit_congr (by simp [hi]) (by simp [hs]) hta (by rw [hf, State.fpbJudged_get])
        (by rw [hf, State.fpbJudged_get])
    rw [State.unitsEvaluated, State.unitsAfter, hf, hunits, hsame]
  rw [State.fpbEvent_eq, State.fpbFrost_get]
  cases l
  · rw [if_neg (by decide), State.fpbFrost_get, if_pos rfl,
      hevaluate (s.fpbJudged e) (by simp) (by simp) (by simp) rfl, hunits, hbmax]
  · have hother : (State.fpbFrost .fs0 (e.reaches s .fs0) (e.restart.get .fs0) (s.fpbJudged e)).fpb.get .fs1 =
        (s.fpbJudged e).fpb.get .fs1 := by rw [State.fpbFrost_get, if_neg (by decide)]
    rw [if_pos rfl, hevaluate _ (by simp) (by simp) (by simp) hother, hother, hunits, hbmax]

theorem State.fpbEvent_ta (s : State) (e : FpbEvent) : (s.fpbEvent e).ta = (s.fpbRead e).ta := by
  simp [State.fpbEvent_eq]

theorem State.CommandsOnly.fpbEvent (s : State) (e : FpbEvent) : s.CommandsOnly (s.fpbEvent e) := by
  have hjudged : s.CommandsOnly (s.fpbJudged e) := by
    unfold State.fpbJudged
    dsimp only
    have hread : s.CommandsOnly (s.fpbRead e) := .of_eq (by simp)
    split <;> split
    · exact hread.trans ((State.CommandsOnly.computeMa _ _).trans (.computeMa _ _))
    · exact hread.trans (.computeMa _ _)
    · exact hread.trans (.computeMa _ _)
    · exact hread
  rw [State.fpbEvent_eq]
  exact hjudged.trans ((State.CommandsOnly.fpbFrost ..).trans (.fpbFrost ..))

theorem State.Noticed.fpbEvent (s : State) (e : FpbEvent) : s.Noticed (s.fpbEvent e) := by
  have hjudged : s.Noticed (s.fpbJudged e) := by
    refine (State.Noticed.fpbRead s e).trans ?_
    unfold State.fpbJudged
    dsimp only
    split <;> split <;> exact .of_eq (by simp) (by simp)
  rw [State.fpbEvent_eq]
  exact hjudged.trans ((State.Noticed.fpbFrost ..).trans (.fpbFrost ..))

end Sys2Proof.Machine
end

section
/-! Freeze protection as an event: the freeze points, margins and caps it keeps current (R47, R50, R65). -/

namespace Sys2Proof.Machine

/-! ### Caps and frost states -/

/-- The cap goes by the frost states alone. -/
theorem bypassCap_congr {us vs : List UnitFrost} (h : us.map UnitFrost.frost = vs.map UnitFrost.frost) :
    bypassCap us = bypassCap vs := by
  have hany : ∀ x : FrostState, (us.any fun u => u.frost == x) = vs.any fun u => u.frost == x := by
    intro x
    have hmap : ∀ ws : List UnitFrost, (ws.any fun u => u.frost == x) = (ws.map UnitFrost.frost).any (· == x) := by
      intro ws; rw [List.any_map]; rfl
    rw [hmap, hmap, h]
  unfold bypassCap
  rw [hany, hany]

/-- Between a list of units and the same units evaluated, no change found is no change of a frost state. -/
theorem map_frost_of_frostChanges_nil {us : List UnitFrost} {f : UnitFrost → UnitFrost}
    (h : frostChanges us (us.map f) = []) : (us.map f).map UnitFrost.frost = us.map UnitFrost.frost := by
  induction us with
  | nil => rfl
  | cons u us ih =>
    rw [List.map_cons, frostChanges] at h
    split at h
    · next hu => simp only [List.map_cons, ih h, ← hu]
    · cases h

@[simp] theorem State.evaluateUnit_kept (s : State) (l : LoopId) (u : UnitFrost) :
    (s.evaluateUnit l u).addr = u.addr ∧ (s.evaluateUnit l u).shortfall = u.shortfall ∧
      (s.evaluateUnit l u).iced = u.iced := ⟨rfl, rfl, rfl⟩

theorem State.unitsAfter_addr (s : State) (e : FpbEvent) (l : LoopId) :
    (s.unitsAfter e l).map UnitFrost.addr = (s.fpb.get l).units.map UnitFrost.addr := by
  rw [State.unitsAfter, List.map_map]
  refine List.map_congr_left fun u _ => ?_
  simp only [Function.comp_apply]
  split <;> simp

/-! ### What an event keeps current -/

/-- An event leaves each loop's freeze point and margin current, where those that it does not compute afresh were. -/
theorem State.fpbEvent_margins {s : State} {e : FpbEvent}
    (hfp : e.table = true ∨ ∀ l, (s.fpb.get l).fp = freezePoint s.settings.freezeTable (s.fpb.get l).cu)
    (hma : e.guard = true ∨ ∀ l, (s.fpb.get l).ma = s.ta - ((s.fpb.get l).fp + s.settings.guardBand)) :
    (s.fpbEvent e).MarginsCurrent := by
  intro l
  rw [State.fpbEvent_ta, State.fpbEvent_get, (State.fpbEvent_frame s e).2.2.2.1]
  dsimp only
  rw [State.fpbJudged_get]
  dsimp only
  refine ⟨?freezePoint, ?margin⟩
  case freezePoint =>
    rw [State.fpbRead_get]
    dsimp only
    generalize (if e.cu.get l then s.concentrationFound l else (s.fpb.get l).cu) = cu
    split
    · rfl
    · next hkept =>
      simp only [Bool.or_eq_true, bne_iff_ne, ne_eq, not_or, not_not] at hkept
      obtain ⟨htable, hcu⟩ := hkept
      rw [hcu]
      exact hfp.resolve_left htable l
  case margin =>
    split
    · rfl
    · next hkept =>
      simp only [reachesMa, Bool.or_eq_true, bne_iff_ne, ne_eq, not_or, not_not] at hkept
      obtain ⟨⟨⟨hguard, -⟩, hta⟩, hkeptfp⟩ := hkept
      rw [hta, hkeptfp]
      exact hma.resolve_left hguard l

/-- An event leaves each loop's cap the one its units give, where it recomputes it or it was. -/
theorem State.fpbEvent_caps {s : State} {e : FpbEvent}
    (hcap : ∀ l, e.restart.get l = true ∨ (s.fpb.get l).bmax = bypassCap (s.fpb.get l).units)
    (haddr : ∀ l, (s.fpb.get l).units.map UnitFrost.addr = unitsOf (s.settings.population l)) :
    (s.fpbEvent e).CapsFollowFrost := by
  intro l
  rw [State.fpbEvent_get, (State.fpbEvent_frame s e).2.2.2.1]
  dsimp only
  refine ⟨?_, (s.unitsAfter_addr e l).trans (haddr l)⟩
  split
  · next hkept =>
    simp only [Bool.and_eq_true, List.isEmpty_iff, Bool.not_eq_true'] at hkept
    obtain ⟨hsame, hrestart⟩ := hkept
    rw [(hcap l).resolve_left (by simp [hrestart])]
    exact (bypassCap_congr (map_frost_of_frostChanges_nil hsame)).symm
  · rfl

section
variable {gs : List SegId} {s : State}

/-- What freeze protection changes: its own values, the yard ambient, command records, fault flags and notice bits. -/
theorem Event.freeze {u : State}
    (hu : u = { s with fpb := u.fpb, ta := u.ta, alloc := u.alloc, faults := u.faults, ports := u.ports })
    (hports : s.Noticed u) (halloc : s.CommandsOnly u) (hmargins : s.MarginsCurrent → u.MarginsCurrent)
    (hcaps : s.CapsFollowFrost → u.CapsFollowFrost) : Event gs s u := by
  have hprotected : Event gs s { s with fpb := u.fpb, ta := u.ta, alloc := u.alloc, faults := u.faults } :=
    { demand := fun hs l => by rw [halloc.alloc l]; exact hs l
      orders := fun hs l => by rw [halloc.alloc l]; exact hs l
      margins := fun hs => by have := hmargins hs; rw [hu] at this; exact this
      caps := fun hs => by have := hcaps hs; rw [hu] at this; exact this }
  rw [hu]
  exact hprotected.trans (.ports _ hports.kept)

theorem State.fpbEvent_only (s : State) (e : FpbEvent) : s.fpbEvent e = { s with
    fpb := (s.fpbEvent e).fpb, ta := (s.fpbEvent e).ta, alloc := (s.fpbEvent e).alloc
    faults := (s.fpbEvent e).faults, ports := (s.fpbEvent e).ports } := by
  have h := s.fpbEvent_frame e
  generalize s.fpbEvent e = u at h ⊢
  cases u; cases s
  simp_all

theorem Event.fpbEvent (e : FpbEvent) : Event gs s (s.fpbEvent e) :=
  .freeze (s.fpbEvent_only e) (.fpbEvent s e) (.fpbEvent s e)
    (fun h => State.fpbEvent_margins (.inr fun l => (h l).1) (.inr fun l => (h l).2))
    (fun h => State.fpbEvent_caps (fun l => .inr (h l).1) fun l => (h l).2)

/-- The units of a loop are changed, their addresses and frost states not. -/
theorem Event.units {l : LoopId} {f : List UnitFrost → List UnitFrost}
    (haddr : ∀ us, (f us).map UnitFrost.addr = us.map UnitFrost.addr)
    (hfrost : ∀ us, (f us).map UnitFrost.frost = us.map UnitFrost.frost) :
    Event gs s (s.modFpb l fun b => { b with units := f b.units }) where
  margins hs k := by
    rw [State.modFpb_fpb, PerSeg.get_modify]
    split <;> exact hs k
  caps hs k := by
    rw [State.modFpb_fpb, PerSeg.get_modify]
    split
    · exact ⟨by rw [bypassCap_congr (hfrost _)]; exact (hs k).1, (haddr _).trans (hs k).2⟩
    · exact hs k

theorem Event.modUnit {l : LoopId} {a : Nat} {f : UnitFrost → UnitFrost} (haddr : ∀ u, (f u).addr = u.addr)
    (hfrost : ∀ u, (f u).frost = u.frost) : Event gs s (s.modUnit l a f) := by
  refine .units (f := fun us => us.map fun u => if u.addr = a then f u else u) (fun us => ?_) (fun us => ?_) <;>
    rw [List.map_map] <;> refine List.map_congr_left fun u _ => ?_ <;> simp only [Function.comp_apply] <;> split <;>
    simp [haddr, hfrost]

/-! ### Allocators -/

/-- The allocators change alone, each demand and service order kept. -/
theorem Event.modAlloc {l : LoopId} {f : Allocator → Allocator} (hdemand : ∀ al, al.demand ≤ 1000 → (f al).demand ≤ 1000)
    (horder : ∀ al, (f al).order.Perm al.order) : Event gs s (s.modAlloc l f) where
  demand hs k := by
    rw [State.modAlloc_alloc, PerSeg.get_modify]
    split
    · exact hdemand _ (hs k)
    · exact hs k
  orders hs k := by
    rw [State.modAlloc_alloc, PerSeg.get_modify]
    split
    · exact (horder _).trans (hs k)
    · exact hs k

theorem Event.modCommands (l : LoopId) (a : Nat) (f : StationCommands → StationCommands) :
    Event gs s (s.modCommands l a f) := .modAlloc (fun _ => id) fun _ => .refl _

theorem Event.repost (l : LoopId) (a : Nat) (o : OutputId) : Event gs s (s.repost l a o) := .modCommands ..

theorem Event.repostAll (l : LoopId) (as : List Nat) (o : OutputId) : Event gs s (s.repostAll l as o) :=
  .modAlloc (fun _ => id) fun _ => .refl _

/-! ### Icing and shortfall -/

/-- A change of shortfall counts and icing marks of one unit. -/
theorem Event.modUnitMarks (l : LoopId) (a : Nat) (count : UnitFrost → Nat) (iced : UnitFrost → Bool) :
    Event gs s (s.modUnit l a fun u => { u with shortfall := count u, iced := iced u }) :=
  .modUnit (fun _ => rfl) fun _ => rfl

theorem Event.fpbUnitLost (l : LoopId) (a : Nat) : Event gs s (s.fpbUnitLost l a) := by
  unfold State.fpbUnitLost
  split
  · exact .trans (.modUnitMarks l a (fun _ => 0) UnitFrost.iced) (.fpbEvent _)
  · exact .refl gs s

theorem Event.setIcing (l : LoopId) (a : Nat) : Event gs s (s.setIcing l a) :=
  .trans (.trans (.trans (.modUnitMarks l a UnitFrost.shortfall fun _ => true) (.setFault _)) (.notifyAll _)) (.repost ..)

theorem Event.shortfall (l : LoopId) (a : Nat) (v : Int) : Event gs s (s.shortfall l a v) := by
  unfold State.shortfall
  split
  · next u st _ _ =>
    dsimp only
    generalize (if st.mode = .inLocal then 0 else shortfallNext u.shortfall (s.fanWritten l a) v) = count
    split
    · exact .trans (.modUnitMarks l a (fun _ => count) UnitFrost.iced) (.setIcing ..)
    · exact .modUnitMarks l a (fun _ => count) UnitFrost.iced
  · exact .refl gs s

theorem Event.clearIcing (l : LoopId) : Event gs s (s.clearIcing l) :=
  .trans (.units (f := fun us => us.map fun u => { u with shortfall := 0, iced := false })
    (fun us => by simp) fun us => by simp) (.repostAll ..)

end

end Sys2Proof.Machine
end

section
/-! Write buffers, settle lists and fences (chapter 7): where a post or a return puts an entry, the form a buffer and a settle
list keep, and the fences that follow the marks. -/

namespace Sys2Proof.Machine

/-! ### The OPEN entry of a station -/

/-- No entry of the list is an OPEN entry of the station. -/
def NoOpen (a : Nat) (es : List Entry) : Prop := ∀ x ∈ es, x.station = a → x.state ≠ .waiting

theorem NoOpen.head {a : Nat} {e : Entry} {es : List Entry} (h : NoOpen a (e :: es)) :
    ¬(e.station = a ∧ e.state = .waiting) := fun hc => h e List.mem_cons_self hc.1 hc.2

theorem NoOpen.tail {a : Nat} {e : Entry} {es : List Entry} (h : NoOpen a (e :: es)) : NoOpen a es :=
  fun x hx => h x (List.mem_cons_of_mem _ hx)

/-- A buffer holds no OPEN entry of a station, or a first one. -/
theorem noOpen_or_first (a : Nat) (es : List Entry) : NoOpen a es ∨ ∃ before e after,
    es = before ++ e :: after ∧ NoOpen a before ∧ e.station = a ∧ e.state = .waiting := by
  induction es with
  | nil => exact .inl fun x hx => by cases hx
  | cons e es ih =>
    by_cases he : e.station = a ∧ e.state = .waiting
    · exact .inr ⟨[], e, es, rfl, (fun x hx => by cases hx), he.1, he.2⟩
    · rcases ih with hnone | ⟨before, n, after, rfl, hbefore, hn⟩
      · refine .inl fun x hx hst hw => ?_
        rcases List.mem_cons.1 hx with rfl | hx
        · exact he ⟨hst, hw⟩
        · exact hnone x hx hst hw
      · refine .inr ⟨e :: before, n, after, rfl, fun x hx hst hw => ?_, hn⟩
        rcases List.mem_cons.1 hx with rfl | hx
        · exact he ⟨hst, hw⟩
        · exact hbefore x hx hst hw

/-- With no OPEN entry of the station a post joins the tail. -/
theorem mergePost_joins {a : Nat} {es : List Entry} (h : NoOpen a es) (f : Fields) (o : Option PortId) :
    mergePost a f o es =
      es ++ [{ station := a, posted := f, origins := originSet o, marks := PortSet.empty, state := .waiting }] := by
  induction es with
  | nil => rfl
  | cons e es ih => rw [mergePost, if_neg h.head, ih h.tail, List.cons_append]

/-- A post merges into the station's OPEN entry where it stands. -/
theorem mergePost_merges {a : Nat} {before after : List Entry} {e : Entry} (h : NoOpen a before) (hst : e.station = a)
    (hw : e.state = .waiting) (f : Fields) (o : Option PortId) :
    mergePost a f o (before ++ e :: after) =
      before ++ { e with posted := f.over e.posted, origins := e.origins.union (originSet o) } :: after := by
  induction before with
  | nil => rw [List.nil_append, mergePost, if_pos ⟨hst, hw⟩, List.nil_append]
  | cons x xs ih => rw [List.cons_append, mergePost, if_neg h.head, ih h.tail, List.cons_append]

theorem openEntry_none {a : Nat} {es : List Entry} (h : NoOpen a es) : openEntry a es = none := by
  refine List.find?_eq_none.2 fun x hx => ?_
  simp only [Bool.and_eq_true, beq_iff_eq, not_and]
  exact h x hx

theorem openEntry_first {a : Nat} {before after : List Entry} {e : Entry} (h : NoOpen a before) (hst : e.station = a)
    (hw : e.state = .waiting) : openEntry a (before ++ e :: after) = some e := by
  have hbefore : before.find? (fun e => e.station == a && e.state == .waiting) = none := openEntry_none h
  rw [openEntry, List.find?_append, hbefore]
  simp [hst, hw]

theorem withoutOpen_first {a : Nat} {before after : List Entry} {e : Entry} (h : NoOpen a before) (hst : e.station = a)
    (hw : e.state = .waiting) : withoutOpen a (before ++ e :: after) = before ++ after := by
  induction before with
  | nil => rw [List.nil_append, withoutOpen, if_pos ⟨hst, hw⟩, List.nil_append]
  | cons x xs ih => rw [List.cons_append, withoutOpen, if_neg h.head, ih h.tail, List.cons_append]

@[simp] theorem Fields.over_isEmpty (f g : Fields) : (f.over g).isEmpty = (f.isEmpty && g.isEmpty) := by
  obtain ⟨f1, f2, f3⟩ := f
  obtain ⟨g1, g2, g3⟩ := g
  cases f1 <;> cases f2 <;> cases f3 <;> cases g1 <;> cases g2 <;> cases g3 <;> rfl

/-! ### The form of a write buffer (R110) -/

/-- At most the head is IN FLIGHT, no station has two OPEN entries, and every entry carries an output of a station that has
a record. -/
structure BufferFormed (image : List Station) (es : List Entry) : Prop where
  tail : ∀ e ∈ es.tail, e.state = .waiting
  distinct : es.Pairwise fun e f => ¬(e.state = .waiting ∧ f.state = .waiting ∧ e.station = f.station)
  posted : ∀ e ∈ es, e.posted.isEmpty = false
  station : ∀ e ∈ es, ∃ st ∈ image, st.addr = e.station

theorem State.buffersFormed_iff {s : State} : s.BuffersFormed ↔ ∀ g, BufferFormed (s.image.get g) (s.buffer.get g) :=
  ⟨fun h g => ⟨(h g).1, (h g).2.1, fun e he => ((h g).2.2 e he).1, fun e he => ((h g).2.2 e he).2⟩,
    fun h g => ⟨(h g).tail, (h g).distinct, fun e he => ⟨(h g).posted e he, (h g).station e he⟩⟩⟩

section
variable {image : List Station} {es : List Entry}

theorem BufferFormed.nil : BufferFormed image [] :=
  ⟨(fun e he => by cases he), .nil, (fun e he => by cases he), fun e he => by cases he⟩

theorem BufferFormed.sublist {fs : List Entry} (h : BufferFormed image es) (hs : fs.Sublist es) : BufferFormed image fs where
  tail e he := h.tail e (hs.tail.subset he)
  distinct := h.distinct.sublist hs
  posted e he := h.posted e (hs.subset he)
  station e he := h.station e (hs.subset he)

theorem BufferFormed.mapMarks (h : BufferFormed image es) (f : Entry → PortSet) :
    BufferFormed image (es.map fun e => { e with marks := f e }) where
  tail e he := by
    rw [← List.map_tail] at he
    obtain ⟨x, hx, rfl⟩ := List.mem_map.1 he
    exact h.tail x hx
  distinct := List.pairwise_map.2 h.distinct
  posted e he := by
    obtain ⟨x, hx, rfl⟩ := List.mem_map.1 he
    exact h.posted x hx
  station e he := by
    obtain ⟨x, hx, rfl⟩ := List.mem_map.1 he
    exact h.station x hx

theorem mem_tail_append_of_ne_nil {α : Type} {xs ys : List α} {x : α} (h : x ∈ (xs ++ ys).tail) :
    x ∈ xs.tail ∨ x ∈ ys := by
  cases xs with
  | nil => exact .inr (List.mem_of_mem_tail h)
  | cons y xs => exact List.mem_append.1 h

/-- An entry that takes the place of one, OPEN as that is and of the same station. -/
theorem BufferFormed.replace {before after : List Entry} {e n : Entry} (h : BufferFormed image (before ++ e :: after))
    (hst : n.station = e.station) (hw : n.state = .waiting) (he : e.state = .waiting) (hp : n.posted.isEmpty = false) :
    BufferFormed image (before ++ n :: after) := by
  obtain ⟨htail, hdistinct, hposted, hstation⟩ := h
  refine ⟨fun x hx => ?_, ?_, fun x hx => ?_, fun x hx => ?_⟩
  · cases before with
    | nil => exact htail x hx
    | cons y before =>
      rcases List.mem_append.1 hx with hx | hx
      · exact htail x (List.mem_append_left _ hx)
      · rcases List.mem_cons.1 hx with rfl | hx
        · exact hw
        · exact htail x (List.mem_append_right _ (List.mem_cons_of_mem _ hx))
  · rw [List.pairwise_append, List.pairwise_cons] at hdistinct ⊢
    obtain ⟨hb, ⟨ha, haa⟩, hba⟩ := hdistinct
    refine ⟨hb, ⟨fun x hx => ?_, haa⟩, fun x hx y hy => ?_⟩
    · rw [hw, hst]; rw [he] at ha; exact ha x hx
    · rcases List.mem_cons.1 hy with rfl | hy
      · have := hba x hx e List.mem_cons_self
        rw [hw, hst]; rw [he] at this; exact this
      · exact hba x hx y (List.mem_cons_of_mem _ hy)
  · rcases List.mem_append.1 hx with hx | hx
    · exact hposted x (List.mem_append_left _ hx)
    · rcases List.mem_cons.1 hx with rfl | hx
      · exact hp
      · exact hposted x (List.mem_append_right _ (List.mem_cons_of_mem _ hx))
  · rcases List.mem_append.1 hx with hx | hx
    · exact hstation x (List.mem_append_left _ hx)
    · rcases List.mem_cons.1 hx with rfl | hx
      · rw [hst]; exact hstation e (List.mem_append_right _ List.mem_cons_self)
      · exact hstation x (List.mem_append_right _ (List.mem_cons_of_mem _ hx))

theorem BufferFormed.mergePost {a : Nat} {f : Fields} (h : BufferFormed image es) (hf : f.isEmpty = false)
    (ha : ∃ st ∈ image, st.addr = a) (o : Option PortId) : BufferFormed image (mergePost a f o es) := by
  rcases noOpen_or_first a es with hnone | ⟨before, e, after, rfl, hbefore, hst, hw⟩
  · rw [mergePost_joins hnone]
    refine ⟨fun x hx => ?_, List.pairwise_append.2 ⟨h.distinct, List.pairwise_singleton .., ?_⟩, fun x hx => ?_, fun x hx => ?_⟩
    · rcases mem_tail_append_of_ne_nil hx with hx | hx
      · exact h.tail x hx
      · rw [List.mem_singleton.1 hx]
    · intro x hx y hy hboth
      rw [List.mem_singleton.1 hy] at hboth
      exact hnone x hx hboth.2.2 hboth.1
    · rcases List.mem_append.1 hx with hx | hx
      · exact h.posted x hx
      · rw [List.mem_singleton.1 hx]; exact hf
    · rcases List.mem_append.1 hx with hx | hx
      · exact h.station x hx
      · rw [List.mem_singleton.1 hx]; exact ha
  · rw [mergePost_merges hbefore hst hw]
    exact h.replace rfl hw hw (by rw [Fields.over_isEmpty, hf, Bool.false_and])

theorem BufferFormed.fly {e : Entry} (h : BufferFormed image (e :: es)) (sent : Fields) :
    BufferFormed image ({ e with state := .inFlight sent } :: es) where
  tail := h.tail
  distinct := List.pairwise_cons.2 ⟨(fun x _ hboth => by cases hboth.1), (List.pairwise_cons.1 h.distinct).2⟩
  posted x hx := by
    rcases List.mem_cons.1 hx with rfl | hx
    · exact h.posted e List.mem_cons_self
    · exact h.posted x (List.mem_cons_of_mem _ hx)
  station x hx := by
    rcases List.mem_cons.1 hx with rfl | hx
    · exact h.station e List.mem_cons_self
    · exact h.station x (List.mem_cons_of_mem _ hx)

/-- An entry back at the head as OPEN, over others of which none is an OPEN entry of its station. -/
theorem BufferFormed.back {e n : Entry} {fs : List Entry} (h : BufferFormed image (e :: es)) (hs : fs.Sublist es)
    (hopen : NoOpen e.station fs) (hst : n.station = e.station) (hp : n.posted.isEmpty = false) :
    BufferFormed image (n :: fs) where
  tail x hx := h.tail x (hs.subset hx)
  distinct := List.pairwise_cons.2 ⟨fun x hx hboth => hopen x hx (hboth.2.2.symm.trans hst) hboth.2.1,
    (List.pairwise_cons.1 h.distinct).2.sublist hs⟩
  posted x hx := by
    rcases List.mem_cons.1 hx with rfl | hx
    · exact hp
    · exact h.posted x (List.mem_cons_of_mem _ (hs.subset hx))
  station x hx := by
    rcases List.mem_cons.1 hx with rfl | hx
    · rw [hst]; exact h.station e List.mem_cons_self
    · exact h.station x (List.mem_cons_of_mem _ (hs.subset hx))

end

/-! ### The return of a write (R115) -/

/-- What the buffer is when the WRITE in flight has failed. -/
def bufferReturned : List Entry → List Entry
  | e :: es =>
    match e.state with
    | .inFlight _ =>
      match openEntry e.station es with
      | some n =>
        { e with
          state := .waiting
          posted := n.posted.over e.posted
          origins := e.origins.union n.origins
          marks := e.marks.union n.marks } :: withoutOpen e.station es
      | none => { e with state := .waiting } :: es
    | .waiting => e :: es
  | [] => []

theorem State.writeReturn_eq (s : State) (g : SegId) : s.writeReturn g = s.modBuffer g bufferReturned := by
  rfl

theorem bufferReturned_alone {e : Entry} {es : List Entry} {sent : Fields} (he : e.state = .inFlight sent)
    (h : NoOpen e.station es) : bufferReturned (e :: es) = { e with state := .waiting } :: es := by
  simp only [bufferReturned, he, openEntry_none h]

theorem bufferReturned_combined {e n : Entry} {before after : List Entry} {sent : Fields} (he : e.state = .inFlight sent)
    (h : NoOpen e.station before) (hst : n.station = e.station) (hw : n.state = .waiting) :
    bufferReturned (e :: (before ++ n :: after)) =
      { e with
        state := .waiting
        posted := n.posted.over e.posted
        origins := e.origins.union n.origins
        marks := e.marks.union n.marks } :: (before ++ after) := by
  simp only [bufferReturned, he, openEntry_first h hst hw, withoutOpen_first h hst hw]

theorem bufferReturned_waiting {e : Entry} {es : List Entry} (he : e.state = .waiting) :
    bufferReturned (e :: es) = e :: es := by
  simp only [bufferReturned, he]

@[simp] theorem PortSet.union_get (x y : PortSet) (p : PortId) : (x.union y).get p = (x.get p || y.get p) := by
  cases p <;> rfl

/-- A buffer after a failed WRITE: as it was, or with its head back as OPEN, alone or combined with an OPEN entry. -/
theorem bufferReturned_cases (es : List Entry) : bufferReturned es = es ∨
    (∃ e rest sent, es = e :: rest ∧ e.state = .inFlight sent ∧ NoOpen e.station rest ∧
      bufferReturned es = { e with state := .waiting } :: rest) ∨
    ∃ e before n after sent, es = e :: (before ++ n :: after) ∧ e.state = .inFlight sent ∧ NoOpen e.station before ∧
      n.station = e.station ∧ n.state = .waiting ∧ bufferReturned es =
        { e with
          state := .waiting
          posted := n.posted.over e.posted
          origins := e.origins.union n.origins
          marks := e.marks.union n.marks } :: (before ++ after) := by
  cases es with
  | nil => exact .inl rfl
  | cons e rest =>
    cases he : e.state with
    | waiting => exact .inl (bufferReturned_waiting he)
    | inFlight sent =>
      rcases noOpen_or_first e.station rest with hnone | ⟨before, n, after, rfl, hbefore, hst, hw⟩
      · exact .inr (.inl ⟨e, rest, sent, rfl, he, hnone, bufferReturned_alone he hnone⟩)
      · exact .inr (.inr ⟨e, before, n, after, sent, rfl, he, hbefore, hst, hw,
          bufferReturned_combined he hbefore hst hw⟩)

theorem BufferFormed.returned {image : List Station} {es : List Entry} (h : BufferFormed image es) :
    BufferFormed image (bufferReturned es) := by
  rcases bufferReturned_cases es with hsame | ⟨e, rest, sent, rfl, he, hopen, heq⟩ |
    ⟨e, before, n, after, sent, rfl, he, hopen, hst, hw, heq⟩
  · rw [hsame]; exact h
  · rw [heq]
    exact h.back (.refl _) hopen rfl (h.posted e List.mem_cons_self)
  · rw [heq]
    have hrest := (List.pairwise_cons.1 h.distinct).2
    have hafter : NoOpen e.station after := fun x hx hxs hxw => by
      have := (List.pairwise_cons.1 (List.pairwise_append.1 hrest).2.1).1 x hx
      exact this ⟨hw, hxw, hst.trans hxs.symm⟩
    refine h.back (List.Sublist.append_left (List.sublist_cons_self ..) _) (fun x hx => ?_) rfl ?_
    · rcases List.mem_append.1 hx with hx | hx
      · exact hopen x hx
      · exact hafter x hx
    · rw [Fields.over_isEmpty, h.posted e List.mem_cons_self, Bool.and_false]

theorem bufferReturned_marks (es : List Entry) (p : PortId) :
    ((bufferReturned es).any fun e => e.marks.get p) = es.any fun e => e.marks.get p := by
  rcases bufferReturned_cases es with hsame | ⟨e, rest, sent, rfl, -, -, heq⟩ |
    ⟨e, before, n, after, sent, rfl, -, -, -, -, heq⟩
  · rw [hsame]
  · rw [heq]; rfl
  · rw [heq]
    simp only [List.any_cons, List.any_append, PortSet.union_get]
    cases e.marks.get p <;> cases n.marks.get p <;> simp

theorem mergePost_marks (a : Nat) (f : Fields) (o : Option PortId) (es : List Entry) (p : PortId) :
    ((mergePost a f o es).any fun e => e.marks.get p) = es.any fun e => e.marks.get p := by
  have hempty : PortSet.empty.get p = false := PerPort.get_const _ p
  rcases noOpen_or_first a es with hnone | ⟨before, e, after, rfl, hbefore, hst, hw⟩
  · rw [mergePost_joins hnone]
    simp [hempty]
  · rw [mergePost_merges hbefore hst hw]
    simp

/-! ### The form of a settle list (R117) -/

/-- At most 15 items, never two for one output of one station. -/
def SettleFormed (is : List SettleItem) : Prop :=
  is.length ≤ 15 ∧ is.Pairwise fun i j => ¬(i.station = j.station ∧ i.value.output = j.value.output)

theorem State.settleListsBounded_iff {s : State} : s.SettleListsBounded ↔ ∀ g, SettleFormed (s.settle.get g) := Iff.rfl

theorem SettleFormed.sublist {is js : List SettleItem} (h : SettleFormed is) (hs : js.Sublist is) : SettleFormed js :=
  ⟨hs.length_le.trans h.1, h.2.sublist hs⟩

theorem SettleFormed.mapMarks {is : List SettleItem} (h : SettleFormed is) (f : SettleItem → PortSet) :
    SettleFormed (is.map fun i => { i with marks := f i }) :=
  ⟨by rw [List.length_map]; exact h.1, List.pairwise_map.2 h.2⟩

/-! ### Fences and marks (R121 to R123) -/

@[simp] theorem FenceRecord.fail_isPending (r : FenceRecord) : r.fail.isPending = r.isPending := by cases r <;> rfl

@[simp] theorem FenceRecord.complete_isPending (r : FenceRecord) : r.complete.isPending = false := by
  cases r with
  | pending failed => cases failed <;> rfl
  | _ => rfl

theorem State.mapFences_get (s : State) (l k : LoopId) (f : PortId → FenceRecord → FenceRecord) (p : PortId) :
    ((s.mapFences l f).fences.get p).get k =
      if k = l then f p ((s.fences.get p).get k) else (s.fences.get p).get k := by
  rw [State.mapFences_fences, PerPort.get_map, PerSeg.get_modify]

theorem State.failMarks_get (s : State) (g k : SegId) (marks : PortSet) (p : PortId) :
    ((s.failMarks g marks).fences.get p).get k =
      if k = g ∧ marks.get p = true then ((s.fences.get p).get k).fail else (s.fences.get p).get k := by
  rw [State.failMarks, State.mapFences_get]
  by_cases hk : k = g <;> by_cases hm : marks.get p = true <;> simp [hk, hm]

theorem State.completeFences_get (s : State) (g k : SegId) (p : PortId) :
    ((s.completeFences g).fences.get p).get k =
      if k = g ∧ (s.fencesDone g).get p = true then ((s.fences.get p).get k).complete else (s.fences.get p).get k := by
  rw [State.completeFences_eq]
  dsimp only
  rw [PerPort.get_map, PerSeg.get_modify]
  by_cases hk : k = g <;> by_cases hm : (s.fencesDone g).get p = true <;> simp [hk, hm]

theorem State.marked_congr {s u : State} {g : SegId} (hb : u.buffer.get g = s.buffer.get g)
    (hs : u.settle.get g = s.settle.get g) (p : PortId) : u.marked g p = s.marked g p := by
  rw [State.marked, State.marked, hb, hs]

/-- Every mark on the segment is that of a PENDING fence. -/
def State.MarksPending (s : State) (g : SegId) : Prop :=
  ∀ p, s.marked g p = true → ((s.fences.get p).get g).isPending = true

/-- Completing a loop's fences leaves PENDING exactly those that a mark still bears, where every mark was of one. -/
theorem State.completeFences_follow {s : State} {g : SegId} (h : s.MarksPending g) (p : PortId) :
    (((s.completeFences g).fences.get p).get g).isPending = s.marked g p := by
  rw [State.completeFences_get, State.fencesDone_get]
  cases hm : s.marked g p
  · cases hp : ((s.fences.get p).get g).isPending <;> simp [hp]
  · simp [h p hm]

section
variable {gs : List SegId} {s : State} {g : SegId}

theorem Event.modBuffer {f : List Entry → List Entry} (hseg : g ∉ gs → s.SegmentKept (s.modBuffer g f) g)
    (hform : BufferFormed (s.image.get g) (s.buffer.get g) → BufferFormed (s.image.get g) (f (s.buffer.get g)))
    (hmarks : ∀ p, ((f (s.buffer.get g)).any fun e => e.marks.get p) = (s.buffer.get g).any fun e => e.marks.get p) :
    Event gs s (s.modBuffer g f) where
  segments k hk := by
    by_cases hkg : k = g
    · subst hkg; exact hseg hk
    · have hb : (s.modBuffer g f).buffer.get k = s.buffer.get k := PerSeg.get_modify_other _ _ hkg
      exact { buffer := by rw [hb], flying := by rw [State.flyingFields, hb]; rfl }
  buffers hs := State.buffersFormed_iff.2 fun k => by
    have hk := State.buffersFormed_iff.1 hs k
    rw [State.modBuffer_buffer, PerSeg.get_modify]
    split
    · next h => subst h; exact hform hk
    · exact hk
  fences hs p k := by
    have hp := hs p k
    rw [State.modBuffer_fences, hp, State.marked, State.marked, State.modBuffer_buffer, PerSeg.get_modify]
    split
    · next h => subst h; rw [hmarks]; rfl
    · rfl

/-- An event on a segment's write buffer, settle list and fences that ends with the completion of the fences without marks. -/
theorem Event.completeFences {u : State} (hu : u = { s with buffer := u.buffer, settle := u.settle, fences := u.fences })
    (hother : ∀ k, k ≠ g → u.buffer.get k = s.buffer.get k ∧ u.settle.get k = s.settle.get k ∧
      ∀ p, (u.fences.get p).get k = (s.fences.get p).get k)
    (hseg : g ∉ gs → s.SegmentKept u g)
    (hbuffer : BufferFormed (s.image.get g) (s.buffer.get g) → BufferFormed (s.image.get g) (u.buffer.get g))
    (hsettle : SettleFormed (s.settle.get g) → SettleFormed (u.settle.get g))
    (hmarks : s.MarksPending g → u.MarksPending g) : Event gs s (u.completeFences g) := by
  have hcompleted : Event gs s { s with
      buffer := u.buffer, settle := u.settle, fences := (u.completeFences g).fences } :=
    { segments := fun k hk => by
        by_cases hkg : k = g
        · subst hkg
          have := hseg hk
          rw [hu] at this
          exact { buffer := this.buffer, flying := this.flying, settle := this.settle }
        · obtain ⟨hb, hs, -⟩ := hother k hkg
          exact {
            buffer := by dsimp only; rw [hb]
            flying := by unfold State.flyingFields; dsimp only; rw [hb]
            settle := by dsimp only; rw [hs] }
      settle := fun hs k => by
        by_cases hkg : k = g
        · subst hkg; exact hsettle (hs k)
        · dsimp only; rw [(hother k hkg).2.1]; exact hs k
      buffers := fun hs => State.buffersFormed_iff.2 fun k => by
        have hk := State.buffersFormed_iff.1 hs k
        by_cases hkg : k = g
        · subst hkg; exact hbuffer hk
        · dsimp only; rw [(hother k hkg).1]; exact hk
      fences := fun hs p k => by
        by_cases hkg : k = g
        · subst hkg
          exact State.completeFences_follow (hmarks fun q hq => (hs q k).trans hq) p
        · obtain ⟨hb, hst, hf⟩ := hother k hkg
          dsimp only
          rw [State.completeFences_get, if_neg fun hc => hkg hc.1, hf p, hs p k]
          exact (State.marked_congr hb hst p).symm }
  have heq : u.completeFences g = { s with
      buffer := u.buffer, settle := u.settle, fences := (u.completeFences g).fences
      ports := (u.completeFences g).ports } := by
    rw [State.completeFences_eq]
    dsimp only
    rw [hu]
  rw [heq]
  refine hcompleted.trans (.ports _ fun p => ?_)
  have hn : s.Noticed (u.completeFences g) :=
    State.Noticed.trans (u := u) (by rw [hu]; exact .of_eq rfl rfl) ⟨by simp, _, by rw [State.completeFences_eq]⟩
  exact hn.kept p

end

end Sys2Proof.Machine
end

section
/-! The operations of the Output Controller, of the image and of the allocators, each as an event. -/

namespace Sys2Proof.Machine

section
variable {gs : List SegId} {s : State} {g : SegId}

/-! ### The image -/

/-- Every record of a segment is changed by something that keeps its address, kind, number of points and a counter in
range. -/
theorem Event.mapStations {f : Station → Station}
    (hseg : g ∉ gs → ∀ st, (f st).seen = st.seen) (haddr : ∀ st, (f st).addr = st.addr)
    (hkind : ∀ st, (f st).kind = st.kind) (hpoints : ∀ st, (f st).points.length = st.points.length)
    (hcounter : s.CountersBounded → ∀ st, st.counter ≤ 15 → (f st).counter ≤ 15) :
    Event gs s (s.modImage g fun sts => sts.map f) where
  segments k hk := by
    refine { image := ?_ }
    rw [State.modImage_image, PerSeg.get_modify]
    split
    · next h =>
      subst h
      rw [List.map_map]
      exact List.map_congr_left fun st _ => hseg hk st
    · rfl
  counters hs k st hst := by
    rw [State.modImage_image, PerSeg.get_modify] at hst
    split at hst
    · obtain ⟨x, hx, rfl⟩ := List.mem_map.1 hst
      exact hcounter hs x (hs k x hx)
    · exact hs k st hst
  image hs k := by
    obtain ⟨hpop, hform⟩ := hs k
    rw [State.modImage_image, PerSeg.get_modify]
    split
    · refine ⟨?_, fun st hst => ?_⟩
      · refine Eq.trans ?_ hpop
        rw [List.map_map]
        exact List.map_congr_left fun st _ => haddr st
      · obtain ⟨x, hx, rfl⟩ := List.mem_map.1 hst
        rw [haddr, hkind, hpoints]
        exact hform x hx
    · exact ⟨hpop, hform⟩
  buffers hs := State.buffersFormed_iff.2 fun k => by
    obtain ⟨htail, hdistinct, hposted, hstation⟩ := State.buffersFormed_iff.1 hs k
    refine ⟨htail, hdistinct, hposted, fun e he => ?_⟩
    obtain ⟨st, hst, ha⟩ := hstation e he
    rw [State.modImage_image, PerSeg.get_modify]
    split
    · exact ⟨f st, List.mem_map_of_mem hst, (haddr st).trans ha⟩
    · exact ⟨st, hst, ha⟩

/-- One record of a segment that chooses after it is changed. -/
theorem Event.modStation (hg : g ∈ gs) {a : Nat} {f : Station → Station} (haddr : ∀ st, (f st).addr = st.addr)
    (hkind : ∀ st, (f st).kind = st.kind) (hpoints : ∀ st, (f st).points.length = st.points.length)
    (hcounter : s.CountersBounded → ∀ st, st.counter ≤ 15 → (f st).counter ≤ 15) : Event gs s (s.modStation g a f) :=
  .mapStations (fun hn => absurd hg hn) (fun st => by split <;> simp [haddr]) (fun st => by split <;> simp [hkind])
    (fun st => by split <;> simp [hpoints]) fun hs st hst => by
      split
      · exact hcounter hs st hst
      · exact hst

/-! ### Override records -/

theorem Event.setOverrides {rs : List OverrideRecord} (h : s.OverridesFormed → (s.setOverrides rs).OverridesFormed) :
    Event gs s (s.setOverrides rs) where
  overrides := h

/-- Records change in nothing but whether they are WAITING. -/
theorem Event.mapDelivery (delivery : OverrideRecord → Delivery) :
    Event gs s (s.setOverrides (s.overrides.map fun r => { r with delivery := delivery r })) :=
  .setOverrides fun ⟨hindex, houtput, hrecord⟩ =>
    ⟨List.pairwise_map.2 hindex, List.pairwise_map.2 houtput, fun r hr => by
      obtain ⟨x, hx, rfl⟩ := List.mem_map.1 hr
      exact hrecord x hx⟩

theorem Event.overridesWait (g : SegId) (a : Nat) : Event gs s (s.overridesWait g a) := by
  have h : s.overridesWait g a = s.setOverrides (s.overrides.map fun r => { r with
      delivery := if r.seg = g ∧ r.station = a then .waiting else r.delivery }) := by
    unfold State.overridesWait
    congr 2
    funext r
    split <;> rfl
  rw [h]
  exact .mapDelivery _

theorem Event.overridesWaitFor (g : SegId) (a : Nat) (f : Fields) : Event gs s (s.overridesWaitFor g a f) := by
  have h : s.overridesWaitFor g a f = s.setOverrides (s.overrides.map fun r => { r with
      delivery := if r.seg = g ∧ r.station = a ∧ f.has r.value.output = true then .waiting else r.delivery }) := by
    unfold State.overridesWaitFor
    congr 2
    funext r
    split <;> rfl
  rw [h]
  exact .mapDelivery _

/-! ### Mode (R14, R15) -/

theorem Event.setMode (hg : g ∈ gs) (a : Nat) (m : Mode) : Event gs s (s.setMode g a m) := by
  have hmode : Event gs s ((s.modStation g a fun st => { st with mode := m }).notifyAll .station) := by
    refine .trans ?_ (.notifyAll _)
    exact .modStation hg (fun _ => rfl) (fun _ => rfl) (fun _ => rfl) fun _ _ => id
  unfold State.setMode
  split
  · split
    · exact .refl gs s
    · dsimp only
      split
      · exact (hmode.trans (.modCommands ..)).trans (.overridesWait ..)
      · exact hmode
  · exact .refl gs s

/-! ### Posts (R111) and the start and return of a write (R112, R115) -/

theorem Fields.values_isEmpty (v : OutputValue) : v.fields.isEmpty = false := by cases v <;> rfl

/-- A station that answers has a record. -/
theorem State.answers_station {a : Nat} (h : s.answers g a = true) : ∃ st ∈ s.image.get g, st.addr = a := by
  unfold State.answers at h
  split at h
  · next st hst =>
    exact ⟨st, List.mem_of_find?_eq_some hst, by simpa using List.find?_some hst⟩
  · cases h

theorem Event.post (hg : g ∈ gs) {a : Nat} {f : Fields} (hf : f.isEmpty = false)
    (ha : ∃ st ∈ s.image.get g, st.addr = a) (o : Option PortId) : Event gs s (s.post g a f o) :=
  .modBuffer (fun hn => absurd hg hn) (fun h => h.mergePost hf ha o) (mergePost_marks a f o _)

theorem Event.allocatorPost (hg : g ∈ gs) {a : Nat} {f : Fields} (hf : f.isEmpty = false)
    (ha : ∃ st ∈ s.image.get g, st.addr = a) : Event gs s (s.allocatorPost g a f) :=
  (Event.post hg hf ha none).trans (.modCommands ..)

theorem Event.flyHead (hg : g ∈ gs) : Event gs s (s.flyHead g) := by
  refine .modBuffer (fun hn => absurd hg hn) (fun h => ?_) (fun p => ?_)
  · cases hb : s.buffer.get g with
    | nil => exact .nil
    | cons e es => rw [hb] at h; exact h.fly _
  · cases hb : s.buffer.get g <;> rfl

theorem Event.writeReturn (hg : g ∈ gs) : Event gs s (s.writeReturn g) := by
  rw [State.writeReturn_eq]
  exact .modBuffer (fun hn => absurd hg hn) (fun h => h.returned) (bufferReturned_marks _)

/-! ### The ends of a write (R113, R114, R116) and of an item (R118, R119) -/

/-- Some of a segment's entries and items leave, the marks of some failing, and the fences left without marks complete. -/
theorem Event.outputsLeave (hg : g ∈ gs) {es : List Entry} {is : List SettleItem} (marks : PortSet)
    (hes : es.Sublist (s.buffer.get g)) (his : SettleFormed (s.settle.get g) → SettleFormed is)
    (hmarks : ∀ p, (is.any fun i => i.marks.get p) = true → s.marked g p = true) :
    Event gs s ((((s.modBuffer g fun _ => es).modSettle g fun _ => is).failMarks g marks).completeFences g) := by
  have hbuffer : ((((s.modBuffer g fun _ => es).modSettle g fun _ => is).failMarks g marks).buffer.get g) = es := by simp
  have hsettle : ((((s.modBuffer g fun _ => es).modSettle g fun _ => is).failMarks g marks).settle.get g) = is := by simp
  refine .completeFences rfl (fun k hk => ⟨?_, ?_, fun p => ?_⟩) (fun hn => absurd hg hn) (fun h => ?_) (fun h => ?_)
    (fun h p hp => ?_)
  · simp [PerSeg.get_modify_other _ _ hk]
  · simp [PerSeg.get_modify_other _ _ hk]
  · rw [State.failMarks_get, if_neg fun hc => hk hc.1]
    rfl
  · rw [hbuffer]; exact h.sublist hes
  · rw [hsettle]; exact his h
  · have hpending : ((s.fences.get p).get g).isPending = true := by
      refine h p ?_
      rw [State.marked, hbuffer, hsettle, Bool.or_eq_true] at hp
      rcases hp with hp | hp
      · obtain ⟨e, he, hm⟩ := List.any_eq_true.1 hp
        exact Bool.or_eq_true_iff.2 (.inl (List.any_eq_true.2 ⟨e, hes.subset he, hm⟩))
      · exact hmarks p hp
    rw [State.failMarks_get]
    split
    · rw [FenceRecord.fail_isPending]; exact hpending
    · exact hpending

end

end Sys2Proof.Machine
end

section
/-! The ends of a write and of a settle item, the allocation run, the end of pass and the hand-back, each as an event. -/

namespace Sys2Proof.Machine

section
variable {gs : List SegId} {s : State} {g : SegId}

/-! ### The ends of a write -/

@[simp] theorem PortSet.empty_get (p : PortId) : PortSet.empty.get p = false := PerPort.get_const _ p

theorem State.modBuffer_keep (s : State) (g : SegId) {es : List Entry} (h : es = s.buffer.get g) :
    (s.modBuffer g fun _ => es) = s := by
  subst h
  have hsame : s.buffer.modify g (fun _ => s.buffer.get g) = s.buffer := PerSeg.modify_eq_self rfl
  rw [State.modBuffer, hsame]

theorem State.modSettle_keep (s : State) (g : SegId) {is : List SettleItem} (h : is = s.settle.get g) :
    (s.modSettle g fun _ => is) = s := by
  subst h
  have hsame : s.settle.modify g (fun _ => s.settle.get g) = s.settle := PerSeg.modify_eq_self rfl
  rw [State.modSettle, hsame]

theorem State.failMarks_empty (s : State) (g : SegId) : s.failMarks g PortSet.empty = s := by
  have hsame : (s.fences.map fun p t => t.modify g fun r => if PortSet.empty.get p = true then r.fail else r) = s.fences := by
    refine PerPort.ext_get fun p => ?_
    rw [PerPort.get_map]
    exact PerSeg.modify_eq_self (by simp)
  rw [State.failMarks, State.mapFences, hsame]

theorem Option.toList_length_le_one {α : Type} (x : Option α) : x.toList.length ≤ 1 := by cases x <;> simp

theorem Fields.values_length_le (f : Fields) : f.values.length ≤ 3 := by
  have hfan := Option.toList_length_le_one (f.get? .fan)
  have hvalve := Option.toList_length_le_one (f.get? .valve)
  have hbypass := Option.toList_length_le_one (f.get? .bypass)
  simp only [Fields.values, List.length_append]
  omega

/-- Some fields carry a value exactly where it is the value of its output in them. -/
theorem Fields.mem_values {f : Fields} {v : OutputValue} : v ∈ f.values ↔ f.get? v.output = some v := by
  cases v <;> simp [Fields.values, Fields.get?, OutputValue.output]

theorem Fields.has_of_mem_values {f : Fields} {v : OutputValue} (h : v ∈ f.values) : f.has v.output = true := by
  rw [Fields.has, Fields.mem_values.1 h, Option.isSome_some]

/-- The values some fields carry are of different outputs. -/
theorem Fields.values_distinct (f : Fields) : f.values.Pairwise fun v w => v.output ≠ w.output := by
  obtain ⟨fan, valve, bypass⟩ := f
  cases fan <;> cases valve <;> cases bypass <;> simp [Fields.values, Fields.get?, OutputValue.output]

/-- A port is in the union of some sets when it is in one of them. -/
theorem foldl_union_get {α : Type} (f : α → PortSet) (xs : List α) (m : PortSet) (p : PortId) :
    (xs.foldl (fun m x => m.union (f x)) m).get p = (m.get p || xs.any fun x => (f x).get p) := by
  induction xs generalizing m with
  | nil => simp
  | cons x xs ih => rw [List.foldl_cons, ih, PortSet.union_get, List.any_cons, Bool.or_assoc]

theorem unionMarks_get (items : List SettleItem) (p : PortId) :
    (unionMarks items).get p = items.any fun i => i.marks.get p := by
  rw [unionMarks, foldl_union_get, PortSet.empty_get, Bool.false_or]

theorem replacedMarks_get (items : List SettleItem) (a : Nat) (o : OutputId) (p : PortId) :
    (replacedMarks items a o).get p = items.any fun i => i.isFor a o && i.marks.get p := by
  rw [replacedMarks, foldl_union_get, PortSet.empty_get, Bool.false_or, List.any_filter]

/-- The settle items that some fields sent to a station bring, with the marks of the entry and of the items replaced. -/
def State.freshItems (s : State) (g : SegId) (a : Nat) (f : Fields) (marks : PortSet) : List SettleItem :=
  f.values.map fun v =>
    { station := a, value := v, sentAt := s.now, deadline := s.now + 1000 * s.settings.settleTimeout,
      marks := marks.union (replacedMarks (s.settle.get g) a v.output) }

/-- The items that stay beside those that some fields sent to a station bring. -/
def State.keptItems (s : State) (g : SegId) (a : Nat) (f : Fields) : List SettleItem :=
  (s.settle.get g).filter fun i => !(i.station == a && f.has i.value.output)

/-- How many of the items that stay are too many. -/
def State.excessItems (s : State) (g : SegId) (a : Nat) (f : Fields) : Nat :=
  (s.keptItems g a f).length + f.values.length - Config.settleRoom

/-- A WRITE that ends GOOD, its changes of the buffer, the list and the fences last. -/
theorem State.writeGood_eq {a : Nat} {e : Entry} {es : List Entry} {sent : Fields} (hb : s.buffer.get g = e :: es)
    (he : e.state = .inFlight sent) :
    s.writeGood g a =
      let f := sent.applied (kindOf a)
      let failed := (s.keptItems g a f).take (s.excessItems g a f)
      let s1 := (s.modCommands g a fun c => c.recordWrite f).setFaultIf (!failed.isEmpty) .settleTimeout
      (((s1.modBuffer g fun _ => es).modSettle g fun _ =>
        (s.keptItems g a f).drop (s.excessItems g a f) ++ s.freshItems g a f e.marks).failMarks g
          (unionMarks failed)).completeFences g := by
  have hfault : ∀ (u : State) (is : List SettleItem) (c : Bool) (f : FaultFlag),
      ((u.modBuffer g fun _ => es).modSettle g fun _ => is).setFaultIf c f =
        ((u.setFaultIf c f).modBuffer g fun _ => es).modSettle g fun _ => is := by
    intro u is c f
    rw [State.setFaultIf_noticed rfl, State.setFaultIf_noticed rfl]
    rfl
  unfold State.writeGood
  rw [hb]
  dsimp only
  rw [he]
  dsimp only
  rw [← hfault]
  rfl

theorem State.writeGood_idle {a : Nat} (h : ∀ e es sent, s.buffer.get g = e :: es → e.state ≠ .inFlight sent) :
    s.writeGood g a = s := by
  unfold State.writeGood
  split
  · next e es hb =>
    split
    · next sent he => exact absurd he (h e es sent hb)
    · rfl
  · rfl

/-- A buffer holds a WRITE in flight at its head, or it does not. -/
theorem flying_or_idle (es : List Entry) : (∃ e rest sent, es = e :: rest ∧ e.state = .inFlight sent) ∨
    ∀ e rest sent, es = e :: rest → e.state ≠ .inFlight sent := by
  cases es with
  | nil => exact .inr fun e rest sent h => by cases h
  | cons e rest =>
    cases he : e.state with
    | waiting =>
      refine .inr fun e' rest' sent h hs => ?_
      cases h
      exact absurd (he.symm.trans hs) (by simp)
    | inFlight sent => exact .inl ⟨e, rest, sent, rfl, he⟩

/-- The list a WRITE that ends GOOD leaves has its form. -/
theorem SettleFormed.written {a : Nat} {f : Fields} {marks : PortSet} (h : SettleFormed (s.settle.get g)) :
    SettleFormed ((s.keptItems g a f).drop (s.excessItems g a f) ++ s.freshItems g a f marks) := by
  have hkept : SettleFormed (s.keptItems g a f) := h.sublist List.filter_sublist
  refine ⟨?_, List.pairwise_append.2 ⟨(hkept.sublist (List.drop_sublist ..)).2, ?_, fun i hi j hj hboth => ?_⟩⟩
  · have hvalues := f.values_length_le
    have hroom := hkept.1
    simp only [List.length_append, List.length_drop, State.excessItems, State.freshItems, List.length_map,
      Config.settleRoom]
    omega
  · refine List.pairwise_map.2 (f.values_distinct.imp fun hne hboth => hne hboth.2)
  · obtain ⟨v, hv, rfl⟩ := List.mem_map.1 hj
    have hi := (List.mem_filter.1 (List.mem_of_mem_drop hi)).2
    have hhas := Fields.has_of_mem_values hv
    dsimp only at hboth
    simp [hboth.1, hboth.2, hhas] at hi

theorem Event.writeGood (hg : g ∈ gs) (a : Nat) : Event gs s (s.writeGood g a) := by
  rcases flying_or_idle (s.buffer.get g) with ⟨e, es, sent, hb, he⟩ | hidle
  · rw [State.writeGood_eq hb he]
    refine .trans (.trans (.modCommands ..) (.setFaultIf ..)) (.outputsLeave hg _ ?_ ?_ ?_)
    · simp [hb]
    · simp only [State.setFaultIf_frame, State.modCommands_frame]
      exact SettleFormed.written
    · intro p hp
      have hmarked : ∀ u : State, u.buffer = s.buffer → u.settle = s.settle → u.marked g p = s.marked g p :=
        fun u hb hs => State.marked_congr (by rw [hb]) (by rw [hs]) p
      rw [hmarked _ (by simp) (by simp)]
      rw [List.any_append, Bool.or_eq_true] at hp
      rw [State.marked, Bool.or_eq_true]
      rcases hp with hp | hp
      · obtain ⟨i, hi, hm⟩ := List.any_eq_true.1 hp
        exact .inr (List.any_eq_true.2 ⟨i, (List.mem_filter.1 (List.mem_of_mem_drop hi)).1, hm⟩)
      · obtain ⟨i, hi, hm⟩ := List.any_eq_true.1 hp
        obtain ⟨v, -, rfl⟩ := List.mem_map.1 hi
        rw [PortSet.union_get, replacedMarks_get, Bool.or_eq_true] at hm
        rcases hm with hm | hm
        · exact .inl (List.any_eq_true.2 ⟨e, by rw [hb]; exact List.mem_cons_self, hm⟩)
        · obtain ⟨x, hx, hxm⟩ := List.any_eq_true.1 hm
          exact .inr (List.any_eq_true.2 ⟨x, hx, (Bool.and_eq_true_iff.1 hxm).2⟩)
  · rw [State.writeGood_idle hidle]
    exact .refl gs s

/-- The events at the outputs commute with what they do not look at: a WRITE that ends REFUSED, its changes of the buffer and
the fences last. -/
theorem State.writeRefused_eq {a : Nat} {e : Entry} {es : List Entry} {sent : Fields} (hb : s.buffer.get g = e :: es)
    (he : e.state = .inFlight sent) :
    s.writeRefused g a =
      let s1 := (((s.setMode g a .inLocal).modCommands g a fun c => c.forgetFields e.posted).overridesWaitFor g a
        e.posted).notifySet .override e.origins
      (((s1.modBuffer g fun _ => es).modSettle g fun _ => s.settle.get g).failMarks g e.marks).completeFences g := by
  have hmode : (s.modBuffer g fun _ => es).setMode g a .inLocal = (s.setMode g a .inLocal).modBuffer g fun _ => es := by
    unfold State.setMode
    change (match s.station? g a with | some st => _ | none => _) = _
    cases s.station? g a with
    | none => rfl
    | some st =>
      dsimp only
      split
      · rfl
      · rfl
  unfold State.writeRefused
  rw [hb]
  dsimp only
  rw [he]
  dsimp only
  rw [hmode, State.modSettle_keep _ g (by simp)]
  rfl

theorem State.writeRefused_idle {a : Nat} (h : ∀ e es sent, s.buffer.get g = e :: es → e.state ≠ .inFlight sent) :
    s.writeRefused g a = s := by
  unfold State.writeRefused
  split
  · next e es hb =>
    split
    · next sent he => exact absurd he (h e es sent hb)
    · rfl
  · rfl

theorem State.marked_of_settle {p : PortId} (h : ((s.settle.get g).any fun i => i.marks.get p) = true) :
    s.marked g p = true := by
  rw [State.marked, h, Bool.or_true]

theorem Event.writeRefused (hg : g ∈ gs) (a : Nat) : Event gs s (s.writeRefused g a) := by
  rcases flying_or_idle (s.buffer.get g) with ⟨e, es, sent, hb, he⟩ | hidle
  · rw [State.writeRefused_eq hb he]
    refine .trans (.trans (.trans (.trans (.setMode hg ..) (.modCommands ..)) (.overridesWaitFor ..)) (.notifySet ..))
      (.outputsLeave hg _ ?_ ?_ fun p hp => State.marked_of_settle ?_)
    · simp [hb]
    · simp
    · simpa using hp
  · rw [State.writeRefused_idle hidle]
    exact .refl gs s

theorem Event.discardEntries (hg : g ∈ gs) (a : Nat) : Event gs s (s.discardEntries g a) := by
  let gone := (s.buffer.get g).filter fun e => e.station == a
  let marks := gone.foldl (fun m e => m.union e.marks) PortSet.empty
  let origins := gone.foldl (fun m e => m.union e.origins) PortSet.empty
  let s1 := ((s.modCommands g a StationCommands.forgetAll).overridesWait g a).notifySet .override origins
  have heq : s.discardEntries g a = (((s1.modBuffer g fun _ => (s.buffer.get g).filter fun e => !(e.station == a)).modSettle g
      fun _ => s.settle.get g).failMarks g marks).completeFences g := by
    rw [State.modSettle_keep _ g (by simp [s1])]
    have hbuffer : ∀ f : List Entry → List Entry, s.buffer.modify g f = s.buffer.modify g fun _ => f (s.buffer.get g) := by
      intro f; cases g <;> rfl
    unfold State.discardEntries
    rw [State.modBuffer, hbuffer]
    rfl
  rw [heq]
  refine .trans (.trans (.trans (.modCommands ..) (.overridesWait ..)) (.notifySet ..))
    (.outputsLeave hg _ ?_ ?_ fun p hp => State.marked_of_settle ?_)
  · simp
  · simp
  · simpa using hp

/-- Items leave a settle list. -/
theorem Event.itemsLeave (hg : g ∈ gs) (keep : SettleItem → Bool) (marks : PortSet) :
    Event gs s (((s.modSettle g fun is => is.filter keep).failMarks g marks).completeFences g) := by
  have heq : s.modSettle g (fun is => is.filter keep) =
      (s.modBuffer g fun _ => s.buffer.get g).modSettle g fun _ => (s.settle.get g).filter keep := by
    rw [State.modBuffer_keep _ g rfl]
    cases g <;> rfl
  rw [heq]
  refine .outputsLeave hg _ (.refl _) (fun h => h.sublist List.filter_sublist) fun p hp => State.marked_of_settle ?_
  obtain ⟨i, hi, hm⟩ := List.any_eq_true.1 hp
  exact List.any_eq_true.2 ⟨i, (List.mem_filter.1 hi).1, hm⟩

theorem Event.settleCheck (hg : g ∈ gs) (a : Nat) (valued : List Nat) : Event gs s (s.settleCheck g a valued) := by
  have h := Event.itemsLeave (s := s) hg
    (fun i => !(i.station == a && settles i.value valued (s.storedValue g a))) PortSet.empty
  rw [State.failMarks_empty] at h
  exact h

theorem Event.settleFail (hg : g ∈ gs) (a : Nat) (o : OutputId) : Event gs s (s.settleFail g a o) := by
  have hfault : (s.modSettle g fun is => is.filter fun i => !(i.isFor a o)).setFault .settleTimeout =
      (s.setFault .settleTimeout).modSettle g fun is => is.filter fun i => !(i.isFor a o) := by
    rw [State.setFault_noticed, State.setFault_noticed]
    rfl
  unfold State.settleFail
  dsimp only
  rw [hfault]
  exact .trans (.setFault _) (.itemsLeave hg _ _)

end

end Sys2Proof.Machine
end

section
/-! The allocation run, passes, discovery, the quality counter, read-throughs and READ answers, each as an event of its
segment. -/

namespace Sys2Proof.Machine

/-! ### Values in range -/

theorem clamp_bounds {lo hi : Int} (h : lo ≤ hi) (x : Int) : lo ≤ clamp lo hi x ∧ clamp lo hi x ≤ hi := by
  unfold clamp
  split
  · omega
  · split <;> omega

theorem clamp_eq_max_min {lo hi : Int} (h : lo ≤ hi) (x : Int) : clamp lo hi x = max lo (min hi x) := by
  unfold clamp
  split
  · omega
  · split <;> omega

theorem demandNext_le (d : Nat) (inc : Int) : demandNext d inc ≤ 1000 := by
  have := clamp_bounds (lo := 0) (hi := 1000) (by decide) ((d : Int) + roundBy64 inc)
  unfold demandNext
  omega

/-! ### The sizes of the replies -/

@[simp] theorem be16_length (w : Word) : (be16 w).length = 2 := rfl

@[simp] theorem valueField_length (v : Option OutputValue) : (valueField v).length = 2 := by cases v <;> rfl

@[simp] theorem Point.block_length (p : Point) : p.block.length = 5 := by
  unfold Point.block
  split <;> rfl

theorem State.pointReply_length (s : State) (g : SegId) (a : Nat) (t : Target) (d : Nat) :
    (s.pointReply g a t d).length = match t with
      | .point _ => 8
      | .output _ => 27 := by
  cases t with
  | point q => simp [State.pointReply]
  | output o => simp [State.pointReply, State.outputReply]

theorem State.pointReply_short (s : State) (g : SegId) (a : Nat) (t : Target) (d : Nat) :
    (s.pointReply g a t d).length ≤ 248 := by
  rw [State.pointReply_length]
  cases t <;> simp

section
variable {gs : List SegId} {s : State} {g : SegId}

/-! ### The controller -/

/-- The controller of a segment that chooses after it is changed. -/
theorem Event.modFsc (hg : g ∈ gs) (f : Fsc → Fsc) : Event gs s (s.modFsc g f) where
  segments k hk := { fsc := PerSeg.get_modify_other _ _ fun h => hk (h ▸ hg) }

theorem Event.setActivity (hg : g ∈ gs) (a : Activity) : Event gs s (s.setActivity g a) := .modFsc hg _

theorem Event.startJob (hg : g ∈ gs) (job : Job) (retries time : Nat) : Event gs s (s.startJob g job retries time) :=
  .setActivity hg _

theorem Event.retry (hg : g ∈ gs) (t : Transaction) : Event gs s (s.retry g t) := .startJob hg ..

theorem Event.starve (hg : g ∈ gs) : Event gs s (s.starve g) := .modFsc hg _

/-! ### The allocation run and the end of pass -/

theorem Event.demandStage (l : LoopId) (warmUp : Bool) : Event gs s (s.demandStage l warmUp) := by
  unfold State.demandStage
  split
  · refine .modAlloc (fun al hal => ?_) fun _ => .refl _
    dsimp only
    split
    · exact hal
    · exact demandNext_le _ _
  · refine .trans ?_ (.setFault _)
    exact .modAlloc (fun _ => id) fun _ => .refl _

theorem Event.fullStages (l : LoopId) : Event gs s (s.fullStages l) :=
  .modAlloc (fun _ => id) fun _ => .refl _

theorem Fields.none_isEmpty : Fields.none.isEmpty = true := rfl

theorem Event.runPost (hg : g ∈ gs) (c : StationCommands) : Event gs s (s.runPost g c) := by
  unfold State.runPost
  dsimp only
  split
  · exact .refl gs s
  · next h =>
    have hanswers : s.answers g c.addr = true := by
      by_contra hno
      exact h (by rw [State.wanted, if_neg hno, Fields.none_isEmpty])
    exact .allocatorPost hg (by simpa using h) (State.answers_station hanswers)

theorem Event.runPosts (hg : g ∈ gs) : Event gs s (s.runPosts g) := .foldl (fun _ c => .runPost hg c) _ _

theorem Event.allocationRun (hg : g ∈ gs) : Event gs s (s.allocationRun g) := by
  have hstage : Event gs s
      ((s.modAlloc g fun al => { al with passes := min 2 (al.passes + 1) }).demandStage g ((s.alloc.get g).passes == 0)) := by
    refine .trans ?_ (.demandStage ..)
    exact .modAlloc (fun _ => id) fun _ => .refl _
  unfold State.allocationRun
  dsimp only
  split
  · exact hstage
  · exact (hstage.trans (.fullStages g)).trans (.runPosts hg)

/-- The posts of some records, each of the segment and of a station that has a record. -/
theorem Event.postRecords (hg : g ∈ gs) {rs : List OverrideRecord}
    (h : ∀ r ∈ rs, r.seg = g ∧ ∃ st ∈ s.image.get g, st.addr = r.station) :
    Event gs s (rs.foldl State.postRecord s) := by
  induction rs generalizing s with
  | nil => exact .refl gs s
  | cons r rs ih =>
    obtain ⟨hseg, hstation⟩ := h r List.mem_cons_self
    refine .trans (u := s.postRecord r) ?_ (ih fun x hx => ?_)
    · subst hseg
      exact .post hg (Fields.values_isEmpty _) hstation _
    · simpa using h x (List.mem_cons_of_mem _ hx)

theorem State.deliverable_iff {r : OverrideRecord} :
    s.deliverable g r = true ↔ r.seg = g ∧ r.delivery = .waiting ∧ s.answers g r.station = true := by
  simp [State.deliverable, and_assoc]

theorem Event.deliverWaiting (hg : g ∈ gs) : Event gs s (s.deliverWaiting g) := by
  unfold State.deliverWaiting
  dsimp only
  have hmap : (s.overrides.map fun r => if s.deliverable g r then { r with delivery := .posted } else r) =
      s.overrides.map fun r => { r with delivery := if s.deliverable g r then .posted else r.delivery } := by
    refine List.map_congr_left fun r _ => ?_
    split <;> rfl
  have hkept : ((s.overrides.filter fun r => s.deliverable g r).foldl State.postRecord s).overrides = s.overrides := by simp
  rw [hmap]
  refine .trans (u := (s.overrides.filter fun r => s.deliverable g r).foldl State.postRecord s)
    (.postRecords hg fun r hr => ?_) ?_
  · obtain ⟨hseg, -, hanswers⟩ := State.deliverable_iff.1 (List.mem_filter.1 hr).2
    exact ⟨hseg, State.answers_station hanswers⟩
  · generalize (s.overrides.filter fun r => s.deliverable g r).foldl State.postRecord s = u at hkept ⊢
    rw [← hkept]
    exact .mapDelivery _

theorem Event.handBack (hg : g ∈ gs) (a : Nat) (o : OutputId) : Event gs s (s.handBack g a o) := by
  unfold State.handBack
  split
  · split
    · next h => exact .allocatorPost hg (Fields.values_isEmpty _) (State.answers_station h)
    · exact .repost ..
  · exact .repost ..

theorem Event.closePass (hg : g ∈ gs) : Event gs s (s.closePass g) :=
  .trans (.trans (.modFsc hg _) (.allocationRun hg)) (.deliverWaiting hg)

@[simp] theorem Station.age_kept (limit : Nat) (pass : Word) (st : Station) :
    (st.age limit pass).seen = st.seen ∧ (st.age limit pass).addr = st.addr ∧ (st.age limit pass).kind = st.kind ∧
      (st.age limit pass).points.length = st.points.length ∧ (st.age limit pass).counter = st.counter ∧
      (st.age limit pass).mode = st.mode ∧ (st.age limit pass).attention = st.attention := by
  simp [Station.age, Station.seen]

theorem Event.openPass (hg : g ∈ gs) : Event gs s (s.openPass g) := by
  unfold State.openPass
  refine .trans (.modFsc hg _) (.mapStations (fun _ st => ?_) (fun st => ?_) (fun st => ?_) (fun st => ?_) fun _ st => ?_) <;>
    simp

theorem Event.startPass (hg : g ∈ gs) : Event gs s (s.startPass g) := by
  unfold State.startPass
  dsimp only
  split
  · exact .openPass hg
  · exact .trans (.openPass hg) (.closePass hg)

theorem Event.endPass (hg : g ∈ gs) : Event gs s (s.endPass g) := by
  unfold State.endPass
  dsimp only
  split
  · exact .trans (.closePass hg) (.startPass hg)
  · exact .closePass hg

theorem Event.dealtWith (hg : g ∈ gs) (a : Nat) : Event gs s (s.dealtWith g a) := by
  unfold State.dealtWith
  split
  · exact .modFsc hg _
  · exact .trans (.modFsc hg _) (.endPass hg)

/-! ### Read-throughs -/

theorem Event.replyReadThrough (e : ReadThrough) : Event gs s (s.replyReadThrough g e) :=
  .reply (State.pointReply_short ..)

theorem Event.leaveReadThroughs (hg : g ∈ gs) (leaves : ReadThrough → Bool) :
    Event gs s (s.leaveReadThroughs g leaves) :=
  .trans (.modFsc hg _) (.foldl (fun _ e => .replyReadThrough e) _ _)

/-! ### The quality counter and the link state -/

theorem Event.enterLost (hg : g ∈ gs) (a : Nat) : Event gs s (s.enterLost g a) := by
  have hdown : Event gs s ((s.setFault .stationLost).modStation g a fun st => { st with attention := false }) := by
    refine .trans (u := s.setFault .stationLost) (.setFault _) ?_
    exact .modStation hg (fun _ => rfl) (fun _ => rfl) (fun _ => rfl) fun _ _ => id
  exact ((hdown.trans (.discardEntries hg a)).trans (.fpbUnitLost g a)).trans (.leaveReadThroughs hg _)

theorem Event.setCounter (hg : g ∈ gs) (a : Nat) {c : Nat} (hc : s.CountersBounded → c ≤ 15) : Event gs s (s.setCounter g a c) := by
  have hset : Event gs s ((s.modStation g a fun st => { st with counter := c }).notifyIf
      (linkFor c != s.link g a) .station) := by
    refine .trans ?_ (.notifyIf ..)
    exact .modStation hg (fun _ => rfl) (fun _ => rfl) (fun _ => rfl) fun hs _ _ => hc hs
  unfold State.setCounter
  dsimp only
  split
  · exact hset.trans (.enterLost hg a)
  · exact hset

theorem Event.countGood (hg : g ∈ gs) (a : Nat) : Event gs s (s.countGood g a) :=
  .setCounter hg a fun _ => by omega

end

end Sys2Proof.Machine
end

section
/-! The ends of the calls of a segment, discovery, the choice of the next call, and the commands of a segment, each as an
event of its segment. -/

namespace Sys2Proof.Machine

section
variable {gs : List SegId} {s : State} {g : SegId}

theorem State.counter_le (hs : s.CountersBounded) (g : SegId) (a : Nat) : s.counter g a ≤ 15 := by
  unfold State.counter
  split
  · next st hst => exact hs g st (List.mem_of_find?_eq_some hst)
  · exact Nat.zero_le _

theorem Event.countBad (hg : g ∈ gs) (a : Nat) : Event gs s (s.countBad g a) :=
  .setCounter hg a fun hs => (Nat.sub_le _ _).trans (State.counter_le hs g a)

theorem Event.setMismatch (hg : g ∈ gs) (a : Nat) (m : Bool) : Event gs s (s.setMismatch g a m) := by
  unfold State.setMismatch
  split
  · refine .trans (.trans ?_ (.notifyIf ..)) (.setFaultIf ..)
    exact .modStation hg (fun _ => rfl) (fun _ => rfl) (fun _ => rfl) fun _ _ => id
  · exact .refl gs s

/-! ### Discovery (R35, R12) -/

theorem Event.discoverFrom (hg : g ∈ gs) (above : Nat) : Event gs s (s.discoverFrom g above) := by
  unfold State.discoverFrom
  split
  · exact .startJob hg ..
  · exact .trans (.setActivity hg _) (.startPass hg)

theorem Event.beginDiscovery (hg : g ∈ gs) : Event gs s (s.beginDiscovery g) := .discoverFrom hg 0

theorem Event.conclude (hg : g ∈ gs) (a : Nat) (found : Bool) : Event gs s (s.conclude g a found) := by
  have hset : Event gs s ((s.modStation g a fun st => { st with counter := if found then 12 else 0 }).notifyAll
      .station) := by
    refine .trans ?_ (.notifyAll _)
    exact .modStation hg (fun _ => rfl) (fun _ => rfl) (fun _ => rfl) fun _ st _ => by dsimp only; split <;> omega
  unfold State.conclude
  refine .trans ?_ (.discoverFrom hg a)
  cases found
  · exact hset.trans (.enterLost hg a)
  · exact hset

/-! ### READ answers (R3, R4, R6, R33, R34) -/

/-- A READ stores points and changes nothing else of a record. -/
theorem Station.takeFrom_only (stamp : Word) (vs : List Int) (q : Nat) (st : Station) :
    Station.takeFrom stamp q vs st = { st with points := (Station.takeFrom stamp q vs st).points } ∧
      (Station.takeFrom stamp q vs st).points.length = st.points.length := by
  induction vs generalizing q st with
  | nil => exact ⟨rfl, rfl⟩
  | cons v vs ih =>
    obtain ⟨honly, hlength⟩ := ih (q + 1) { st with points := st.points.set q ((st.point q).take st.kind q stamp v) }
    exact ⟨honly, hlength.trans (by simp)⟩

theorem Event.modeFromPoint (hg : g ∈ gs) (a : Nat) (valued : List Nat) : Event gs s (s.modeFromPoint g a valued) := by
  unfold State.modeFromPoint
  split
  · exact .setMode hg ..
  · exact .refl gs s

theorem Event.clearAttention (hg : g ∈ gs) (j : ReadJob) : Event gs s (s.clearAttention g j) := by
  unfold State.clearAttention
  split
  · exact .modStation hg (fun _ => rfl) (fun _ => rfl) (fun _ => rfl) fun _ _ => id
  · exact .refl gs s

theorem Event.shortfallFrom (g : SegId) (j : ReadJob) (valued : List Nat) : Event gs s (s.shortfallFrom g j valued) := by
  unfold State.shortfallFrom
  split
  · exact .shortfall ..
  · exact .refl gs s

theorem Event.takePoints (hg : g ∈ gs) (a : Nat) (stamp : Word) (first : Nat) (vs : List Int) :
    Event gs s (s.modStation g a (Station.takeFrom stamp first vs)) :=
  .modStation hg (fun st => by rw [(Station.takeFrom_only stamp vs first st).1])
    (fun st => by rw [(Station.takeFrom_only stamp vs first st).1])
    (fun st => (Station.takeFrom_only stamp vs first st).2)
    fun _ st h => by rw [(Station.takeFrom_only stamp vs first st).1]; exact h

theorem Event.readPoints (hg : g ∈ gs) (j : ReadJob) (vs : List Int) : Event gs s (s.readPoints g j vs) :=
  .trans (.trans (.trans (.trans (.trans (.trans (.takePoints hg ..) (.countGood hg _)) (.clearAttention hg _))
    (.modeFromPoint hg ..)) (.fpbEvent _)) (.shortfallFrom ..)) (.settleCheck hg ..)

theorem Event.endRead (hg : g ∈ gs) (j : ReadJob) : Event gs s (s.endRead g j) := by
  have h : Event gs s (s.leaveReadThroughs g fun e => j.served e || j.purpose == .readThrough e.port) :=
    .leaveReadThroughs hg _
  unfold State.endRead
  dsimp only
  split
  · exact h.trans (.dealtWith hg _)
  · exact h
  · exact h

theorem Event.readGood (hg : g ∈ gs) (j : ReadJob) (ready : Bool) (vs : List Int) :
    Event gs s (s.readGood g j ready vs) := by
  have h : Event gs s ((s.readPoints g j vs).afterRead g ready) := .trans (.readPoints hg j vs) (.setActivity hg _)
  unfold State.readGood
  dsimp only
  split
  · exact h.trans (.modFsc hg _)
  · exact h.trans (.endRead hg _)

/-! ### The ends of an attempt (R21, R22) -/

theorem Event.endProbe (hg : g ∈ gs) (a : Nat) : Event gs s (s.endProbe g a) :=
  .trans (.setActivity hg _) (.dealtWith hg a)

theorem Event.attemptFailed (hg : g ∈ gs) (t : Transaction) : Event gs s (s.attemptFailed g t) := by
  unfold State.attemptFailed
  split
  · split
    · exact .retry hg t
    · exact .conclude hg ..
  · exact .endProbe hg _
  · dsimp only
    split
    · exact .trans (.countBad hg _) (.retry hg t)
    · exact .trans (.trans (.countBad hg _) (.setActivity hg _)) (.endRead hg _)
  · dsimp only
    split
    · exact .trans (.countBad hg _) (.setActivity hg _)
    · split
      · exact .trans (.countBad hg _) (.retry hg t)
      · exact .trans (.trans (.countBad hg _) (.writeReturn hg)) (.setActivity hg _)
  · exact .refl gs s

theorem Event.probeAnswer (hg : g ∈ gs) (a : Nat) (kind : Byte) : Event gs s (s.probeAnswer g a kind) := by
  unfold State.probeAnswer
  dsimp only
  refine .trans ?_ (.endProbe hg a)
  split
  · exact .trans (.trans (.setMismatch hg ..) (.setCounter hg a fun _ => by omega)) (.modFsc hg _)
  · exact .setMismatch hg ..

theorem Event.answer (hg : g ∈ gs) (t : Transaction) (chars : List Byte) : Event gs s (s.answer g t chars) := by
  unfold State.answer
  split
  · split
    · exact .trans (.setMismatch hg ..) (.conclude hg ..)
    · exact .attemptFailed hg t
  · split
    · exact .probeAnswer hg ..
    · exact .attemptFailed hg t
  · split
    · split
      · split
        · exact .readGood hg ..
        · exact .trans (.trans (.countGood hg _) (.setActivity hg _)) (.endRead hg _)
      · exact .attemptFailed hg t
    · exact .attemptFailed hg t
  · split
    · split
      · dsimp only
        split
        · exact .trans (.trans (.countGood hg _) (.setActivity hg _)) (.writeGood hg _)
        · exact .trans (.trans (.countGood hg _) (.setActivity hg _)) (.writeRefused hg _)
      · exact .attemptFailed hg t
    · exact .attemptFailed hg t
  · exact .refl gs s

/-! ### The choice of the next call (R41, R42) -/

theorem Event.start (hg : g ∈ gs) (c : Choice) : Event gs s (s.start g c) := by
  unfold State.start
  split
  · exact .trans (.modFsc hg _) (.startJob hg ..)
  · exact .trans (.trans (.modFsc hg _) (.starve hg)) (.startJob hg ..)
  · exact .trans (.starve hg) (.startJob hg ..)
  · exact .trans (.trans (.starve hg) (.flyHead hg)) (.startJob hg ..)
  · exact .trans (.starve hg) (.startJob hg ..)
  · dsimp only
    split
    · exact .trans (.modFsc hg _) (.startJob hg ..)
    · exact .trans (.modFsc hg _) (.startJob hg ..)
  · exact .refl gs s
  · exact .refl gs s

theorem Event.arbitrate (hg : g ∈ gs) : Event gs s (s.arbitrate g) := by
  unfold State.arbitrate
  split
  · split
    · exact .trans (.endPass hg) (.start hg _)
    · exact .start hg _
  · exact .refl gs s

/-! ### The commands of a segment and of the timers -/

theorem Event.passTimerExpired (hg : g ∈ gs) : Event gs s (s.passTimerExpired g) := by
  unfold State.passTimerExpired
  dsimp only
  split
  · exact .trans (.trans (.modFsc hg _) (.modFsc hg _)) (.setFault _)
  · exact .trans (.modFsc hg _) (.startPass hg)

theorem Event.takePoll (hg : g ∈ gs) (slots : List (Option Byte)) : Event gs s (s.takePoll g slots) :=
  .mapStations (fun hn => absurd hg hn) (fun st => by split <;> rfl) (fun st => by split <;> rfl)
    (fun st => by split <;> rfl) fun _ st h => by split <;> exact h

theorem Event.icingExpired : Event gs s s.icingExpired := by
  have h : Event gs s (((s.clearIcing .fs0).clearIcing .fs1).notifyIf (s.anyIced .fs0 || s.anyIced .fs1) .frost) :=
    .trans (.trans (.clearIcing _) (.clearIcing _)) (.notifyIf ..)
  exact h.trans {}

theorem rotate_perm (as : List Nat) : (rotate as).Perm as := by
  cases as with
  | nil => exact .refl _
  | cons a as => exact List.perm_append_singleton a as

/-! ### Duty requests (chapter 5) -/

theorem mergeOf_ordered {d : LoopSettings} (hd : d.fallbackOrder = true) (rs : List Request) :
    (mergeOf d rs).floor ≤ (mergeOf d rs).target ∧ (mergeOf d rs).target ≤ (mergeOf d rs).ceiling := by
  cases rs with
  | nil => simpa [LoopSettings.fallbackOrder, mergeOf, Merge.fallback] using hd
  | cons r rs =>
    have hfloor : (if lowestCeiling r rs < highestFloor r rs then lowestCeiling r rs else highestFloor r rs) ≤
        lowestCeiling r rs := by split <;> omega
    exact clamp_bounds hfloor _

theorem Event.setMerge {l : LoopId} {m : Merge}
    (h : (s.settings.loop.get l).fallbackOrder = true → m.floor ≤ m.target ∧ m.target ≤ m.ceiling) :
    Event gs s (s.setMerge l m) where
  merges hs k := by
    obtain ⟨hmerge, hfallback⟩ := hs k
    refine ⟨?_, hfallback⟩
    rw [State.setMerge_merge]
    by_cases hk : k = l
    · subst hk; rw [PerSeg.get_set_self]; exact h hfallback
    · rw [PerSeg.get_set_other _ _ hk]; exact hmerge

theorem Event.recomputeMerge (l : LoopId) : Event gs s (s.recomputeMerge l) :=
  .trans (.trans (.setMerge fun h => mergeOf_ordered h _) (.notifyIf ..)) (.setFaultIf ..)

theorem Event.emptySlot (p : PortId) (l : LoopId) : Event gs s (s.emptySlot p l) := by
  unfold State.emptySlot
  split
  · exact .trans (.modSlot ..) (.recomputeMerge l)
  · exact .refl gs s

end

end Sys2Proof.Machine
end

section
/-! The transmitter, the receiver, the replies, fences, the override table and the access map, each as an event. -/

namespace Sys2Proof.Machine

/-! ### The transmitter and the receiver -/

/-- A transmitter that starts what is ready sends a frame of its own, without a body or with the notice bits, or a reply that
was ready. -/
theorem Port.FramesShort.kick {x : Port} (h : x.FramesShort) (now : Nat) : (x.kick now).FramesShort := by
  cases hs : x.sending with
  | some f => rw [Port.kick_sending hs]; exact h
  | none =>
    have hrate : x.applyRate.replies = x.replies ∧ x.applyRate.sending = x.sending := by
      unfold Port.applyRate
      split
      · split <;> exact ⟨rfl, rfl⟩
      · exact ⟨rfl, rfl⟩
    obtain ⟨hreplies, hsending⟩ := hrate
    obtain ⟨hshort, -⟩ := h
    rw [Port.kick_idle hs]
    unfold Port.start
    split
    · refine ⟨fun f hf => hshort f (hreplies ▸ hf), fun f hf => ?_⟩
      cases hf
      simp only [FlowTelegram.frame]
      split <;> simp [ownFrame]
    · next r rest _ hr =>
      rw [hreplies] at hr
      refine ⟨fun f hf => hshort f (hr ▸ List.mem_cons_of_mem _ hf), fun f hf => ?_⟩
      cases hf
      exact hshort _ (hr ▸ List.mem_cons_self)
    · split
      · refine ⟨fun f hf => hshort f (hreplies ▸ hf), fun f hf => ?_⟩
        cases hf
        simp [ownFrame]
      · refine ⟨fun f hf => hshort f (hreplies ▸ hf), fun f hf => ?_⟩
        rw [hsending, hs] at hf
        cases hf

theorem Port.QueueBounded.take {x : Port} (h : x.QueueBounded) (hroom : x.queue.length < 16) (t : Telegram) :
    (x.take t).QueueBounded := by
  obtain ⟨hmax, hclear, hpaused⟩ := h
  unfold Port.take
  dsimp only
  split
  · next hc =>
    have hlength : x.queue.length + 1 = 12 := hc.1
    refine ⟨?_, fun hp => ?_, fun _ => ?_⟩
    · simp; omega
    · cases hp
    · simp; omega
  · next hc =>
    have hc : x.paused = false → x.queue.length + 1 ≠ 12 := fun hp hl => hc ⟨hl, hp⟩
    refine ⟨?_, fun hp => ?_, fun hp => ?_⟩
    · simp; omega
    · have := hc hp
      have := hclear hp
      simp; omega
    · have := hpaused hp
      simp; omega

theorem Port.FramesShort.take {x : Port} (h : x.FramesShort) (t : Telegram) : (x.take t).FramesShort := by
  unfold Port.take
  dsimp only
  split <;> exact h

section
variable {gs : List SegId} {s : State} {g : SegId}

theorem Event.kickPorts : Event gs s s.kickPorts := by
  unfold State.kickPorts
  split
  · next hrun =>
    refine .mapPorts fun p => ⟨fun h => ?_, fun hl => ?_, fun h => h.kick _⟩
    · unfold Port.QueueBounded
      rw [(Port.kick_queue _ _).1, (Port.kick_queue _ _).2]
      exact h
    · rw [hl] at hrun
      cases hrun
  · exact .refl gs s

/-- Once every idle transmitter has started what was ready, none has anything ready. -/
theorem State.kickPorts_busy (s : State) : s.kickPorts.TransmittersBusy := by
  intro hrun p
  rw [(State.kickPorts_frame s).2.2.1] at hrun
  rw [State.kickPorts_running hrun]
  dsimp only
  rw [PerPort.get_map]
  exact Port.kick_busy _ _

theorem Event.takeTelegram (hrun : s.phase = .running) (p : PortId) (t : Telegram) : Event gs s (s.takeTelegram p t) := by
  unfold State.takeTelegram
  split
  · next hroom =>
    exact .modPort ⟨fun h => h.take hroom t, fun hl => absurd (hl.symm.trans hrun) (by decide), fun h => h.take t⟩
  · exact .setFault _

theorem Event.receiveInto (hrun : s.phase = .running) (p : PortId) (r : Option (List Byte)) :
    Event gs s (s.receiveInto p r) :=
  .modPort (.quiet rfl rfl rfl (.inl rfl) (.inr (.inr hrun)))

theorem Event.receiveNone (p : PortId) : Event gs s (s.receiveInto p none) :=
  .modPort (.quiet rfl rfl rfl (.inl rfl) (.inr (.inl rfl)))

theorem Event.frameEnds (hrun : s.phase = .running) (p : PortId) (bytes : List Byte) :
    Event gs s (s.frameEnds p bytes) := by
  unfold State.frameEnds
  split
  · exact .takeTelegram hrun ..
  · exact .setFault _

theorem Event.receiveChar (hrun : s.phase = .running) (p : PortId) (c : Byte) : Event gs s (s.receiveChar p c) := by
  unfold State.receiveChar
  split
  · split
    · exact .receiveInto hrun ..
    · exact .refl gs s
  · split
    · exact .receiveInto hrun ..
    · exact .trans (.receiveNone p) (.setFault _)
  · dsimp only
    split
    · exact .trans (u := s.receiveInto p none) (.receiveNone p) (.frameEnds (by simpa using hrun) ..)
    · exact .receiveInto hrun ..

theorem Event.receive (p : PortId) (cs : List Byte) (s : State) (hrun : s.phase = .running) :
    Event gs s (s.receive p cs) := by
  induction cs generalizing s with
  | nil => exact .refl gs s
  | cons c cs ih =>
    have hc : Event gs s (s.receiveChar p c) := .receiveChar hrun p c
    exact hc.trans (ih _ (hc.phase.trans hrun))

end

/-! ### The sizes of the replies (12.4) -/

theorem flatMap_length_eq {α : Type} {f : α → List Byte} {n : Nat} {xs : List α} (h : ∀ x ∈ xs, (f x).length = n) :
    (xs.flatMap f).length = n * xs.length := by
  induction xs with
  | nil => rfl
  | cons x xs ih =>
    rw [List.flatMap_cons, List.length_append, h x List.mem_cons_self,
      ih fun y hy => h y (List.mem_cons_of_mem _ hy), List.length_cons]
    ring

theorem Station.reply_length (g : SegId) (st : Station) : (st.reply g).length = 8 + 5 * st.points.length := by
  rw [Station.reply, List.length_append, flatMap_length_eq fun x _ => Point.block_length x]
  rfl

theorem padTo_length {n : Nat} {bytes : List Byte} (h : bytes.length ≤ n) : (padTo n bytes).length = n := by
  rw [padTo, List.length_append, List.length_replicate]
  omega

/-- A loop has at most ten units, at addresses 1 to 10. -/
theorem unitsOf_addresses_length (set : Word) : (unitsOf (addresses set)).length ≤ 10 := by
  have hsub : (unitsOf (addresses set)).Sublist (unitsOf [1, 2, 3, 4, 5, 6, 7, 8, 9, 10, 11, 12]) :=
    List.filter_sublist.filter _
  exact hsub.length_le

theorem UnitFrost.bytes_length (u : UnitFrost) : u.bytes.length = 5 := rfl

theorem slotBytes_length (now : Nat) (r : Option Request) : (slotBytes now r).length = 11 := by cases r <;> rfl

theorem lastRunBytes_length (r : Option LastRun) : (lastRunBytes r).length = 7 := by cases r <;> rfl

/-- READ STATUS is 115 bytes where the service order and the units are those of a loop. -/
theorem State.statusReply_length {s : State} {l : LoopId} (p : PortId) (horder : (s.alloc.get l).order.length ≤ 10)
    (hunits : (s.fpb.get l).units.length ≤ 10) : (s.statusReply p l).length = 115 := by
  have horders : (s.alloc.get l).orderBytes.length = 11 := by
    rw [Allocator.orderBytes, List.length_cons, padTo_length (by rw [List.length_map]; exact horder)]
  have hunit : (s.fpb.get l).unitBytes.length = 51 := by
    rw [Fpb.unitBytes, List.length_cons, padTo_length]
    rw [flatMap_length_eq fun x _ => UnitFrost.bytes_length x]
    omega
  simp [State.statusReply, Merge.bytes, Allocator.demandBytes, Fpb.bytes, State.outputBytes, State.segmentBytes,
    slotBytes_length, lastRunBytes_length, horders, hunit]

theorem State.overrideBytes_length (s : State) (r : OverrideRecord) : (s.overrideBytes r).length = 15 := by
  simp [State.overrideBytes]

theorem State.overridesReply_length (s : State) : s.overridesReply.length = 2 + 15 * s.overrides.length := by
  rw [State.overridesReply, List.length_append, flatMap_length_eq fun r _ => s.overrideBytes_length r]
  rfl

/-- Records in ascending index order below a bound are no more than the bound. -/
theorem length_le_of_ascending {α : Type} {f : α → Nat} {n : Nat} {xs : List α} (h : xs.Pairwise fun x y => f x < f y)
    (hn : ∀ x ∈ xs, f x < n) : xs.length ≤ n := by
  have hnodup : (xs.map f).Nodup := (List.pairwise_map.2 h).imp fun hlt => Nat.ne_of_lt hlt
  have hsub : xs.map f ⊆ List.range n := fun i hi => by
    obtain ⟨x, hx, rfl⟩ := List.mem_map.1 hi
    exact List.mem_range.2 (hn x hx)
  have := (hnodup.subperm hsub).length_le
  rwa [List.length_map, List.length_range] at this

theorem State.OverridesFormed.length_le {s : State} (h : s.OverridesFormed) : s.overrides.length ≤ 16 :=
  length_le_of_ascending h.1 fun r hr => (h.2.2 r hr).1

theorem State.entryBytes_length (s : State) (e : MapEntry) : (s.entryBytes e).length = 9 := rfl

section
variable {gs : List SegId} {s : State} {g : SegId}

/-! ### The telegrams that read -/

theorem Event.unresolved (p : PortId) (r : Resolution) : Event gs s (s.unresolved p r) := by
  unfold State.unresolved
  split
  · exact .refl gs s
  · exact .refuse ..
  · exact .refuseMiss ..

theorem Event.readStation (p : PortId) (t : Telegram) : Event gs s (s.readStation p t) := by
  unfold State.readStation
  split
  · next g a _ =>
    split
    · next st hst =>
      refine .replyWith (fun himage _ _ _ => ?_) _
      rw [Station.reply_length, ((himage g).2 st (List.mem_of_find?_eq_some hst)).2]
      decide
    · exact .refuse ..
  · exact .refuse ..

theorem Event.readStatus (p : PortId) (t : Telegram) : Event gs s (s.readStatus p t) := by
  unfold State.readStatus
  split
  · next l _ =>
    refine .replyWith (fun _ horders hcaps _ => ?_) _
    have horder : (s.alloc.get l).order.length ≤ 10 := by
      rw [(horders l).length_eq]
      exact unitsOf_addresses_length _
    have hunits : (s.fpb.get l).units.length ≤ 10 := by
      rw [← List.length_map (f := UnitFrost.addr), (hcaps l).2]
      exact unitsOf_addresses_length _
    rw [State.statusReply_length p horder hunits]
    decide
  · exact .refuse ..

theorem Event.readFaults (p : PortId) (t : Telegram) : Event gs s (s.readFaults p t) := by
  have hreply : Event gs s (s.reply p (doneByte :: faultBytes s.faults)) := .reply (by simp [faultBytes])
  unfold State.readFaults
  split
  · dsimp only
    split
    · exact hreply.trans (.setFaults _)
    · exact hreply
  · exact .refuse ..

theorem Event.readOverrides (p : PortId) (t : Telegram) : Event gs s (s.readOverrides p t) := by
  unfold State.readOverrides
  split
  · refine .replyWith (fun _ _ _ hoverrides => ?_) _
    rw [State.overridesReply_length]
    have := hoverrides.length_le
    omega
  · exact .refuse ..

theorem Event.readSetting (p : PortId) (t : Telegram) : Event gs s (s.readSetting p t) := by
  unfold State.readSetting
  split
  · split
    · exact .reply (by simp)
    · exact .refuse ..
  · exact .refuse ..

theorem Event.markStale (p : PortId) (t : Telegram) : Event gs s (s.markStale p t) := by
  unfold State.markStale
  split
  · split
    · split
      · refine .trans ?_ (.reply (by simp))
        exact .mapStations (fun _ _ => rfl) (fun _ => rfl) (fun _ => rfl) (fun st => by simp [Station.stale])
          fun _ _ => id
      · exact .refuse ..
    · exact .refuse ..
  · exact .refuse ..

/-! ### Duty requests and fences -/

theorem Event.postRequest (p : PortId) (t : Telegram) : Event gs s (s.postRequest p t) := by
  unfold State.postRequest
  split
  · split
    · exact .refuse ..
    · split
      · split
        · exact .trans (.trans (.modSlot ..) (.recomputeMerge _)) (.reply (by simp [Request.reply]))
        · exact .refuse ..
      · exact .refuse ..
  · exact .refuse ..

theorem Event.withdrawRequest (p : PortId) (t : Telegram) : Event gs s (s.withdrawRequest p t) := by
  unfold State.withdrawRequest
  split
  · split
    · exact .refuse ..
    · split
      · exact .trans (.emptySlot ..) (.reply (by simp))
      · exact .refuse ..
  · exact .refuse ..

/-- Marking entries changes nothing that a call carries. -/
theorem State.modBuffer_marks_flying (s : State) (g : SegId) (f : Entry → PortSet) :
    (s.modBuffer g fun es => es.map fun e => { e with marks := f e }).flyingFields g = s.flyingFields g := by
  unfold State.flyingFields
  rw [State.modBuffer_buffer, PerSeg.get_modify_self]
  cases s.buffer.get g with
  | nil => rfl
  | cons e es => rfl

theorem Event.takeFence (p : PortId) (l : LoopId) : Event gs s (s.takeFence p l) := by
  refine .trans (.completeFences rfl (fun k hk => ⟨?_, ?_, fun q => ?_⟩) (fun _ => ?_) (fun h => ?_) (fun h => ?_)
    fun h q hq => ?_) (.reply (by simp))
  · simp [State.markAll_buffer, PerSeg.get_modify_other _ _ hk]
  · simp [State.markAll_settle, PerSeg.get_modify_other _ _ hk]
  · simp only [State.markAll, State.modSettle_fences, State.modBuffer_fences, State.setFence_fences]
    rw [PerPort.get_modify]
    split
    · rw [PerSeg.get_set_other _ _ hk]
    · rfl
  · refine { buffer := ?_, flying := State.modBuffer_marks_flying _ l _, settle := ?_ }
    · simp [State.markAll_buffer, Function.comp_def]
    · simp [State.markAll_settle]
  · rw [State.markAll_buffer, PerSeg.get_modify_self]
    exact h.mapMarks _
  · rw [State.markAll_settle, PerSeg.get_modify_self]
    exact h.mapMarks _
  · rw [State.markAll, State.modSettle_fences, State.modBuffer_fences, State.setFence_fences]
    by_cases hqp : q = p
    · subst hqp
      simp [FenceRecord.isPending]
    · rw [State.markAll_marked_other _ _ hqp, State.setFence_marked] at hq
      rw [PerPort.get_modify_other _ _ hqp]
      exact h q hq

theorem Event.fence (p : PortId) (t : Telegram) : Event gs s (s.fence p t) := by
  unfold State.fence
  split
  · split
    · exact .refuse ..
    · split
      · split
        · exact .refuse ..
        · exact .takeFence ..
      · exact .refuse ..
  · exact .refuse ..

/-! ### The access map -/

theorem Event.setMap {es : List MapEntry} (h : s.MapFormed → (s.setMap es).MapFormed) : Event gs s (s.setMap es) where
  accessMap := h

theorem State.MapFormed.sublist {es : List MapEntry} (h : s.MapFormed) (hs : es.Sublist s.accessMap) :
    (s.setMap es).MapFormed := by
  obtain ⟨hsizes, hindex, hapart, hentry⟩ := h
  exact ⟨hsizes, hindex.sublist hs, hapart.sublist hs, fun e he => hentry e (hs.subset he)⟩

theorem mem_insertEntry {e x : MapEntry} {es : List MapEntry} : x ∈ insertEntry e es ↔ x = e ∨ x ∈ es := by
  induction es with
  | nil => simp [insertEntry]
  | cons y ys ih =>
    unfold insertEntry
    split
    · simp
    · simp only [List.mem_cons, ih]
      exact or_left_comm

/-- Whatever holds between an entry and every other holds in the map with the entry placed among them. -/
theorem insertEntry_pairwise {R : MapEntry → MapEntry → Prop} {e : MapEntry} {es : List MapEntry} (h : es.Pairwise R)
    (hbefore : ∀ x ∈ es, x.index ≤ e.index → R x e) (hafter : ∀ x ∈ es, e.index < x.index → R e x)
    (hindex : es.Pairwise fun x y => x.index < y.index) : (insertEntry e es).Pairwise R := by
  induction es with
  | nil => exact List.pairwise_singleton R e
  | cons y ys ih =>
    obtain ⟨hy, hys⟩ := List.pairwise_cons.1 h
    obtain ⟨hiy, hiys⟩ := List.pairwise_cons.1 hindex
    unfold insertEntry
    split
    · next hlt =>
      refine List.pairwise_cons.2 ⟨fun x hx => hafter x hx ?_, h⟩
      rcases List.mem_cons.1 hx with rfl | hx
      · exact hlt
      · exact hlt.trans (hiy x hx)
    · next hge =>
      refine List.pairwise_cons.2 ⟨fun x hx => ?_, ih hys (fun x hx => hbefore x (List.mem_cons_of_mem _ hx))
        (fun x hx => hafter x (List.mem_cons_of_mem _ hx)) hiys⟩
      rcases mem_insertEntry.1 hx with rfl | hx
      · exact hbefore y List.mem_cons_self (Nat.le_of_not_lt hge)
      · exact hy x hx

/-- The lowest free index of a bank is in the bank, and free. -/
theorem State.freeInBank_some {b : Bank} {i : Nat} (h : s.freeInBank b = some i) :
    bankOf i = b ∧ i < 64 ∧ ∀ e ∈ s.accessMap, e.index ≠ i := by
  unfold State.freeInBank at h
  have hfree := List.find?_some h
  obtain ⟨k, hk, rfl⟩ := List.mem_map.1 (List.mem_of_find?_eq_some h)
  rw [List.mem_range] at hk
  change k < 32 at hk
  refine ⟨?_, ?_, fun e he => by simpa using List.all_eq_true.1 hfree e he⟩
  · cases b
    · exact if_pos (by change 0 + k < 32; omega)
    · exact if_neg (by change ¬(32 + k < 32); omega)
  · cases b
    · change 0 + k < 64; omega
    · change 32 + k < 64; omega

theorem State.placeFor_some {size i : Nat} (h : s.placeFor size = some i) :
    s.settings.blockSize (bankOf i) = size ∧ i < 64 ∧ ∀ e ∈ s.accessMap, e.index ≠ i := by
  unfold State.placeFor at h
  rw [Option.orElse_eq_some] at h
  rcases h with h | ⟨-, h⟩
  · split at h
    · next hsize =>
      obtain ⟨hbank, hi⟩ := State.freeInBank_some h
      exact ⟨by rw [hbank]; exact hsize, hi⟩
    · cases h
  · split at h
    · next hsize =>
      obtain ⟨hbank, hi⟩ := State.freeInBank_some h
      exact ⟨by rw [hbank]; exact hsize, hi⟩
    · cases h

theorem MapBody.allowed_iff {b : MapBody} : b.allowed = true ↔ (ownerOf b.owner).isSome = true ∧ b.logical < 0x8000 ∧
    0x8000 ≤ b.physical ∧ b.size ∈ [1, 4, 16, 64] ∧ b.logical % b.size = 0 ∧ b.physical % b.size = 0 := by
  simp only [MapBody.allowed, Bool.and_eq_true, decide_eq_true_eq, beq_iff_eq, List.contains_iff_mem, and_assoc]
  rfl

theorem bodyMap_physical {body : List Byte} {b : MapBody} (h : bodyMap body = some b) : b.physical < 0x10000 := by
  unfold bodyMap at h
  split at h
  · split at h
    · cases h
      exact (word16 _ _).isLt
    · cases h
  · cases h

theorem State.MapFormed.insert {b : MapBody} {owner : Option PortId} {i : Nat} (h : s.MapFormed)
    (hb : b.allowed = true) (hphysical : b.physical < 0x10000)
    (hclash : ∀ e ∈ s.accessMap, s.clashes owner b.logical b.size e = false) (hi : s.placeFor b.size = some i) :
    (s.setMap (insertEntry (b.entry owner i) s.accessMap)).MapFormed := by
  obtain ⟨hsizes, hindex, hapart, hentry⟩ := h
  obtain ⟨hsize, hlt, hfree⟩ := State.placeFor_some hi
  obtain ⟨-, hlogical, hdirect, -, halignl, halignp⟩ := MapBody.allowed_iff.1 hb
  have hnew : s.sizeOf (b.entry owner i) = b.size := hsize
  have hnoclash : ∀ e ∈ s.accessMap, (e.owner = owner ∨ e.owner = none ∨ owner = none) →
      e.logical + s.sizeOf e ≤ b.logical ∨ b.logical + b.size ≤ e.logical := by
    intro e he howner
    have := hclash e he
    simp only [State.clashes, Bool.and_eq_false_iff, Bool.or_eq_false_iff, beq_eq_false_iff_ne, decide_eq_false_iff_not] at this
    rcases this with (⟨⟨h1, h2⟩, h3⟩ | hle) | hle
    · simp_all
    · exact .inl (Nat.le_of_not_lt hle)
    · exact .inr (Nat.le_of_not_lt hle)
  refine ⟨hsizes, ?_, ?_, fun e he => ?_⟩
  · refine insertEntry_pairwise hindex (fun x hx hle => ?_) (fun x _ hlt => hlt) hindex
    exact lt_of_le_of_ne hle (hfree x hx)
  · refine insertEntry_pairwise hapart (fun x hx _ howner => ?_) (fun x hx _ howner => ?_) hindex
    · change x.logical + s.sizeOf x ≤ b.logical ∨ b.logical + s.sizeOf (b.entry owner i) ≤ x.logical
      rw [hnew]
      exact hnoclash x hx howner
    · change b.logical + s.sizeOf (b.entry owner i) ≤ x.logical ∨ x.logical + s.sizeOf x ≤ b.logical
      rw [hnew]
      refine (hnoclash x hx ?_).symm
      rcases howner with howner | howner | howner
      · exact .inl howner.symm
      · exact .inr (.inr howner)
      · exact .inr (.inl howner)
  · rcases mem_insertEntry.1 he with rfl | he
    · refine ⟨hlt, hlogical, hdirect, hphysical, ?_, ?_⟩
      · change b.logical % s.sizeOf (b.entry owner i) = 0
        rw [hnew, halignl]
      · change b.physical % s.sizeOf (b.entry owner i) = 0
        rw [hnew, halignp]
    · exact hentry e he

theorem Event.mapTelegram {α : Type} {p : PortId} {body : Option α} {act : α → State}
    (h : ∀ b, body = some b → Event gs s (act b)) : Event gs s (s.mapTelegram p body act) := by
  unfold State.mapTelegram
  split
  · next b =>
    split
    · exact h b rfl
    · exact .refuse ..
  · exact .refuse ..

theorem Event.map (p : PortId) (t : Telegram) : Event gs s (s.map p t) := by
  refine .mapTelegram fun b hbody => ?_
  split
  · next owner _ =>
    split
    · next hallowed =>
      unfold State.mapBlock
      split
      · exact .refuse ..
      · split
        · exact .refuse ..
        · next hclash =>
          split
          · next i hi =>
            refine .trans (.setMap fun h => h.insert hallowed (bodyMap_physical hbody) (fun e he => ?_) hi)
              (.reply (by simp))
            exact Bool.eq_false_iff.2 fun hc => hclash (List.any_eq_true.2 ⟨e, he, hc⟩)
          · exact .refuse ..
    · exact .refuse ..
  · exact .refuse ..

theorem Event.flushBank (b : Bank) : Event gs s (s.flushBank b) := .setMap fun h => h.sublist List.filter_sublist

theorem Event.unmap (p : PortId) (t : Telegram) : Event gs s (s.unmap p t) := by
  refine .mapTelegram fun b _ => ?_
  split
  · unfold State.unmapAt
    split
    · exact .trans (.setMap fun h => h.sublist List.filter_sublist) (.reply (by simp))
    · exact .reply (by simp)
  · exact .refuse ..

theorem Event.flush (p : PortId) (t : Telegram) : Event gs s (s.flush p t) := by
  refine .mapTelegram fun code _ => ?_
  split
  · exact .trans (.flushBank _) (.reply (by simp))
  · exact .refuse ..

theorem Event.probeByAddress (p : PortId) (t : Telegram) : Event gs s (s.probeByAddress p t) := by
  refine .mapTelegram fun b _ => ?_
  split
  · unfold State.probeAt
    split
    · exact .reply (by simp [State.entryBytes_length])
    · exact .reply (by simp [noEntryBytes])
  · exact .refuse ..

theorem Event.probeByIndex (p : PortId) (t : Telegram) : Event gs s (s.probeByIndex p t) := by
  refine .mapTelegram fun i _ => ?_
  split
  · exact .reply (by simp [State.entryBytes_length])
  · exact .reply (by simp [noEntryBytes])

/-! ### The override table -/

theorem mem_insertRecord {r x : OverrideRecord} {rs : List OverrideRecord} :
    x ∈ insertRecord r rs ↔ x = r ∨ x ∈ rs := by
  induction rs with
  | nil => simp [insertRecord]
  | cons y ys ih =>
    unfold insertRecord
    split
    · simp
    · simp only [List.mem_cons, ih]
      exact or_left_comm

theorem insertRecord_perm (r : OverrideRecord) (rs : List OverrideRecord) : (insertRecord r rs).Perm (r :: rs) := by
  induction rs with
  | nil => exact .refl _
  | cons x xs ih =>
    unfold insertRecord
    split
    · exact .refl _
    · exact (ih.cons x).trans (.swap ..)

theorem insertRecord_ascending {r : OverrideRecord} {rs : List OverrideRecord}
    (h : rs.Pairwise fun x y => x.index < y.index) (hfree : ∀ x ∈ rs, x.index ≠ r.index) :
    (insertRecord r rs).Pairwise fun x y => x.index < y.index := by
  induction rs with
  | nil => exact List.pairwise_singleton _ r
  | cons y ys ih =>
    obtain ⟨hy, hys⟩ := List.pairwise_cons.1 h
    unfold insertRecord
    split
    · next hlt =>
      refine List.pairwise_cons.2 ⟨fun x hx => ?_, h⟩
      rcases List.mem_cons.1 hx with rfl | hx
      · exact hlt
      · exact hlt.trans (hy x hx)
    · next hge =>
      refine List.pairwise_cons.2 ⟨fun x hx => ?_, ih hys fun x hx => hfree x (List.mem_cons_of_mem _ hx)⟩
      rcases mem_insertRecord.1 hx with rfl | hx
      · have := hfree y List.mem_cons_self
        omega
      · exact hy x hx

/-- What SET OVERRIDE checks of a record before it stands in the table: that it is for an output its station's kind has on a
configured station, with its hold in range. -/
def State.Overridable (s : State) (r : OverrideRecord) : Prop :=
  r.station ∈ s.settings.population r.seg ∧ (kindOf r.station).hasOutput r.value.output = true ∧ 10 ≤ r.hold ∧
    r.hold ≤ 3600

theorem State.override?_none {a : Nat} {o : OutputId} (h : s.override? g a o = none) :
    ∀ x ∈ s.overrides, ¬(x.seg = g ∧ x.station = a ∧ x.value.output = o) := by
  intro x hx
  have := List.find?_eq_none.1 h x hx
  simpa [and_assoc] using this

theorem State.override?_some {a : Nat} {o : OutputId} {r : OverrideRecord} (h : s.override? g a o = some r) :
    r ∈ s.overrides ∧ r.seg = g ∧ r.station = a ∧ r.value.output = o := by
  have := List.find?_some h
  exact ⟨List.mem_of_find?_eq_some h, by simpa [and_assoc] using this⟩

theorem State.OverridesFormed.insert {r : OverrideRecord} (h : s.OverridesFormed) (hr : s.Overridable r)
    (hindex : freeIndex s.overrides = some r.index)
    (hnone : s.override? r.seg r.station r.value.output = none) :
    (s.setOverrides (insertRecord r s.overrides)).OverridesFormed := by
  obtain ⟨hascending, hdistinct, hrecord⟩ := h
  have hfree : ∀ x ∈ s.overrides, x.index ≠ r.index := by
    have := List.find?_some hindex
    intro x hx
    simpa using List.all_eq_true.1 this x hx
  have hlt : r.index < 16 := List.mem_range.1 (List.mem_of_find?_eq_some hindex)
  refine ⟨insertRecord_ascending hascending hfree, ?_, fun x hx => ?_⟩
  · refine ((insertRecord_perm r s.overrides).pairwise_iff ?_).2
      (List.pairwise_cons.2 ⟨fun x hx hsame => State.override?_none hnone x hx ?_, hdistinct⟩)
    · exact fun hxy hyx => hxy ⟨hyx.1.symm, hyx.2.1.symm, hyx.2.2.symm⟩
    · exact ⟨hsame.1.symm, hsame.2.1.symm, hsame.2.2.symm⟩
  · rcases mem_insertRecord.1 hx with rfl | hx
    · exact ⟨hlt, hr⟩
    · exact hrecord x hx

theorem State.OverridesFormed.replace {old r : OverrideRecord} (h : s.OverridesFormed) (hr : s.Overridable r)
    (hindex : r.index = old.index) (hold : s.override? r.seg r.station r.value.output = some old) :
    (s.setOverrides (replaceRecord r s.overrides)).OverridesFormed := by
  obtain ⟨hmem, hseg, hstation, houtput⟩ := State.override?_some hold
  obtain ⟨hascending, hdistinct, hrecord⟩ := h
  have hreplaced : ∀ x ∈ s.overrides, x.index = r.index → x = old := by
    intro x hx hxi
    refine eq_of_pairwise_not_both (P := fun y => y.index = r.index) (hascending.imp ?_) hx hmem hxi hindex.symm
    intro a b hab hboth
    omega
  have hsame : ∀ x ∈ s.overrides, (if x.index = r.index then r else x).index = x.index ∧
      (if x.index = r.index then r else x).seg = x.seg ∧
      (if x.index = r.index then r else x).station = x.station ∧
      (if x.index = r.index then r else x).value.output = x.value.output := by
    intro x hx
    split
    · next hxi =>
      rw [hreplaced x hx hxi]
      exact ⟨hindex, hseg.symm, hstation.symm, houtput.symm⟩
    · exact ⟨rfl, rfl, rfl, rfl⟩
  refine ⟨List.pairwise_map.2 (hascending.imp_of_mem fun {a b} ha hb hab => ?_),
    List.pairwise_map.2 (hdistinct.imp_of_mem fun {a b} ha hb hab => ?_), fun x hx => ?_⟩
  · rw [(hsame a ha).1, (hsame b hb).1]
    exact hab
  · obtain ⟨-, has, hast, hao⟩ := hsame a ha
    obtain ⟨-, hbs, hbst, hbo⟩ := hsame b hb
    rw [has, hast, hao, hbs, hbst, hbo]
    exact hab
  · obtain ⟨y, hy, rfl⟩ := List.mem_map.1 hx
    split
    · exact ⟨by rw [hindex]; exact (hrecord old hmem).1, hr⟩
    · exact hrecord y hy

theorem Event.deliverSet {r : OverrideRecord} (hg : r.seg ∈ gs) : Event gs s (s.deliverSet r) := by
  unfold State.deliverSet
  split
  · next h => exact .post hg (Fields.values_isEmpty _) (State.answers_station h) _
  · exact .refl gs s

theorem Event.tellDisplaced (p owner : PortId) : Event gs s (s.tellDisplaced p owner) := by
  unfold State.tellDisplaced
  split
  · exact .refl gs s
  · exact .notify ..

theorem Event.removeRecord {r : OverrideRecord} (hg : r.seg ∈ gs) : Event gs s (s.removeRecord r) := by
  refine .trans (.setOverrides fun h => ?_) (.handBack hg ..)
  obtain ⟨hascending, hdistinct, hrecord⟩ := h
  have hsub : (s.overrides.filter fun x => x.index != r.index).Sublist s.overrides := List.filter_sublist
  exact ⟨hascending.sublist hsub, hdistinct.sublist hsub, fun x hx => hrecord x (hsub.subset hx)⟩

end

end Sys2Proof.Machine
end

section
/-! Settings in force that change, the restart of a segment, and what a WRITE SETTING brings, each as an event. -/

namespace Sys2Proof.Machine

section
variable {gs : List SegId} {s u : State} {g : SegId} {new : Settings}

/-! ### New settings -/

theorem State.SegmentKept.setSettings (hpop : new.population g = s.settings.population g) :
    s.SegmentKept (s.setSettings new) g := { population := hpop }

/-- An event after the settings in force have changed, populations and orders kept, is one from the state before: what the
access map and the margins keep is told of both together. -/
theorem Event.afterSettings (hpop : ∀ g, new.population g = s.settings.population g)
    (hfallback : ∀ l, (s.settings.loop.get l).fallbackOrder = true → (new.loop.get l).fallbackOrder = true)
    (hform : s.SettingsFormed → (s.setSettings new).SettingsFormed) (k : Event gs (s.setSettings new) u)
    (hmap : s.MapFormed → u.MapFormed) (hmargins : s.MarginsCurrent → u.MarginsCurrent) : Event gs s u where
  pending := k.pending
  now := k.now
  phase := k.phase
  segments g hg := (State.SegmentKept.setSettings (hpop g)).trans (k.segments g hg)
  counters := k.counters
  image h := k.image fun g => by
    obtain ⟨haddr, hkind⟩ := h g
    exact ⟨haddr.trans (hpop g).symm, hkind⟩
  demand := k.demand
  orders h := k.orders fun l => (h l).trans (by rw [← hpop l]; exact .refl _)
  merges h := k.merges fun l => ⟨(h l).1, hfallback l (h l).2⟩
  settle := k.settle
  buffers := k.buffers
  overrides h := k.overrides ⟨h.1, h.2.1, fun r hr => by
    obtain ⟨hindex, hstation, hrest⟩ := h.2.2 r hr
    exact ⟨hindex, by rw [← hpop r.seg] at hstation; exact hstation, hrest⟩⟩
  accessMap := hmap
  settings h := k.settings (hform h)
  margins := hmargins
  caps h := k.caps fun l => ⟨(h l).1, (h l).2.trans (by rw [← hpop l]; rfl)⟩
  fences := k.fences
  queues := k.queues
  loading := k.loading
  frames hi ho hc hv := k.frames
    (fun g => ⟨(hi g).1.trans (hpop g).symm, (hi g).2⟩)
    (fun l => (ho l).trans (by rw [← hpop l]; exact .refl _))
    (fun l => ⟨(hc l).1, (hc l).2.trans (by rw [← hpop l]; rfl)⟩)
    ⟨hv.1, hv.2.1, fun r hr => by
      obtain ⟨hindex, hstation, hrest⟩ := hv.2.2 r hr
      exact ⟨hindex, by rw [← hpop r.seg] at hstation; exact hstation, hrest⟩⟩

theorem State.MapFormed.setSettings (h : s.MapFormed) (hblocks : ∀ b, new.blockSize b = s.settings.blockSize b) :
    (s.setSettings new).MapFormed := by
  have hsize : ∀ e, (s.setSettings new).sizeOf e = s.sizeOf e := fun e => hblocks _
  obtain ⟨hsizes, hindex, hapart, hentry⟩ := h
  refine ⟨fun b => by rw [State.setSettings_settings, hblocks]; exact hsizes b, hindex, hapart.imp fun hab howner => ?_,
    fun e he => ?_⟩
  · rw [hsize, hsize]; exact hab howner
  · rw [hsize]; exact hentry e he

theorem State.MarginsCurrent.setSettings (h : s.MarginsCurrent) (htable : new.freezeTable = s.settings.freezeTable)
    (hguard : new.guardBand = s.settings.guardBand) : (s.setSettings new).MarginsCurrent := by
  intro l
  rw [State.setSettings_settings, htable, hguard]
  exact h l

/-! ### The restart of a segment (R165) -/

/-- The output side of a restart: its buffer and list empty, its PENDING fences INCOMPLETE with their FENCE bits. -/
theorem State.outputRestart_eq (s : State) (g : SegId) : s.outputRestart g = { s with
    buffer := s.buffer.modify g fun _ => []
    settle := s.settle.modify g fun _ => []
    fences := s.fences.map fun _ t => t.modify g fun r => if r.isPending then .incomplete else r
    ports := s.noticed fun p => if ((s.fences.get p).get g).isPending then 0x10#8 else 0#8 } := by
  have hended : ∀ p, (s.fences.map fun _ t => (t.get g).isPending : PortSet).get p = ((s.fences.get p).get g).isPending :=
    fun p => PerPort.get_map ..
  have hfences : (s.fences.map fun p t => t.modify g fun r =>
        if ((s.fences.get p).get g).isPending then FenceRecord.incomplete else r) =
      s.fences.map fun _ t => t.modify g fun r => if r.isPending then .incomplete else r := by
    refine PerPort.ext_get fun p => ?_
    rw [PerPort.get_map, PerPort.get_map]
    rfl
  unfold State.outputRestart
  rw [State.notifySet_eq]
  simp only [hended]
  rw [← hfences]
  rfl

/-- An override record stays through a restart of a segment when its station is still configured (R136). -/
def State.overrideStays (s : State) (g : SegId) (r : OverrideRecord) : Bool :=
  r.seg != g || (s.settings.population g).contains r.station

theorem State.overridesRestart_overrides (s : State) (g : SegId) : (s.overridesRestart g).overrides =
    (s.overrides.filter (s.overrideStays g)).map fun r => if r.seg = g then { r with delivery := .waiting } else r := by
  unfold State.overridesRestart
  rw [State.notifySet_eq]
  rfl

/-- Every block of a restarted segment, before its read-throughs are answered and its discovery begins. -/
def State.blocksRestarted (s : State) (g : SegId) (changed : Bool) : State :=
  ((((s.fscRestart g).modImage g fun _ => (s.settings.population g).map Station.fresh).allocRestart g
    changed).outputRestart g).overridesRestart g

theorem State.restartSegment_eq (s : State) (g : SegId) (changed : Bool) :
    s.restartSegment g changed =
      let answered := (s.fsc.get g).readThroughs.foldl (fun t e => t.replyReadThrough g e)
        ((s.blocksRestarted g changed).fpbRestart g)
      if (answered.fsc.get g).activity = .free then answered.beginDiscovery g else answered := by
  rfl

theorem unitsAfterRestart_addr (as : List Nat) (old : List UnitFrost) :
    (unitsAfterRestart as old).map UnitFrost.addr = as := by
  unfold unitsAfterRestart
  rw [List.map_map]
  conv_rhs => rw [← List.map_id as]
  refine List.map_congr_left fun a _ => ?_
  simp only [Function.comp_apply, id]
  split
  · next u hu => simpa using List.find?_some hu
  · rfl

theorem State.blocksRestarted_noticed (s : State) (g : SegId) (changed : Bool) : s.Noticed (s.blocksRestarted g changed) := by
  unfold State.blocksRestarted
  have hblocks : s.Noticed (((s.fscRestart g).modImage g fun _ => (s.settings.population g).map Station.fresh).allocRestart g
      changed) := .of_eq (by simp) (by simp)
  have houtputs := hblocks.trans (t := ((((s.fscRestart g).modImage g fun _ =>
    (s.settings.population g).map Station.fresh).allocRestart g changed).outputRestart g))
      ⟨by simp, _, by rw [State.outputRestart_eq]⟩
  refine houtputs.trans ?_
  unfold State.overridesRestart
  dsimp only
  refine .trans ?_ (.notifySet ..)
  exact .of_eq rfl rfl

theorem State.blocksRestarted_frame (s : State) (g : SegId) (changed : Bool) :
    s.blocksRestarted g changed = { s with
      fsc := (s.fscRestart g).fsc
      image := s.image.modify g fun _ => (s.settings.population g).map Station.fresh
      alloc := (s.allocRestart g changed).alloc
      buffer := s.buffer.modify g fun _ => []
      settle := s.settle.modify g fun _ => []
      fences := s.fences.map fun _ t => t.modify g fun r => if r.isPending then .incomplete else r
      overrides := (s.overrides.filter (s.overrideStays g)).map fun r =>
        if r.seg = g then { r with delivery := .waiting } else r
      ports := (s.blocksRestarted g changed).ports } := by
  unfold State.blocksRestarted
  generalize hb : (((s.fscRestart g).modImage g fun _ => (s.settings.population g).map Station.fresh).allocRestart g
      changed) = b
  have hover : (b.outputRestart g).overrideStays g = s.overrideStays g := by
    subst hb
    funext r
    simp [State.overrideStays]
  have hports : ((b.outputRestart g).overridesRestart g) = { b.outputRestart g with
      overrides := ((b.outputRestart g).overridesRestart g).overrides
      ports := ((b.outputRestart g).overridesRestart g).ports } := by
    unfold State.overridesRestart
    rw [State.notifySet_eq]
    rfl
  rw [hports, State.overridesRestart_overrides, hover, State.outputRestart_eq]
  subst hb
  rfl

theorem State.MarginsCurrent.modFpb {f : Fpb → Fpb} (h : s.MarginsCurrent)
    (hf : ∀ b, (f b).fp = b.fp ∧ (f b).cu = b.cu ∧ (f b).ma = b.ma) : (s.modFpb g f).MarginsCurrent := by
  intro l
  rw [State.modFpb_fpb, PerSeg.get_modify]
  split
  · obtain ⟨hfp, hcu, hma⟩ := hf (s.fpb.get l)
    rw [hfp, hcu, hma]
    exact h l
  · exact h l

/-- The per-loop values as the event of a restart finds them (R56, R63). -/
def Fpb.restarted (as : List Nat) (f : Fpb) : Fpb := { f with permitted := false, units := unitsAfterRestart as f.units }

/-- What a restart of a loop's segment reaches (R56). -/
def FpbEvent.restarted (l : LoopId) : FpbEvent :=
  { FpbEvent.nothing with cu := onlyLoop l, flow := onlyLoop l, ta := true, restart := onlyLoop l }

theorem State.fpbRestart_eq (s : State) (l : LoopId) : s.fpbRestart l =
    (s.modFpb l (Fpb.restarted (unitsOf (s.settings.population l)))).fpbEvent (.restarted l) := rfl

theorem State.fpbRestart_margins (h : s.MarginsCurrent) (l : LoopId) : (s.fpbRestart l).MarginsCurrent := by
  have hkept : (s.modFpb l (Fpb.restarted (unitsOf (s.settings.population l)))).MarginsCurrent :=
    h.modFpb fun _ => ⟨rfl, rfl, rfl⟩
  rw [State.fpbRestart_eq]
  exact State.fpbEvent_margins (.inr fun k => (hkept k).1) (.inr fun k => (hkept k).2)

theorem State.fpbRestart_caps {l : LoopId}
    (h : ∀ k, k ≠ l → (s.fpb.get k).bmax = bypassCap (s.fpb.get k).units ∧
      (s.fpb.get k).units.map UnitFrost.addr = unitsOf (s.settings.population k)) : (s.fpbRestart l).CapsFollowFrost := by
  rw [State.fpbRestart_eq]
  refine State.fpbEvent_caps (fun k => ?_) fun k => ?_
  · by_cases hk : k = l
    · subst hk
      exact .inl (PerSeg.get_set_self ..)
    · rw [State.modFpb_fpb, PerSeg.get_modify_other _ _ hk]
      exact .inr (h k hk).1
  · rw [State.modFpb_fpb, PerSeg.get_modify]
    split
    · next hk => subst hk; exact unitsAfterRestart_addr ..
    · next hk => exact (h k hk).2

theorem State.CommandsOnly.fpbRestart (s : State) (l : LoopId) : s.CommandsOnly (s.fpbRestart l) := by
  rw [State.fpbRestart_eq]
  exact .trans (.modFpb ..) (.fpbEvent ..)

theorem State.Noticed.fpbRestart (s : State) (l : LoopId) : s.Noticed (s.fpbRestart l) := by
  have hunits : s.Noticed (s.modFpb l (Fpb.restarted (unitsOf (s.settings.population l)))) := .of_eq rfl rfl
  exact hunits.trans (.fpbEvent ..)

/-- What a restart leaves of every block but freeze protection, the settings being new ones. -/
structure State.SegmentRestarted (s : State) (new : Settings) (g : SegId) (changed : Bool) (u : State) : Prop where
  pending : u.pending = s.pending
  now : u.now = s.now
  phase : u.phase = s.phase
  settings : u.settings = new
  merge : u.merge = s.merge
  accessMap : u.accessMap = s.accessMap
  fsc : ∀ k, k ≠ g → u.fsc.get k = s.fsc.get k
  image : ∀ k, u.image.get k = if k = g then (new.population g).map Station.fresh else s.image.get k
  buffer : ∀ k, u.buffer.get k = if k = g then [] else s.buffer.get k
  settle : ∀ k, u.settle.get k = if k = g then [] else s.settle.get k
  fences : ∀ p k, (u.fences.get p).get k = if k = g ∧ ((s.fences.get p).get g).isPending = true then .incomplete
    else (s.fences.get p).get k
  overrides : u.overrides = (s.overrides.filter fun r => r.seg != g || (new.population g).contains r.station).map fun r =>
    { r with delivery := if r.seg = g then .waiting else r.delivery }
  alloc : ∀ l, (u.alloc.get l).demand = (s.alloc.get l).demand ∧ (u.alloc.get l).order =
    if l = g ∧ changed = true then unitsOf (new.population g) else (s.alloc.get l).order
  ports : ∀ p, (s.ports.get p).Kept s.phase (u.ports.get p)

theorem State.segmentRestarted (s : State) (new : Settings) (g : SegId) (changed : Bool) :
    s.SegmentRestarted new g changed (((s.setSettings new).blocksRestarted g changed).fpbRestart g) := by
  have hnoticed := State.blocksRestarted_noticed (s.setSettings new) g changed
  have hframe := State.blocksRestarted_frame (s.setSettings new) g changed
  generalize (s.setSettings new).blocksRestarted g changed = r at hframe hnoticed ⊢
  obtain ⟨hpending, hnow, hphase, hsettings, -, -, himage, hfsc, -, -, hmerge, hbuffer, hsettle, hfences, hoverrides, hmap⟩ :=
    State.fpbRestart_frame r g
  have halloc := (State.CommandsOnly.fpbRestart r g).alloc
  have hports := (hnoticed.trans (.fpbRestart r g)).kept
  generalize r.fpbRestart g = u at *
  refine
    { pending := hpending.trans (by rw [hframe]; rfl)
      now := hnow.trans (by rw [hframe]; rfl)
      phase := hphase.trans (by rw [hframe]; rfl)
      settings := hsettings.trans (by rw [hframe]; rfl)
      merge := hmerge.trans (by rw [hframe]; rfl)
      accessMap := hmap.trans (by rw [hframe]; rfl)
      fsc := fun k hk => ?_
      image := fun k => ?_
      buffer := fun k => ?_
      settle := fun k => ?_
      fences := fun p k => ?_
      overrides := ?_
      alloc := fun l => ?_
      ports := hports }
  · rw [hfsc, hframe]; exact PerSeg.get_modify_other _ _ hk
  · rw [himage, hframe]; dsimp only; rw [PerSeg.get_modify]; rfl
  · rw [hbuffer, hframe]; dsimp only; rw [PerSeg.get_modify]; rfl
  · rw [hsettle, hframe]; dsimp only; rw [PerSeg.get_modify]; rfl
  · rw [hfences, hframe]; dsimp only; rw [PerPort.get_map, PerSeg.get_modify]
    by_cases hk : k = g
    · subst hk; simp; rfl
    · simp [hk]
  · rw [hoverrides, hframe]
    refine List.map_congr_left fun r _ => ?_
    split <;> rfl
  · rw [halloc, hframe]
    dsimp only
    rw [State.allocRestart, State.modAlloc_alloc, PerSeg.get_modify]
    by_cases hl : l = g
    · subst hl; simp
    · simp [hl]

/-- Every block of a segment is restarted on settings that differ in that segment alone. -/
theorem Event.segmentRestarted {changed : Bool} (h : s.SegmentRestarted new g changed u) (hg : g ∈ gs)
    (hother : ∀ k, k ≠ g → new.population k = s.settings.population k)
    (hsame : changed = false → new.population g = s.settings.population g)
    (hloop : new.loop = s.settings.loop) (hblocks : ∀ b, new.blockSize b = s.settings.blockSize b)
    (hform : s.SettingsFormed → (s.setSettings new).SettingsFormed)
    (hmargins : s.MarginsCurrent → u.MarginsCurrent) (hcaps : s.CapsFollowFrost → u.CapsFollowFrost) : Event gs s u := by
  have hmarked : ∀ p, u.marked g p = false := fun p => by simp [State.marked, h.buffer, h.settle]
  have hevent : Event gs s { u with ports := s.ports } :=
    { pending := h.pending
      now := Nat.le_of_eq h.now.symm
      phase := h.phase
      segments := fun k hk => by
        have hkg : k ≠ g := fun hc => hk (hc ▸ hg)
        have hbuffer : u.buffer.get k = s.buffer.get k := by rw [h.buffer, if_neg hkg]
        exact {
          fsc := h.fsc k hkg
          image := by dsimp only; rw [h.image, if_neg hkg]
          buffer := by dsimp only; rw [hbuffer]
          flying := by unfold State.flyingFields; dsimp only; rw [hbuffer]
          settle := by dsimp only; rw [h.settle, if_neg hkg]
          population := by dsimp only; rw [h.settings]; exact hother k hkg }
      counters := fun hs k st hst => by
        dsimp only at hst
        rw [h.image] at hst
        split at hst
        · obtain ⟨a, -, rfl⟩ := List.mem_map.1 hst
          exact Nat.zero_le _
        · exact hs k st hst
      image := fun hs k => by
        dsimp only
        rw [h.image, h.settings]
        split
        · next hk =>
          subst hk
          refine ⟨?_, fun st hst => ?_⟩
          · rw [List.map_map]; exact List.map_id _
          · obtain ⟨a, -, rfl⟩ := List.mem_map.1 hst
            exact ⟨rfl, rfl⟩
        · next hk => rw [hother k hk]; exact hs k
      demand := fun hs l => by dsimp only; rw [(h.alloc l).1]; exact hs l
      orders := fun hs l => by
        dsimp only
        rw [(h.alloc l).2, h.settings]
        split
        · next hl => rw [hl.1]
        · next hl =>
          refine (hs l).trans ?_
          by_cases hlg : l = g
          · subst hlg
            rw [hsame (by simpa using hl)]
          · rw [hother l hlg]
      merges := fun hs l => by dsimp only; rw [h.merge, h.settings, hloop]; exact hs l
      settle := fun hs k => by
        dsimp only
        rw [h.settle]
        split
        · exact ⟨Nat.zero_le _, .nil⟩
        · exact hs k
      buffers := fun hs => State.buffersFormed_iff.2 fun k => by
        dsimp only
        rw [h.buffer, h.image]
        split
        · exact .nil
        · exact State.buffersFormed_iff.1 hs k
      overrides := fun hs => by
        obtain ⟨hindex, houtput, hrecord⟩ := hs
        have hsub := List.filter_sublist (p := fun r => r.seg != g || (new.population g).contains r.station)
          (l := s.overrides)
        unfold State.OverridesFormed
        dsimp only
        rw [h.overrides, h.settings]
        refine ⟨List.pairwise_map.2 (hindex.sublist hsub), List.pairwise_map.2 (houtput.sublist hsub), fun r hr => ?_⟩
        obtain ⟨x, hx, rfl⟩ := List.mem_map.1 hr
        obtain ⟨hx, hstays⟩ := List.mem_filter.1 hx
        obtain ⟨hlt, hstation, hrest⟩ := hrecord x hx
        refine ⟨hlt, ?_, hrest⟩
        by_cases hxg : x.seg = g
        · dsimp only
          rw [hxg]
          simpa [hxg] using hstays
        · dsimp only
          rw [hother _ hxg]
          exact hstation
      accessMap := fun hs => by
        have := hs.setSettings hblocks
        unfold State.MapFormed State.sizeOf at this ⊢
        dsimp only
        rw [h.settings, h.accessMap]
        exact this
      settings := fun hs => by
        have := hform hs
        unfold State.SettingsFormed State.cls at this ⊢
        dsimp only
        rw [h.settings]
        exact this
      margins := hmargins
      caps := hcaps
      fences := fun hs p k => by
        dsimp only
        rw [h.fences]
        by_cases hk : k = g
        · subst hk
          refine Eq.trans ?_ (hmarked p).symm
          split
          · rfl
          · next hn => simpa using hn
        · rw [if_neg fun hc => hk hc.1, hs p k]
          exact (State.marked_congr (by dsimp only; rw [h.buffer, if_neg hk]) (by dsimp only; rw [h.settle, if_neg hk]) p).symm
      queues := id
      loading := fun hs hl => hs (h.phase.symm.trans hl)
      frames := fun _ _ _ _ => id }
  exact hevent.trans (.ports _ fun p => by rw [hevent.phase]; exact h.ports p)

/-- A segment restarts, its read-throughs are answered, and its discovery begins. -/
theorem Event.restartSegment {changed : Bool} (hg : g ∈ gs)
    (hrestarted : Event gs s (((s.setSettings new).blocksRestarted g changed).fpbRestart g)) :
    Event gs s ((s.setSettings new).restartSegment g changed) := by
  rw [State.restartSegment_eq]
  dsimp only
  split
  · exact .trans (.trans hrestarted (.foldl (fun _ e => .replyReadThrough e) _ _)) (.beginDiscovery hg)
  · exact .trans hrestarted (.foldl (fun _ e => .replyReadThrough e) _ _)

end

end Sys2Proof.Machine
end

section
/-! What an accepted WRITE SETTING changes of the settings (11.1, 12.7), and what it brings on the other blocks, as an
event. -/

namespace Sys2Proof.Machine

/-! ### What a write changes of the settings -/

/-- A write of a fallback value (R87). -/
def Item.isFallback (l : LoopId) (i : Item) : Prop := i = .fbTarget l ∨ i = .fbFloor l ∨ i = .fbCeiling l

/-- The part of the settings that a write of an item changes. -/
inductive Settings.Changed (st : Settings) : Item → Settings → Prop
  | cls (p : PortId) (x : PortClass) : Changed st (.cls p) (st.setPort p fun s => { s with cls := x })
  | port {i : Item} {p : PortId} (hi : i = .rate p ∨ i = .notices p) {f : PortSettings → PortSettings}
      (hf : ∀ s, (f s).cls = s.cls) : Changed st i (st.setPort p f)
  | population (g : SegId) (x : Word) : Changed st (.population g) (st.setSeg g fun s => { s with population := x })
  | mask (g : SegId) (x : Word) : Changed st (.mask g) (st.setSeg g fun s => { s with mask := x })
  | fallback {i : Item} {l : LoopId} (hi : i.isFallback l) (f : LoopSettings → LoopSettings) : Changed st i (st.setLoop l f)
  | loop {i : Item} {l : LoopId} {f : LoopSettings → LoopSettings} (hf : ∀ s, (f s).fallbackOrder = s.fallbackOrder)
      (hi : i = .nominal l ∨ i = .minFlow l ∨ i = .kp l ∨ i = .ki l ∨ i = .smin l ∨ i = .guardCap l ∨ i = .minService l ∨
        i = .rotation l) : Changed st i (st.setLoop l f)
  | freeze (n : Nat) {x : Int} (hx : -600 ≤ x ∧ x ≤ 0) :
      Changed st (.freeze n) { st with freezeTable := st.freezeTable.set n x }
  | guardBand (x : Int) : Changed st .guardBand { st with guardBand := x }
  | designMin (x : Int) : Changed st .designMin { st with designMin := x }
  | whole {i : Item} (hi : i = .passInterval ∨ i = .holdLimit ∨ i = .settleTimeout ∨ i = .icingInterval)
      (interval limit timeout icing : Nat) : Changed st i { st with
        passInterval := interval, holdLimit := limit, settleTimeout := timeout, icingInterval := icing }
  | block (b : Bank) {low high : Nat} (hlow : low = st.blockLow ∨ b = .low ∧ low ∈ [1, 4, 16, 64])
      (hhigh : high = st.blockHigh ∨ b = .high ∧ high ∈ [1, 4, 16, 64]) :
      Changed st (.block b) { st with blockLow := low, blockHigh := high }

theorem inSignedRange_eq_some {v : Word} {lo hi x : Int} : inSignedRange v lo hi = some x ↔
    x = v.toInt ∧ lo ≤ x ∧ x ≤ hi := by
  unfold inSignedRange
  split
  · next h => simp only [Option.some.injEq]; exact ⟨fun e => ⟨e.symm, e ▸ h⟩, fun e => e.1.symm⟩
  · next h => simp only [reduceCtorEq, false_iff]; rintro ⟨rfl, hx⟩; exact h hx

theorem inRange_eq_some {v : Word} {lo hi x : Nat} : inRange v lo hi = some x ↔ x = v.toNat ∧ lo ≤ x ∧ x ≤ hi := by
  unfold inRange
  split
  · next h => simp only [Option.some.injEq]; exact ⟨fun e => ⟨e.symm, e ▸ h⟩, fun e => e.1.symm⟩
  · next h => simp only [reduceCtorEq, false_iff]; rintro ⟨rfl, hx⟩; exact h hx

theorem Settings.write_changed {st new : Settings} {i : Item} {v : Word} (h : st.write i v = some new) :
    st.Changed i new := by
  cases i with
  | cls p => obtain ⟨x, -, rfl⟩ := Option.map_eq_some_iff.1 h; exact .cls p x
  | rate p => obtain ⟨x, -, rfl⟩ := Option.map_eq_some_iff.1 h; exact .port (.inl rfl) fun _ => rfl
  | notices p => obtain ⟨x, -, rfl⟩ := Option.map_eq_some_iff.1 h; exact .port (.inr rfl) fun _ => rfl
  | population g => obtain ⟨x, -, rfl⟩ := Option.map_eq_some_iff.1 h; exact .population g x
  | mask g => obtain ⟨x, -, rfl⟩ := Option.map_eq_some_iff.1 h; exact .mask g x
  | fbTarget l => obtain ⟨x, -, rfl⟩ := Option.map_eq_some_iff.1 h; exact .fallback (.inl rfl) _
  | fbFloor l => obtain ⟨x, -, rfl⟩ := Option.map_eq_some_iff.1 h; exact .fallback (.inr (.inl rfl)) _
  | fbCeiling l => obtain ⟨x, -, rfl⟩ := Option.map_eq_some_iff.1 h; exact .fallback (.inr (.inr rfl)) _
  | nominal l => obtain ⟨x, -, rfl⟩ := Option.map_eq_some_iff.1 h; exact .loop (fun _ => rfl) (by simp)
  | minFlow l => obtain ⟨x, -, rfl⟩ := Option.map_eq_some_iff.1 h; exact .loop (fun _ => rfl) (by simp)
  | kp l => obtain ⟨x, -, rfl⟩ := Option.map_eq_some_iff.1 h; exact .loop (fun _ => rfl) (by simp)
  | ki l => obtain ⟨x, -, rfl⟩ := Option.map_eq_some_iff.1 h; exact .loop (fun _ => rfl) (by simp)
  | smin l => obtain ⟨x, -, rfl⟩ := Option.map_eq_some_iff.1 h; exact .loop (fun _ => rfl) (by simp)
  | guardCap l => obtain ⟨x, -, rfl⟩ := Option.map_eq_some_iff.1 h; exact .loop (fun _ => rfl) (by simp)
  | minService l => obtain ⟨x, -, rfl⟩ := Option.map_eq_some_iff.1 h; exact .loop (fun _ => rfl) (by simp)
  | rotation l => obtain ⟨x, -, rfl⟩ := Option.map_eq_some_iff.1 h; exact .loop (fun _ => rfl) (by simp)
  | freeze n =>
    obtain ⟨x, hx, rfl⟩ := Option.map_eq_some_iff.1 h
    exact .freeze n (inSignedRange_eq_some.1 hx).2
  | guardBand => obtain ⟨x, -, rfl⟩ := Option.map_eq_some_iff.1 h; exact .guardBand x
  | designMin => obtain ⟨x, -, rfl⟩ := Option.map_eq_some_iff.1 h; exact .designMin x
  | passInterval =>
    obtain ⟨-, h⟩ := Option.ite_none_right_eq_some.1 h
    obtain ⟨x, -, rfl⟩ := Option.map_eq_some_iff.1 h
    exact .whole (.inl rfl) x st.holdLimit st.settleTimeout st.icingInterval
  | holdLimit =>
    obtain ⟨x, -, rfl⟩ := Option.map_eq_some_iff.1 h
    exact .whole (.inr (.inl rfl)) st.passInterval x st.settleTimeout st.icingInterval
  | settleTimeout =>
    obtain ⟨x, -, rfl⟩ := Option.map_eq_some_iff.1 h
    exact .whole (.inr (.inr (.inl rfl))) st.passInterval st.holdLimit x st.icingInterval
  | icingInterval =>
    obtain ⟨x, -, rfl⟩ := Option.map_eq_some_iff.1 h
    exact .whole (.inr (.inr (.inr rfl))) st.passInterval st.holdLimit st.settleTimeout x
  | block b =>
    cases b with
    | low =>
      obtain ⟨hv, h⟩ := Option.ite_none_right_eq_some.1 h
      cases h
      exact .block .low (.inr ⟨rfl, hv⟩) (.inl rfl)
    | high =>
      obtain ⟨hv, h⟩ := Option.ite_none_right_eq_some.1 h
      cases h
      exact .block .high (.inl rfl) (.inr ⟨rfl, hv⟩)

section
variable {st new : Settings} {i : Item}

theorem Settings.Changed.seg (h : st.Changed i new) (k : SegId) :
    i = .population k ∨ i = .mask k ∨ new.seg.get k = st.seg.get k := by
  cases h with
  | population g x =>
    by_cases hk : k = g
    · exact .inl (hk ▸ rfl)
    · exact .inr (.inr (PerSeg.get_modify_other _ _ hk))
  | mask g x =>
    by_cases hk : k = g
    · exact .inr (.inl (hk ▸ rfl))
    · exact .inr (.inr (PerSeg.get_modify_other _ _ hk))
  | _ => exact .inr (.inr rfl)

theorem Settings.Changed.population_kept (h : st.Changed i new) (k : SegId) (hi : i ≠ .population k) :
    new.population k = st.population k := by
  unfold Settings.population
  cases h with
  | population g x =>
    have hk : k ≠ g := fun hc => hi (hc ▸ rfl)
    rw [show (st.setSeg g fun s => { s with population := x }).seg.get k = st.seg.get k from
      PerSeg.get_modify_other _ _ hk]
  | mask g x =>
    rw [show (st.setSeg g fun s => { s with mask := x }).seg.get k =
      if k = g then { st.seg.get k with mask := x } else st.seg.get k from PerSeg.get_modify ..]
    split <;> rfl
  | _ => rfl

theorem Settings.Changed.blockSize (h : st.Changed i new) (b : Bank) :
    new.blockSize b = st.blockSize b ∨ i = .block b ∧ new.blockSize b ∈ [1, 4, 16, 64] := by
  cases h with
  | block c hlow hhigh =>
    cases b with
    | low => exact hlow.imp id fun ⟨hc, hmem⟩ => ⟨hc ▸ rfl, hmem⟩
    | high => exact hhigh.imp id fun ⟨hc, hmem⟩ => ⟨hc ▸ rfl, hmem⟩
  | _ => exact .inl rfl

theorem Settings.Changed.guardBand_kept (h : st.Changed i new) (hi : i ≠ .guardBand) : new.guardBand = st.guardBand := by
  cases h with
  | guardBand x => exact absurd rfl hi
  | _ => rfl

theorem Settings.Changed.freezeTable_kept (h : st.Changed i new) (hi : ∀ n, i ≠ .freeze n) :
    new.freezeTable = st.freezeTable := by
  cases h with
  | freeze n => exact absurd rfl (hi n)
  | _ => rfl

theorem Settings.Changed.fallbackOrder (h : st.Changed i new) (hagree : new.agrees i = true) (l : LoopId)
    (hl : (st.loop.get l).fallbackOrder = true) : (new.loop.get l).fallbackOrder = true := by
  cases h with
  | @fallback _ k hi f =>
    by_cases hk : l = k
    · subst hk
      rcases hi with rfl | rfl | rfl <;> exact hagree
    · rw [show (st.setLoop k f).loop.get l = st.loop.get l from PerSeg.get_modify_other _ _ hk]
      exact hl
  | @loop _ k f hf _ =>
    rw [show (st.setLoop k f).loop.get l = if l = k then f (st.loop.get l) else st.loop.get l from PerSeg.get_modify ..]
    split
    · rw [hf]; exact hl
    · exact hl
  | _ => exact hl

/-- A table stays ordered where the entry written agrees with its neighbours. -/
theorem tableOrdered_set {table : List Int} {n : Nat} {x : Int} (hlength : table.length = 13)
    (h : table.Pairwise fun a b => b ≤ a) (hagree : tableOrderAt (table.set n x) n = true) :
    (table.set n x).Pairwise fun a b => b ≤ a := by
  rw [List.pairwise_iff_getElem] at h ⊢
  simp only [tableOrderAt, Bool.and_eq_true, Bool.or_eq_true, decide_eq_true_eq] at hagree
  obtain ⟨hbefore, hafter⟩ := hagree
  intro i j hi hj hij
  rw [List.length_set] at hi hj
  rw [List.getElem_set, List.getElem_set]
  by_cases hin : n = i
  · subst hin
    have hnext : (table.set n x).getD (n + 1) 0 ≤ (table.set n x).getD n 0 := hafter.resolve_left (by omega)
    rw [List.getD_eq_getElem _ _ (by simpa using by omega), List.getD_eq_getElem _ _ (by simpa using hi),
      List.getElem_set_self, List.getElem_set_ne (by omega)] at hnext
    rw [if_pos rfl, if_neg (by omega)]
    refine le_trans ?_ hnext
    rcases Nat.lt_or_ge (n + 1) j with hlt | hge
    · exact h (n + 1) j (by omega) hj hlt
    · obtain rfl : j = n + 1 := by omega
      exact le_refl _
  · rw [if_neg hin]
    by_cases hjn : n = j
    · subst hjn
      have hprev : (table.set n x).getD n 0 ≤ (table.set n x).getD (n - 1) 0 := hbefore.resolve_left (by omega)
      rw [List.getD_eq_getElem _ _ (by simpa using hj), List.getD_eq_getElem _ _ (by simpa using by omega),
        List.getElem_set_self, List.getElem_set_ne (by omega)] at hprev
      rw [if_pos rfl]
      refine le_trans hprev ?_
      rcases Nat.lt_or_ge i (n - 1) with hlt | hge
      · exact h i (n - 1) hi (by omega) hlt
      · obtain rfl : i = n - 1 := by omega
        exact le_refl _
    · rw [if_neg hjn]
      exact h i j hi hj hij

theorem Settings.Changed.formed (h : st.Changed i new) (hagree : new.agrees i = true)
    (hform : (st.freezeTable.length = 13 ∧ (∀ x ∈ st.freezeTable, -600 ≤ x ∧ x ≤ 0) ∧
      st.freezeTable.Pairwise fun x y => y ≤ x) ∧ ∃ p, (st.port.get p).cls = .supervisor) :
    (new.freezeTable.length = 13 ∧ (∀ x ∈ new.freezeTable, -600 ≤ x ∧ x ≤ 0) ∧
      new.freezeTable.Pairwise fun x y => y ≤ x) ∧ ∃ p, (new.port.get p).cls = .supervisor := by
  obtain ⟨⟨hlength, hrange, horder⟩, p, hp⟩ := hform
  cases h with
  | cls q x =>
    refine ⟨⟨hlength, hrange, horder⟩, ?_⟩
    obtain ⟨r, -, hr⟩ := List.any_eq_true.1 hagree
    exact ⟨r, by simpa using hr⟩
  | @port _ q _ f hf =>
    refine ⟨⟨hlength, hrange, horder⟩, p, ?_⟩
    rw [show (st.setPort q f).port.get p = if p = q then f (st.port.get p) else st.port.get p from PerPort.get_modify ..]
    split
    · rw [hf]; exact hp
    · exact hp
  | freeze n hx =>
    refine ⟨⟨by simpa using hlength, fun y hy => ?_, tableOrdered_set hlength horder hagree⟩, p, hp⟩
    rcases List.mem_or_eq_of_mem_set hy with hy | rfl
    · exact hrange y hy
    · exact hx
  | _ => exact ⟨⟨hlength, hrange, horder⟩, p, hp⟩

end

section
variable {gs : List SegId} {s u : State} {i : Item} {new : Settings} {v : Word}

/-! ### What a write brings -/

/-- The segment that a write restarts: the one whose population or mask it changes (R165). -/
def Item.restarts (old new : Settings) : Item → List SegId
  | .population g => if new.seg.get g = old.seg.get g then [] else [g]
  | .mask g => if new.seg.get g = old.seg.get g then [] else [g]
  | _ => []

theorem State.SettingsFormed.accept (h : s.settings.accept i v = some new) (hs : s.SettingsFormed) :
    (s.setSettings new).SettingsFormed := by
  obtain ⟨hwrite, hagree⟩ := Settings.accept_eq_some.1 h
  exact (Settings.write_changed hwrite).formed hagree hs

/-- An event after a write that changes no population. -/
theorem Event.accepted (h : s.settings.accept i v = some new) (hi : ∀ k, i ≠ .population k)
    (k : Event gs (s.setSettings new) u) (hmap : (∃ b, i = .block b) → s.MapFormed → u.MapFormed)
    (hmargins : (∃ n, i = .freeze n) ∨ i = .guardBand → s.MarginsCurrent → u.MarginsCurrent) : Event gs s u := by
  obtain ⟨hwrite, hagree⟩ := Settings.accept_eq_some.1 h
  have hchanged := Settings.write_changed hwrite
  refine .afterSettings (fun g => hchanged.population_kept g (hi g)) (fun l hl => hchanged.fallbackOrder hagree l hl)
    (.accept h) k (fun hs => ?_) fun hs => ?_
  · by_cases hb : ∃ b, i = .block b
    · exact hmap hb hs
    · exact k.accessMap (hs.setSettings fun b => (hchanged.blockSize b).resolve_right fun hc => hb ⟨b, hc.1⟩)
  · by_cases hm : (∃ n, i = .freeze n) ∨ i = .guardBand
    · exact hmargins hm hs
    · obtain ⟨hfreeze, hguard⟩ := not_or.1 hm
      exact k.margins (hs.setSettings (hchanged.freezeTable_kept fun n hn => hfreeze ⟨n, hn⟩)
        (hchanged.guardBand_kept hguard))

/-- Emptying a bank as its block size is written leaves a formed map. -/
theorem State.MapFormed.blockWritten {b : Bank} (h : s.MapFormed) (hchanged : s.settings.Changed (.block b) new) :
    ((s.setSettings new).flushBank b).MapFormed := by
  obtain ⟨hsizes, hindex, hapart, hentry⟩ := h
  have hsub : (s.accessMap.filter fun e => bankOf e.index != b).Sublist s.accessMap := List.filter_sublist
  have hsize : ∀ e ∈ s.accessMap.filter (fun e => bankOf e.index != b),
      ((s.setSettings new).flushBank b).sizeOf e = s.sizeOf e := by
    intro e he
    have hbank : bankOf e.index ≠ b := by simpa using (List.mem_filter.1 he).2
    exact (hchanged.blockSize _).resolve_right fun hc => hbank (Item.block.inj hc.1).symm
  refine ⟨fun c => ?_, hindex.sublist hsub, (hapart.sublist hsub).imp_of_mem fun he hf hef howner => ?_, fun e he => ?_⟩
  · rcases hchanged.blockSize c with hc | hc
    · exact Eq.mpr (congrArg (· ∈ [1, 4, 16, 64]) hc) (hsizes c)
    · exact hc.2
  · rw [hsize _ he, hsize _ hf]
    exact hef howner
  · rw [hsize e he]
    exact hentry e (hsub.subset he)

theorem Event.setWritten {g : SegId} {changed populationChanged : Bool}
    (hsame : changed = false → Event gs s (s.setSettings new))
    (hrestart : changed = true → Event gs s ((s.setSettings new).restartSegment g populationChanged)) :
    Event gs s ((s.setSettings new).setWritten g changed populationChanged) := by
  cases changed
  · exact hsame rfl
  · exact hrestart rfl

/-- A write of a population or a mask changes the values of that segment alone. -/
theorem Settings.accept_seg {st : Settings} {g : SegId} (h : st.accept i v = some new)
    (hi : i = .population g ∨ i = .mask g) : new = { st with seg := new.seg } := by
  obtain ⟨hwrite, -⟩ := Settings.accept_eq_some.1 h
  rcases hi with rfl | rfl
  · obtain ⟨x, -, rfl⟩ := Option.map_eq_some_iff.1 hwrite
    rfl
  · obtain ⟨x, -, rfl⟩ := Option.map_eq_some_iff.1 hwrite
    rfl

theorem State.blocksRestarted_freeze (s : State) (g : SegId) (changed : Bool) :
    (s.blocksRestarted g changed).fpb = s.fpb ∧ (s.blocksRestarted g changed).ta = s.ta ∧
      (s.blocksRestarted g changed).settings = s.settings := by
  rw [State.blocksRestarted_frame]
  exact ⟨rfl, rfl, rfl⟩

/-- A write of a population or a mask that changes it restarts its segment. -/
theorem Event.segmentWritten {g : SegId} {changed : Bool} (h : s.settings.accept i v = some new) (hg : g ∈ gs)
    (hi : i = .population g ∨ i = .mask g) (hmask : changed = false → i = .mask g) :
    Event gs s ((s.setSettings new).restartSegment g changed) := by
  have hchanged := Settings.write_changed (Settings.accept_eq_some.1 h).1
  have hother : ∀ k, k ≠ g → new.population k = s.settings.population k := fun k hk =>
    hchanged.population_kept k fun hc => by rcases hi with rfl | rfl <;> cases hc; exact hk rfl
  have hnew := Settings.accept_seg h hi
  obtain ⟨hfpb, hta, hsettings⟩ := (s.setSettings new).blocksRestarted_freeze g changed
  refine .restartSegment hg (.segmentRestarted (s.segmentRestarted new g changed) hg hother
    (fun hc => hchanged.population_kept g fun hp => by rw [hmask hc] at hp; cases hp) (by rw [hnew])
    (fun b => by rw [hnew]; rfl) (.accept h)
    (fun hs => State.fpbRestart_margins (fun l => ?_) g) fun hs => State.fpbRestart_caps fun l hl => ?_)
  · rw [hfpb, hta, hsettings]
    have := hs l
    rw [State.setSettings_settings, hnew]
    exact this
  · rw [hfpb, hsettings, State.setSettings_settings, hother l hl]
    exact hs l

/-- A write of a population or a mask equal to the one in force changes no setting. -/
theorem Settings.accept_same {st : Settings} {g : SegId} (h : st.accept i v = some new)
    (hi : i = .population g ∨ i = .mask g) (hsame : new.seg.get g = st.seg.get g) : new = st := by
  have hchanged := Settings.write_changed (Settings.accept_eq_some.1 h).1
  have hseg : new.seg = st.seg := PerSeg.ext_get fun k => by
    by_cases hk : k = g
    · rw [hk, hsame]
    · rcases hchanged.seg k with hc | hc | hc
      · rcases hi with rfl | rfl <;> cases hc; exact absurd rfl hk
      · rcases hi with rfl | rfl <;> cases hc; exact absurd rfl hk
      · exact hc
  rw [Settings.accept_seg h hi, hseg]

/-- A write of a population or a mask changes it exactly where it changes the segment's values. -/
theorem Settings.accept_population {st : Settings} {g : SegId} (h : st.accept (.population g) v = some new) :
    (new.seg.get g).population = (st.seg.get g).population ↔ new.seg.get g = st.seg.get g := by
  obtain ⟨x, -, rfl⟩ := Option.map_eq_some_iff.1 (Settings.accept_eq_some.1 h).1
  have hget : (st.setSeg g fun s => { s with population := x }).seg.get g = { st.seg.get g with population := x } :=
    PerSeg.get_modify_self ..
  rw [hget]
  exact ⟨fun hx => by rw [show x = (st.seg.get g).population from hx], fun hx => congrArg SegSettings.population hx⟩

theorem Settings.accept_mask {st : Settings} {g : SegId} (h : st.accept (.mask g) v = some new) :
    (new.seg.get g).mask = (st.seg.get g).mask ↔ new.seg.get g = st.seg.get g := by
  obtain ⟨x, -, rfl⟩ := Option.map_eq_some_iff.1 (Settings.accept_eq_some.1 h).1
  have hget : (st.setSeg g fun s => { s with mask := x }).seg.get g = { st.seg.get g with mask := x } :=
    PerSeg.get_modify_self ..
  rw [hget]
  exact ⟨fun hx => by rw [show x = (st.seg.get g).mask from hx], fun hx => congrArg SegSettings.mask hx⟩

theorem Event.settingWritten (h : s.settings.accept i v = some new) :
    Event (i.restarts s.settings new) s ((s.setSettings new).settingWritten s.settings i) := by
  have hchanged := Settings.write_changed (Settings.accept_eq_some.1 h).1
  have hplain : (∀ k, i ≠ .population k) → (∀ b, i ≠ .block b) → (∀ n, i ≠ .freeze n) → i ≠ .guardBand →
      ∀ u, Event (i.restarts s.settings new) (s.setSettings new) u → Event (i.restarts s.settings new) s u :=
    fun hpop hblock hfreeze hguard u k => .accepted h hpop k (fun ⟨b, hb⟩ => absurd hb (hblock b)) fun hm =>
      hm.elim (fun ⟨n, hn⟩ => absurd hn (hfreeze n)) fun hg => absurd hg hguard
  cases i with
  | population g =>
    refine .setWritten (fun hsame => ?_) fun hnew => ?_
    · rw [bne_eq_false_iff_eq] at hsame
      rw [Settings.accept_same h (.inl rfl) ((Settings.accept_population h).1 hsame)]
      exact .refl _ s
    · rw [bne_iff_ne] at hnew
      exact .segmentWritten h (by simp [Item.restarts, mt (Settings.accept_population h).2 hnew]) (.inl rfl) nofun
  | mask g =>
    refine .setWritten (fun hsame => ?_) fun hnew => ?_
    · rw [bne_eq_false_iff_eq] at hsame
      rw [Settings.accept_same h (.inr rfl) ((Settings.accept_mask h).1 hsame)]
      exact .refl _ s
    · rw [bne_iff_ne] at hnew
      exact .segmentWritten h (by simp [Item.restarts, mt (Settings.accept_mask h).2 hnew]) (.inr rfl) fun _ => rfl
  | freeze n =>
    refine .accepted h (by simp) (.fpbEvent _) (fun ⟨b, hb⟩ => by cases hb) fun _ hs => ?_
    refine State.fpbEvent_margins (.inl rfl) (.inr fun l => ?_)
    rw [State.setSettings_settings, hchanged.guardBand_kept (by simp)]
    exact (hs l).2
  | guardBand =>
    refine .accepted h (by simp) (.fpbEvent _) (fun ⟨b, hb⟩ => by cases hb) fun _ hs => ?_
    refine State.fpbEvent_margins (.inr fun l => ?_) (.inl rfl)
    rw [State.setSettings_settings, hchanged.freezeTable_kept (by simp)]
    exact (hs l).1
  | block b =>
    refine .accepted h (by simp) (.flushBank b) (fun _ hs => hs.blockWritten hchanged) fun hm => ?_
    rcases hm with ⟨n, hn⟩ | hn <;> cases hn
  | notices p =>
    refine hplain (by simp) (by simp) (by simp) (by simp) _ ?_
    change Event _ _ (State.noticesWritten _ p)
    unfold State.noticesWritten
    split
    · exact .refl _ _
    · exact .modPort (.quiet rfl rfl rfl (.inl rfl) (.inl rfl))
  | nominal l | minFlow l | designMin => exact hplain (by simp) (by simp) (by simp) (by simp) _ (.fpbEvent _)
  | fbTarget l | fbFloor l | fbCeiling l =>
    exact hplain (by simp) (by simp) (by simp) (by simp) _ (.recomputeMerge l)
  | guardCap l => exact hplain (by simp) (by simp) (by simp) (by simp) _ (.repostAll ..)
  | rotation l =>
    exact hplain (by simp) (by simp) (by simp) (by simp) _ (.modAlloc (fun _ => id) fun _ => .refl _)
  | cls | rate | passInterval | holdLimit | kp | ki | smin | minService | settleTimeout | icingInterval =>
    exact hplain (by simp) (by simp) (by simp) (by simp) _ (.refl ..)

theorem State.arbitrateFor_eq (hs : s.settings = new) (old : Settings) (i : Item) :
    s.arbitrateFor old i = (i.restarts old new).foldl State.arbitrate s := by
  subst hs
  cases i with
  | population g => unfold State.arbitrateFor Item.restarts; dsimp only; split <;> rfl
  | mask g => unfold State.arbitrateFor Item.restarts; dsimp only; split <;> rfl
  | _ => rfl

end

end Sys2Proof.Machine
end

section
/-! Every command as an event: what a step does to a part is an event, after which some segments choose and the transmitters
start, or a start-up. -/

namespace Sys2Proof.Machine

/-- What a command other than a start-up leaves: an event that no segment and no transmitter answers, or one after which some
segments choose and every idle transmitter starts. -/
inductive Ended (s : State) : State → Prop
  | still {u : State} (h : Event [] s u) (hports : u.ports = s.ports) : Ended s u
  | whole {gs : List SegId} {u : State} (h : Event gs s u) : Ended s (gs.foldl State.arbitrate u).kickPorts

section
variable {s : State} {p : PortId}

/-- What a port's telegram does: an event after which some segments choose. -/
def State.Acts (s u : State) : Prop := ∃ gs t, Event gs s t ∧ u = gs.foldl State.arbitrate t

theorem State.Acts.event {u : State} (h : Event [] s u) : s.Acts u := ⟨[], u, h, rfl⟩

theorem State.Acts.choosing {g : SegId} {t : State} (h : Event [g] s t) : s.Acts (t.arbitrate g) := ⟨[g], t, h, rfl⟩

theorem State.Acts.ended {u : State} (h : s.Acts u) : Ended s u.kickPorts := by
  obtain ⟨gs, t, hevent, rfl⟩ := h
  exact .whole hevent

theorem Ended.refl (s : State) : Ended s s := .still (.refl [] s) rfl

theorem Ended.telegram {k : Byte} {act : Telegram → State → State} (h : ∀ t, s.Acts (act t s)) :
    Ended s (s.execTelegram p k act) := by
  rcases s.execTelegram_cases p k act with ⟨t, -, -, heq⟩ | heq
  · rw [heq]; exact (h t).ended
  · rw [heq]; exact .refl s

/-! ### The telegrams that may set a segment to work -/

theorem State.readResolved_acts (r : Resolved) (fresh : Bool) : s.Acts (s.readResolved p r fresh) := by
  unfold State.readResolved
  split
  · exact .choosing (.modFsc List.mem_cons_self _)
  · exact .event (.reply (State.pointReply_short ..))

theorem State.readPoint_acts (t : Telegram) : s.Acts (s.readPoint p t) := by
  unfold State.readPoint
  split
  · split
    · exact State.readResolved_acts ..
    · exact .event (.unresolved ..)
  · exact .event (.refuse ..)

theorem State.judge_eq_found {d : Nat} {r : Resolved} (h : s.judge d = .found r) : s.direct? d = some r := by
  cases hd : s.direct? d with
  | none => rw [State.judge_noPoint hd] at h; cases h
  | some x => rw [State.judge_found hd] at h; cases h; rfl

/-- An address that resolves leads to a direct address. -/
theorem State.translate_found {w : Word} {right : MapEntry → Bool} {r : Resolved}
    (h : s.translate p w right = .found r) : ∃ d, s.direct? d = some r := by
  rcases Nat.lt_or_ge w.toNat directBase with hlogical | hdirect
  · cases hm : s.match? (some p) w.toNat with
    | none => rw [State.translate_miss hlogical hm] at h; cases h
    | some e =>
      rw [State.translate_matched hlogical hm] at h
      split at h
      · exact ⟨_, State.judge_eq_found h⟩
      · cases h
  · rw [State.translate_direct hdirect] at h
    exact ⟨_, State.judge_eq_found h⟩

theorem State.resolveOverride_found {w : Word} {r : Resolved} (h : s.resolveOverride p w = .found r) :
    r.station ∈ s.settings.population r.seg ∧ ∀ o, r.target = .output o → (kindOf r.station).hasOutput o = true := by
  unfold State.resolveOverride at h
  split at h
  · obtain ⟨d, hd⟩ := State.translate_found h
    obtain ⟨-, hstation, -, htarget⟩ := (State.direct?_eq_some rfl).1 hd
    refine ⟨hstation, fun o ho => ?_⟩
    rw [targetOf_eq_some, ho] at htarget
    simp only [reduceCtorEq, and_false, Target.output.injEq, false_or] at htarget
    rcases htarget with ⟨-, rfl, hk⟩ | ⟨-, rfl, hk⟩ | ⟨-, rfl, hk⟩ <;> simp [hk]
  · cases h

theorem overrideValue_output {o : OutputId} {v : Int} {x : OutputValue} (h : overrideValue o v = some x) :
    x.output = o := by
  cases o with
  | fan => cases h; rfl
  | bypass => cases h; rfl
  | valve =>
    unfold overrideValue at h
    dsimp only at h
    split at h
    · cases h; rfl
    · split at h <;> cases h; rfl

theorem clampHold_bounds (hold : Nat) : 10 ≤ clampHold hold ∧ clampHold hold ≤ 3600 := by
  have := clamp_bounds (lo := 10) (hi := 3600) (by decide) (hold : Int)
  unfold clampHold
  omega

theorem OverrideRecord.reply_short (r : OverrideRecord) (b : OverrideBody) : (r.reply b).length ≤ 248 := by
  simp [OverrideRecord.reply]

theorem State.placeOverride_acts {r : Resolved} {v : OutputValue} (b : OverrideBody)
    (hstation : r.station ∈ s.settings.population r.seg) (houtput : (kindOf r.station).hasOutput v.output = true) :
    s.Acts (s.placeOverride p r v b) := by
  have hover : ∀ i, s.Overridable (s.newRecord p r v (clampHold b.hold) i) := fun i =>
    ⟨hstation, houtput, clampHold_bounds _⟩
  unfold State.placeOverride
  split
  · next old hold =>
    split
    · refine .choosing (.trans (.trans (.trans (.setOverrides fun h => ?_) (.tellDisplaced ..)) (.deliverSet ?_))
        (.reply (OverrideRecord.reply_short ..)))
      · exact h.replace (old := old) (hover _) rfl hold
      · exact List.mem_cons_self
    · exact .event (.refuse ..)
  · next hnone =>
    split
    · next i hi =>
      refine .choosing (.trans (.trans (.setOverrides fun h => ?_) (.deliverSet ?_))
        (.reply (OverrideRecord.reply_short ..)))
      · exact h.insert (hover _) hi hnone
      · exact List.mem_cons_self
    · exact .event (.refuse ..)

theorem State.setOverride_acts (t : Telegram) : s.Acts (s.setOverride p t) := by
  unfold State.setOverride
  split
  · split
    · next r hr =>
      obtain ⟨hstation, houtput⟩ := State.resolveOverride_found hr
      split
      · next o ho =>
        split
        · next v hv =>
          exact State.placeOverride_acts _ hstation (by rw [overrideValue_output hv]; exact houtput o ho)
        · exact .event (.refuse ..)
      · exact .event (.refuse ..)
    · exact .event (.unresolved ..)
  · exact .event (.refuse ..)

theorem State.releaseOverride_acts (t : Telegram) : s.Acts (s.releaseOverride p t) := by
  unfold State.releaseOverride
  split
  · split
    · next r hr =>
      split
      · unfold State.releaseOutput
        split
        · next old hold =>
          have hseg : old.seg ∈ [r.seg] := by rw [(State.override?_some hold).2.1]; exact List.mem_cons_self
          split
          · exact .choosing (.trans (.trans (.removeRecord hseg) (.tellDisplaced ..)) (.reply (by simp)))
          · exact .event (.refuse ..)
        · exact .event (.reply (by simp))
      · exact .event (.refuse ..)
    · exact .event (.unresolved ..)
  · exact .event (.refuse ..)

@[simp] theorem State.settingWritten_settings (old : Settings) (i : Item) :
    (s.settingWritten old i).settings = s.settings := by
  cases i with
  | notices q => unfold State.settingWritten State.noticesWritten; dsimp only; split <;> simp
  | population g | mask g => unfold State.settingWritten State.setWritten; dsimp only; split <;> simp
  | block b => rfl
  | guardCap l => rfl
  | rotation l => rfl
  | _ => simp [State.settingWritten]

theorem State.applySetting_acts {i : Item} {v : Word} {new : Settings} (h : s.settings.accept i v = some new) :
    s.Acts (s.applySetting p i new) :=
  ⟨_, _, .trans (.settingWritten h) (.replyWith (p := p) (body := [doneByte]) (fun _ _ _ _ => by simp)
    (replyEffect new i)), State.arbitrateFor_eq (by simp) _ _⟩

theorem State.writeSetting_acts (t : Telegram) : s.Acts (s.writeSetting p t) := by
  unfold State.writeSetting
  split
  · split
    · split
      · split
        · exact .event (.refuse ..)
        · split
          · next new hnew =>
            exact State.applySetting_acts hnew
          · exact .event (.refuse ..)
      · exact .event (.refuse ..)
    · exact .event (.refuse ..)
  · exact .event (.refuse ..)

theorem Event.saveSettings {gs : List SegId} (t : Telegram) : Event gs s (s.saveSettings p t) := by
  unfold State.saveSettings
  split
  · split
    · split
      · exact .refuse ..
      · exact .trans (.setSaving _) (.reply (by simp))
    · exact .refuse ..
  · exact .refuse ..

theorem Event.restart {gs : List SegId} (t : Telegram) : Event gs s (s.restart p t) := by
  unfold State.restart
  split
  · split
    · split
      · exact .refuse ..
      · exact .trans .setRestartPending (.replyWith (fun _ _ _ _ => by simp) _)
    · exact .refuse ..
  · exact .refuse ..

end

/-! ### Every command -/

/-- What executing a command leaves. -/
inductive Executed (c : Instr) (s : State) : State → Prop
  | ended {t : State} (h : Ended s t) : Executed c s t
  | started : Executed c s s.beginStartUp
  | loaded {image : Option (List Byte)} (hc : c = .settingsLoadEnd image) (hl : s.phase = .loading) :
      Executed c s (s.startUp (loadSettings image).1 (loadSettings image).2)

section
variable {s : State} {p : PortId} {g : SegId}

/-- A start-up reads the time base, the waiting commands and the attention lines alone. -/
theorem State.beginStartUp_kickPorts (s : State) : s.beginStartUp.kickPorts = s.beginStartUp :=
  State.kickPorts_loading rfl

theorem execTransmitterFrameDone_executed (c : Instr) :
    ∃ t, execTransmitterFrameDone p s = .next t ∧ Executed c s t := by
  have hfreed : ∀ gs, Event gs s (s.modPort p fun port => { port with sending := none }) := fun _ =>
    .modPort (.quiet rfl rfl rfl (.inr rfl) (.inl rfl))
  unfold execTransmitterFrameDone
  split
  · next f _ =>
    refine ⟨_, rfl, ?_⟩
    unfold State.frameLeft
    split
    · exact .ended (.whole (gs := []) (hfreed []))
    · rw [State.beginStartUp_kickPorts]
      exact .started
    · refine .ended (.whole (gs := []) (.trans (hfreed []) (.modPort (.quiet rfl rfl rfl (.inl rfl) (.inl rfl)))))
  · exact ⟨_, rfl, .ended (.refl s)⟩

theorem windowExpired_ended : Ended s (s.windowExpired g) := by
  unfold State.windowExpired
  split
  · refine .whole (gs := [g]) (.trans (.trans (.advanceTo _) (.setActivity ?_ _)) (.beginDiscovery ?_)) <;>
      exact List.mem_cons_self
  · split
    · exact .whole (gs := [g]) (.trans (.advanceTo _) (.attemptFailed List.mem_cons_self _))
    · exact .refl s

/-- Every command leaves a next state: after an event, or at a start-up. -/
theorem exec_executed (c : Instr) (s : State) : ∃ t, exec c s = .next t ∧ Executed c s t := by
  cases c with
  | powerOn => exact ⟨_, rfl, .started⟩
  | resetPin => exact ⟨_, rfl, .started⟩
  | settingsLoadEnd image =>
    change ∃ t, execSettingsLoadEnd image s = .next t ∧ _
    unfold execSettingsLoadEnd
    split
    · next hl => exact ⟨_, rfl, .loaded rfl hl⟩
    · exact ⟨_, rfl, .ended (.refl s)⟩
  | takeFrame p chars =>
    change ∃ t, execTakeFrame p chars s = .next t ∧ _
    unfold execTakeFrame
    split
    · next hrun => exact ⟨_, rfl, .ended (.whole (gs := []) (.receive p chars s hrun))⟩
    · exact ⟨_, rfl, .ended (.refl s)⟩
  | frameGapTimeout p =>
    change ∃ t, execFrameGapTimeout p s = .next t ∧ _
    unfold execFrameGapTimeout
    split
    · exact ⟨_, rfl, .ended (.whole (gs := []) (.trans (.receiveNone p) (.setFault _)))⟩
    · exact ⟨_, rfl, .ended (.refl s)⟩
  | unknownKind p =>
    change ∃ t, execUnknownKind p s = .next t ∧ _
    unfold execUnknownKind
    split
    · split
      · exact ⟨_, rfl, .ended (.refl s)⟩
      · exact ⟨_, rfl, .ended (.whole (gs := []) (.refuse ..))⟩
    · exact ⟨_, rfl, .ended (.refl s)⟩
  | readPoint p => exact ⟨_, rfl, .ended (.telegram State.readPoint_acts)⟩
  | readStation p => exact ⟨_, rfl, .ended (.telegram fun t => .event (.readStation p t))⟩
  | readStatus p => exact ⟨_, rfl, .ended (.telegram fun t => .event (.readStatus p t))⟩
  | readFaults p => exact ⟨_, rfl, .ended (.telegram fun t => .event (.readFaults p t))⟩
  | readOverrides p => exact ⟨_, rfl, .ended (.telegram fun t => .event (.readOverrides p t))⟩
  | readSetting p => exact ⟨_, rfl, .ended (.telegram fun t => .event (.readSetting p t))⟩
  | postRequest p => exact ⟨_, rfl, .ended (.telegram fun t => .event (.postRequest p t))⟩
  | withdrawRequest p => exact ⟨_, rfl, .ended (.telegram fun t => .event (.withdrawRequest p t))⟩
  | fence p => exact ⟨_, rfl, .ended (.telegram fun t => .event (.fence p t))⟩
  | setOverride p => exact ⟨_, rfl, .ended (.telegram State.setOverride_acts)⟩
  | releaseOverride p => exact ⟨_, rfl, .ended (.telegram State.releaseOverride_acts)⟩
  | map p => exact ⟨_, rfl, .ended (.telegram fun t => .event (.map p t))⟩
  | unmap p => exact ⟨_, rfl, .ended (.telegram fun t => .event (.unmap p t))⟩
  | flush p => exact ⟨_, rfl, .ended (.telegram fun t => .event (.flush p t))⟩
  | probeByAddress p => exact ⟨_, rfl, .ended (.telegram fun t => .event (.probeByAddress p t))⟩
  | probeByIndex p => exact ⟨_, rfl, .ended (.telegram fun t => .event (.probeByIndex p t))⟩
  | markStale p => exact ⟨_, rfl, .ended (.telegram fun t => .event (.markStale p t))⟩
  | writeSetting p => exact ⟨_, rfl, .ended (.telegram State.writeSetting_acts)⟩
  | saveSettings p => exact ⟨_, rfl, .ended (.telegram fun t => .event (.saveSettings t))⟩
  | restart p => exact ⟨_, rfl, .ended (.telegram fun t => .event (.restart t))⟩
  | saveEnd acknowledged readBack =>
    change ∃ t, execSaveEnd acknowledged readBack s = .next t ∧ _
    unfold execSaveEnd
    split
    · exact ⟨_, rfl, .ended (.whole (gs := []) (.trans (.setSaving _) (.setFaultIf ..)))⟩
    · exact ⟨_, rfl, .ended (.refl s)⟩
  | transmitterFrameDone p => exact execTransmitterFrameDone_executed _
  | noticeSpacingExpiry p =>
    change ∃ t, execNoticeSpacingExpiry p s = .next t ∧ _
    unfold execNoticeSpacingExpiry
    split
    · exact ⟨_, rfl, .ended (.whole (gs := []) (.trans (.advanceTo _)
        (.modPort (.quiet rfl rfl rfl (.inl rfl) (.inl rfl)))))⟩
    · exact ⟨_, rfl, .ended (.refl s)⟩
  | passTimerExpiry g =>
    change ∃ t, execPassTimerExpiry g s = .next t ∧ _
    unfold execPassTimerExpiry
    split
    · exact ⟨_, rfl, .ended (.whole (gs := [g]) (.trans (.advanceTo _) (.passTimerExpired List.mem_cons_self)))⟩
    · exact ⟨_, rfl, .ended (.refl s)⟩
  | responseTaken g chars =>
    change ∃ t, execResponseTaken g chars s = .next t ∧ _
    unfold execResponseTaken
    split
    · split
      · exact ⟨_, rfl, .ended (.refl s)⟩
      · exact ⟨_, rfl, .ended (.whole (gs := [g]) (.answer List.mem_cons_self ..))⟩
    · exact ⟨_, rfl, .ended (.refl s)⟩
  | responseWindowExpiry g => exact ⟨_, rfl, .ended windowExpired_ended⟩
  | readyPauseExpiry g =>
    change ∃ t, execReadyPauseExpiry g s = .next t ∧ _
    unfold execReadyPauseExpiry
    split
    · exact ⟨_, rfl, .ended (.whole (gs := [g]) (.trans (.advanceTo _) (.setActivity List.mem_cons_self _)))⟩
    · exact ⟨_, rfl, .ended (.refl s)⟩
  | attentionLineChange g asserted =>
    exact ⟨_, rfl, .ended (.whole (gs := [g]) (.modFsc List.mem_cons_self _))⟩
  | attentionPollEnd g slots =>
    change ∃ t, execAttentionPollEnd g slots s = .next t ∧ _
    unfold execAttentionPollEnd
    split
    · exact ⟨_, rfl, .ended (.whole (gs := [g]) (.trans (.trans (.advanceTo _) (.takePoll List.mem_cons_self _))
        (.setActivity List.mem_cons_self _)))⟩
    · exact ⟨_, rfl, .ended (.refl s)⟩
  | settleDeadlineExpiry g a o =>
    change ∃ t, execSettleDeadlineExpiry g a o s = .next t ∧ _
    unfold execSettleDeadlineExpiry
    split
    · split
      · exact ⟨_, rfl, .ended (.whole (gs := [g]) (.trans (.advanceTo _) (.settleFail List.mem_cons_self ..)))⟩
      · exact ⟨_, rfl, .ended (.refl s)⟩
    · exact ⟨_, rfl, .ended (.refl s)⟩
  | icingClearExpiry =>
    change ∃ t, execIcingClearExpiry s = .next t ∧ _
    unfold execIcingClearExpiry
    split
    · exact ⟨_, rfl, .ended (.whole (gs := []) (.trans (.advanceTo _) .icingExpired))⟩
    · exact ⟨_, rfl, .ended (.refl s)⟩
  | rotationExpiry l =>
    change ∃ t, execRotationExpiry l s = .next t ∧ _
    unfold execRotationExpiry
    split
    · refine ⟨_, rfl, .ended (.still (.trans (.advanceTo _) (.modAlloc (fun _ => id) fun al => rotate_perm _)) rfl)⟩
    · exact ⟨_, rfl, .ended (.refl s)⟩
  | requestExpiry p l =>
    change ∃ t, execRequestExpiry p l s = .next t ∧ _
    unfold execRequestExpiry
    split
    · split
      · exact ⟨_, rfl, .ended (.whole (gs := []) (.trans (.trans (.trans (.advanceTo _) (.modSlot ..)) (.setFault _))
          (.recomputeMerge _)))⟩
      · exact ⟨_, rfl, .ended (.refl s)⟩
    · exact ⟨_, rfl, .ended (.refl s)⟩
  | overrideExpiry n =>
    change ∃ t, execOverrideExpiry n s = .next t ∧ _
    unfold execOverrideExpiry
    split
    · next r _ =>
      split
      · exact ⟨_, rfl, .ended (.whole (gs := [r.seg]) (.trans (.trans (.advanceTo _) (.removeRecord List.mem_cons_self))
          (.notify ..)))⟩
      · exact ⟨_, rfl, .ended (.refl s)⟩
    · exact ⟨_, rfl, .ended (.refl s)⟩

end

end Sys2Proof.Machine
end

section
/-! Start-ups, and the invariants that every step keeps: settings that a load leaves, the state a start-up leaves, and the
obligations O10 to O21. -/

namespace Sys2Proof.Machine

/-! ### What a load leaves of the settings (R161) -/

/-- The freeze table in range and order, a port of class SUPERVISOR, the fallback values in order, and the block sizes sizes
of blocks. -/
structure Settings.Sound (st : Settings) : Prop where
  formed : (st.freezeTable.length = 13 ∧ (∀ x ∈ st.freezeTable, -600 ≤ x ∧ x ≤ 0) ∧
    st.freezeTable.Pairwise fun x y => y ≤ x) ∧ ∃ p, (st.port.get p).cls = .supervisor
  fallback : ∀ l, (st.loop.get l).fallbackOrder = true
  blocks : ∀ b, st.blockSize b ∈ [1, 4, 16, 64]

theorem Settings.default_sound : Settings.default.Sound where
  formed := ⟨by decide, .sp3, rfl⟩
  fallback l := by cases l <;> decide
  blocks b := by cases b <;> decide

/-- Whatever every accepted item keeps, the reading of the items keeps. -/
theorem readItems_keeps {P : Settings → Prop} (hP : ∀ {st i v new}, P st → st.write i v = some new → P new)
    {items : List Item} {bytes : List Byte} {st new : Settings} (hst : P st) (h : readItems items bytes st = some new) :
    P new := by
  induction items generalizing bytes st with
  | nil =>
    obtain ⟨-, hnew⟩ := Option.ite_none_right_eq_some.1 h
    cases hnew
    exact hst
  | cons i rest ih =>
    unfold readItems at h
    split at h
    · split at h
      · split at h
        · next hwrite => exact ih (hP hst hwrite) h
        · cases h
      · cases h
    · split at h
      · split at h
        · next hwrite => exact ih (hP hst hwrite) h
        · cases h
      · cases h

/-- The settings of which every item is in its range. -/
structure Settings.InRange (st : Settings) : Prop where
  length : st.freezeTable.length = 13
  range : ∀ x ∈ st.freezeTable, -600 ≤ x ∧ x ≤ 0
  blocks : ∀ b, st.blockSize b ∈ [1, 4, 16, 64]

theorem Settings.InRange.write {st new : Settings} {i : Item} {v : Word} (h : st.InRange) (hw : st.write i v = some new) :
    new.InRange := by
  have hchanged := Settings.write_changed hw
  have hblocks : ∀ b, new.blockSize b ∈ [1, 4, 16, 64] := fun b => by
    rcases hchanged.blockSize b with hb | ⟨-, hb⟩
    · rw [hb]; exact h.blocks b
    · exact hb
  cases hchanged with
  | freeze n hx =>
    refine ⟨by simpa using h.length, fun y hy => ?_, hblocks⟩
    rcases List.mem_or_eq_of_mem_set hy with hy | rfl
    · exact h.range y hy
    · exact hx
  | _ => exact ⟨h.length, h.range, hblocks⟩

/-- A table is ordered when every entry is no colder than the one after it. -/
theorem tableOrdered_of_agree {table : List Int} (hlength : table.length = 13)
    (h : ∀ n, n ≤ 12 → tableOrderAt table n = true) : table.Pairwise fun x y => y ≤ x := by
  have hnext : ∀ n, n < 12 → table.getD (n + 1) 0 ≤ table.getD n 0 := by
    intro n hn
    have := h n (by omega)
    simp only [tableOrderAt, Bool.and_eq_true, Bool.or_eq_true, decide_eq_true_eq] at this
    exact this.2.resolve_left (by omega)
  have hlater : ∀ k i, i + k < 13 → table.getD (i + k) 0 ≤ table.getD i 0 := by
    intro k
    induction k with
    | zero => exact fun i _ => le_refl _
    | succ k ih => exact fun i hi => (hnext (i + k) (by omega)).trans (ih i (by omega))
  rw [List.pairwise_iff_getElem]
  intro i j hi hj hij
  obtain ⟨k, rfl⟩ := Nat.exists_eq_add_of_le hij.le
  have := hlater k i (by omega)
  rwa [List.getD_eq_getElem _ _ hj, List.getD_eq_getElem _ _ hi] at this

theorem Settings.sound_of_allAgree {st : Settings} (h : st.InRange) (hagree : st.allAgree = true) : st.Sound := by
  have hitem : ∀ i ∈ imageItems, st.agrees i = true := List.all_eq_true.1 hagree
  refine ⟨⟨⟨h.length, h.range, tableOrdered_of_agree h.length fun n hn => ?_⟩, ?_⟩, fun l => ?_, h.blocks⟩
  · exact hitem (.freeze n) (by interval_cases n <;> decide)
  · obtain ⟨p, -, hp⟩ := List.any_eq_true.1 (hitem (.cls .sp0) (by decide))
    exact ⟨p, by simpa using hp⟩
  · exact hitem (.fbTarget l) (by cases l <;> decide)

theorem loadSettings_sound (image : Option (List Byte)) : (loadSettings image).1.Sound := by
  unfold loadSettings
  split
  · next st hst =>
    obtain ⟨bytes, -, hload⟩ := Option.bind_eq_some_iff.1 hst
    unfold loadImage at hload
    split at hload
    · split at hload
      · split at hload
        · next new hread =>
          split at hload
          · next hagree =>
            cases hload
            refine Settings.sound_of_allAgree (readItems_keeps Settings.InRange.write ?_ hread) hagree
            exact ⟨by decide, by decide, fun b => by cases b <;> decide⟩
          · cases hload
        · cases hload
      · cases hload
    · cases hload
  · exact Settings.default_sound

/-! ### The state a start-up leaves (R160, R162) -/

/-- The invariants that every event keeps, together. -/
structure State.Sound (s : State) : Prop where
  counters : s.CountersBounded
  image : s.ImageFollowsPopulation
  demand : s.DemandBounded
  orders : s.OrdersComplete
  merges : s.MergesOrdered
  settle : s.SettleListsBounded
  buffers : s.BuffersFormed
  overrides : s.OverridesFormed
  accessMap : s.MapFormed
  settings : s.SettingsFormed
  margins : s.MarginsCurrent
  caps : s.CapsFollowFrost
  fences : s.FencesFollowMarks
  queues : s.QueuesBounded
  loading : s.LoadingHeld
  frames : s.FramesBounded

section
variable {st : Settings} {now : Nat} {pending : List Instr} {line : PerSeg Bool}

theorem State.fresh_image (g : SegId) :
    (State.fresh st now pending line).image.get g = (st.population g).map Station.fresh := by cases g <;> rfl

theorem State.fresh_port (p : PortId) :
    (State.fresh st now pending line).ports.get p = Port.fresh (st.port.get p) := PerPort.get_map ..

theorem State.fresh_fpb (l : LoopId) : (State.fresh st now pending line).fpb.get l = Fpb.fresh st l := by cases l <;> rfl

theorem State.fresh_alloc (l : LoopId) : (State.fresh st now pending line).alloc.get l = Allocator.fresh st l := by
  cases l <;> rfl

theorem State.fresh_merge (l : LoopId) :
    (State.fresh st now pending line).merge.get l = Merge.fallback (st.loop.get l) := PerSeg.get_map ..

theorem State.fresh_outputs (g : SegId) : (State.fresh st now pending line).buffer.get g = [] ∧
    (State.fresh st now pending line).settle.get g = [] ∧
    ∀ p, ((State.fresh st now pending line).fences.get p).get g = .none ∧
      ((State.fresh st now pending line).slots.get p).get g = none := by
  cases g <;> exact ⟨rfl, rfl, fun p => by cases p <;> exact ⟨rfl, rfl⟩⟩

theorem State.fresh_fsc (g : SegId) : (State.fresh st now pending line).fsc.get g = Fsc.fresh (line.get g) :=
  PerSeg.get_map ..

/-- Every block at its start-up state keeps every invariant. -/
theorem State.fresh_sound (h : st.Sound) : (State.fresh st now pending line).Sound where
  counters g x hx := by
    rw [State.fresh_image] at hx
    obtain ⟨a, -, rfl⟩ := List.mem_map.1 hx
    exact Nat.zero_le _
  image g := by
    rw [State.fresh_image]
    refine ⟨by rw [List.map_map]; exact List.map_id _, fun x hx => ?_⟩
    obtain ⟨a, -, rfl⟩ := List.mem_map.1 hx
    exact ⟨rfl, rfl⟩
  demand l := by rw [State.fresh_alloc]; exact Nat.le_of_ble_eq_true rfl
  orders l := by rw [State.fresh_alloc]; exact .refl _
  merges l := by
    rw [State.fresh_merge]
    have := h.fallback l
    exact ⟨by simpa [LoopSettings.fallbackOrder, Merge.fallback] using this, this⟩
  settle g := by rw [(State.fresh_outputs g).2.1]; exact ⟨Nat.zero_le _, .nil⟩
  buffers := State.buffersFormed_iff.2 fun g => by rw [(State.fresh_outputs g).1]; exact .nil
  overrides := ⟨.nil, .nil, by simp [State.fresh]⟩
  accessMap := ⟨h.blocks, .nil, .nil, by simp [State.fresh]⟩
  settings := h.formed
  margins l := by rw [State.fresh_fpb]; exact ⟨rfl, rfl⟩
  caps l := by
    rw [State.fresh_fpb]
    refine ⟨rfl, ?_⟩
    simp only [Fpb.fresh, List.map_map, Function.comp_def, List.map_id']
    rfl
  fences p g := by
    obtain ⟨hb, hs, hf⟩ := State.fresh_outputs (st := st) (now := now) (pending := pending) (line := line) g
    rw [(hf p).1, State.marked, hb, hs]
    rfl
  queues p := by rw [State.fresh_port]; simp [Port.fresh]
  loading _ p := by rw [State.fresh_port]; exact ⟨rfl, rfl, rfl, rfl⟩
  frames p := by rw [State.fresh_port]; simp [Port.fresh]

end

theorem State.beginStartUp_sound (s : State) : s.beginStartUp.Sound := State.fresh_sound Settings.default_sound

/-- What the part starts running with differs from the start-up state in its phase, its timers and its faults. -/
theorem State.runWith_frame (s : State) (st : Settings) (defaulted : Bool) :
    s.runWith st defaulted = { State.fresh st s.now s.pending s.lines with
      phase := .running
      icingTimer := icingEnd s.now st.icingInterval
      alloc := (State.fresh st s.now s.pending s.lines).alloc.map fun l al =>
        { al with rotation := rotationEnd s.now (st.loop.get l).rotation }
      faults := if defaulted then FaultFlag.configDefaulted.mask else 0#24 } := by
  cases defaulted <;> rfl

theorem State.runWith_sound {st : Settings} (h : st.Sound) (s : State) (defaulted : Bool) :
    (s.runWith st defaulted).Sound := by
  have hfresh : (State.fresh st s.now s.pending s.lines).Sound := State.fresh_sound h
  rw [State.runWith_frame]
  exact
    { counters := hfresh.counters
      image := hfresh.image
      demand := fun l => by dsimp only; rw [PerSeg.get_map]; exact hfresh.demand l
      orders := fun l => by dsimp only; rw [PerSeg.get_map]; exact hfresh.orders l
      merges := hfresh.merges
      settle := hfresh.settle
      buffers := hfresh.buffers
      overrides := hfresh.overrides
      accessMap := hfresh.accessMap
      settings := hfresh.settings
      margins := hfresh.margins
      caps := hfresh.caps
      fences := hfresh.fences
      queues := hfresh.queues
      loading := nofun
      frames := hfresh.frames }

/-! ### Every step -/

theorem Event.arbitrates {gs hs : List SegId} (s : State) (h : ∀ g ∈ hs, g ∈ gs) :
    Event gs s (hs.foldl State.arbitrate s) := by
  induction hs generalizing s with
  | nil => exact .refl gs s
  | cons g hs ih => exact .trans (.arbitrate (h g List.mem_cons_self)) (ih _ fun k hk => h k (List.mem_cons_of_mem g hk))

/-- What a command other than a start-up leaves is an event, its segments' choices and its transmitters' starts included. -/
theorem Ended.event {s t : State} (h : Ended s t) : ∃ gs, Event gs s t := by
  cases h with
  | still h _ => exact ⟨[], h⟩
  | @whole gs u h => exact ⟨gs, (h.trans (.arbitrates u fun _ hg => hg)).trans .kickPorts⟩

/-- The end of a settings load, from the state in which the part starts running. -/
theorem State.startUp_ended (s : State) (st : Settings) (defaulted : Bool) :
    Ended (s.runWith st defaulted) (s.startUp st defaulted) :=
  .whole (gs := [.fs0, .fs1]) (.trans (.beginDiscovery (by simp)) (.beginDiscovery (by simp)))

/-- What a step does: an event from the state with the front command taken, a start-up, or the end of a settings load. -/
theorem step_executed {s t : State} (h : step s = .next t) :
    (∃ gs, Event gs { s with pending := t.pending } t) ∨ (∃ u : State, t = u.beginStartUp) ∨
      ∃ (u : State) (image : Option (List Byte)), t = u.startUp (loadSettings image).1 (loadSettings image).2 := by
  unfold step at h
  split at h
  · next hp =>
    cases h
    exact .inl ⟨[], { now := Nat.le_succ _ }⟩
  · next c rest hp =>
    obtain ⟨u, hu, hexec⟩ := exec_executed c { s with pending := rest }
    rw [h] at hu
    cases hu
    cases hexec with
    | ended hend =>
      obtain ⟨gs, hevent⟩ := hend.event
      refine .inl ⟨gs, ?_⟩
      rw [hevent.pending]
      exact hevent
    | started => exact .inr (.inl ⟨_, rfl⟩)
    | loaded hc hl => exact .inr (.inr ⟨_, _, rfl⟩)

/-- Whatever every event keeps, and holds where a start-up begins and where the part starts running, every step keeps. -/
theorem step_keeps {P : State → Prop} (hevent : ∀ {gs s t}, Event gs s t → P s → P t) (hsound : ∀ {s}, s.Sound → P s)
    (hpending : ∀ {s} (rest : List Instr), P s → P { s with pending := rest }) {s t : State} (hs : P s)
    (h : step s = .next t) : P t := by
  rcases step_executed h with ⟨gs, hend⟩ | ⟨u, rfl⟩ | ⟨u, image, rfl⟩
  · exact hevent hend (hpending _ hs)
  · exact hsound u.beginStartUp_sound
  · obtain ⟨gs, hend⟩ := (u.startUp_ended (loadSettings image).1 (loadSettings image).2).event
    exact hevent hend (hsound (u.runWith_sound (loadSettings_sound image) _))

/-- Settles O10: each bound is kept by every event, and holds at a start-up. -/
theorem stepKeepsBounds : Obligations.StepKeepsBounds := fun _ _ h =>
  ⟨fun hs => step_keeps Event.counters State.Sound.counters (fun _ => id) hs h,
    fun hs => step_keeps Event.demand State.Sound.demand (fun _ => id) hs h,
    fun hs => step_keeps Event.queues State.Sound.queues (fun _ => id) hs h⟩

/-- Settles O11: the image and the service orders follow the population through every event, a restart of a segment
included. -/
theorem stepKeepsPopulation : Obligations.StepKeepsPopulation := fun _ _ h =>
  ⟨fun hs => step_keeps Event.image State.Sound.image (fun _ => id) hs h,
    fun hs => step_keeps Event.orders State.Sound.orders (fun _ => id) hs h⟩

/-- Settles O12: a merge is ordered as `mergeOf` makes it, and a write of a fallback value keeps their order. -/
theorem stepKeepsMergesOrdered : Obligations.StepKeepsMergesOrdered := fun _ _ hs h =>
  step_keeps Event.merges State.Sound.merges (fun _ => id) hs h

/-- Settles O13: what joins a settle list replaces the items of its outputs, and the oldest make room. -/
theorem stepKeepsSettleLists : Obligations.StepKeepsSettleLists := fun _ _ hs h =>
  step_keeps Event.settle State.Sound.settle (fun _ => id) hs h

/-- Entries of different stations among the configured ones are no more than those. -/
theorem length_le_of_stations {es : List Entry} {set : Word} (h : es.Pairwise fun e f => e.station ≠ f.station)
    (hmem : ∀ e ∈ es, e.station ∈ addresses set) : es.length ≤ 12 := by
  have hnodup : (es.map Entry.station).Nodup := List.pairwise_map.2 h
  have hsub : es.map Entry.station ⊆ addresses set := fun a ha => by
    obtain ⟨e, he, rfl⟩ := List.mem_map.1 ha
    exact hmem e he
  have hle := (hnodup.subperm hsub).length_le
  have hall : (addresses set).length ≤ 12 := (List.length_filter_le ..).trans (by decide)
  rw [List.length_map] at hle
  exact hle.trans hall

/-- Settles O14: the form is kept by every event; one entry IN FLIGHT and one OPEN entry for each of at most 12 stations make
13. -/
theorem stepKeepsBuffers : Obligations.StepKeepsBuffers := by
  refine ⟨fun _ _ hs h => step_keeps Event.buffers State.Sound.buffers (fun _ => id) hs h, fun s hs himage g => ?_⟩
  obtain ⟨htail, hopen, hentry⟩ := hs g
  have hstation : ∀ e ∈ s.buffer.get g, e.station ∈ addresses (s.settings.seg.get g).population := by
    intro e he
    obtain ⟨-, x, hx, hxe⟩ := hentry e he
    rw [← hxe]
    have := List.mem_map_of_mem (f := Station.addr) hx
    rwa [(himage g).1] at this
  cases hb : s.buffer.get g with
  | nil => exact Nat.zero_le _
  | cons e es =>
    rw [hb] at htail hopen hstation
    have hes : es.length ≤ 12 := by
      refine length_le_of_stations ((List.pairwise_cons.1 hopen).2.imp_of_mem fun {x y} hx hy hxy => ?_)
        fun x hx => hstation x (List.mem_cons_of_mem _ hx)
      exact fun hsame => hxy ⟨htail x hx, htail y hy, hsame⟩
    rw [List.length_cons]
    omega

/-- Settles O15: a record is placed at a free index or over the one of its output, and otherwise leaves or waits. -/
theorem stepKeepsOverrides : Obligations.StepKeepsOverrides := fun _ _ hs h =>
  step_keeps Event.overrides State.Sound.overrides (fun _ => id) hs h

/-- Settles O16: a block is placed where it clashes with none, and a bank empties as its block size is written. -/
theorem stepKeepsMap : Obligations.StepKeepsMap := fun _ _ hs h =>
  step_keeps Event.accessMap State.Sound.accessMap (fun _ => id) hs h

/-- Settles O17: an accepted write agrees with its neighbours, and so does whatever a load leaves. -/
theorem stepKeepsSettings : Obligations.StepKeepsSettings := fun _ _ hs h =>
  step_keeps Event.settings State.Sound.settings (fun _ => id) hs h

/-- Settles O18: one event of freeze protection leaves both current, and so does what changes the values they are computed
from. -/
theorem stepKeepsMargins : Obligations.StepKeepsMargins := fun _ _ hs h =>
  step_keeps Event.margins State.Sound.margins (fun _ => id) hs h

/-- Settles O19: a cap is recomputed with every change of a frost state, and with a restart. -/
theorem stepKeepsCaps : Obligations.StepKeepsCaps := fun _ _ hs h =>
  step_keeps Event.caps State.Sound.caps (fun _ => id) hs h

/-- Settles O20: where marks leave, the fences left without any complete. -/
theorem stepKeepsFences : Obligations.StepKeepsFences := fun _ _ hs h =>
  step_keeps Event.fences State.Sound.fences (fun _ => id) hs h

/-! ### Transmitters -/

/-- What a step leaves of the transmitters: those of a part that has kicked them, of one that is loading, or as they
were. -/
theorem step_transmitters {s t : State} (hs : s.TransmittersBusy) (h : step s = .next t) : t.TransmittersBusy := by
  unfold step at h
  split at h
  · cases h; exact hs
  · next c rest hp =>
    obtain ⟨u, hu, hexec⟩ := exec_executed c { s with pending := rest }
    rw [h] at hu
    cases hu
    cases hexec with
    | ended hend =>
      cases hend with
      | still hevent hports =>
        intro hrun
        rw [hports]
        exact hs (hevent.phase.symm.trans hrun)
      | whole => exact State.kickPorts_busy _
    | started => exact nofun
    | loaded => exact State.kickPorts_busy _

/-- The frames and what fixes their length. -/
def State.FramesFixed (s : State) : Prop :=
  s.ImageFollowsPopulation ∧ s.OrdersComplete ∧ s.CapsFollowFrost ∧ s.OverridesFormed ∧ s.FramesBounded

theorem Event.framesFixed {gs : List SegId} {s u : State} (h : Event gs s u) (hs : s.FramesFixed) : u.FramesFixed := by
  obtain ⟨himage, horders, hcaps, hoverrides, hframes⟩ := hs
  exact ⟨h.image himage, h.orders horders, h.caps hcaps, h.overrides hoverrides,
    h.frames himage horders hcaps hoverrides hframes⟩

/-- Settles O21: whatever a command makes ready, an idle transmitter starts at its end; nothing is taken while loading; and
the longest reply is that of 16 override records, 242 bytes. -/
theorem stepKeepsTransmitters : Obligations.StepKeepsTransmitters := fun _ _ h =>
  ⟨fun hs => step_transmitters hs h, fun hs => step_keeps Event.loading State.Sound.loading (fun _ => id) hs h,
    fun himage horders hcaps hoverrides hframes => by
      have hfixed := step_keeps (P := State.FramesFixed) Event.framesFixed
        (fun h => ⟨h.image, h.orders, h.caps, h.overrides, h.frames⟩) (fun _ => id)
        ⟨himage, horders, hcaps, hoverrides, hframes⟩ h
      obtain ⟨-, -, -, -, hbounded⟩ := hfixed
      exact hbounded⟩

end Sys2Proof.Machine
end

section
/-! The choice of the next call (R41, R42): what it depends on, that a segment which has chosen has nothing left to choose,
and that a loading part's segments stand still; obligation O22. -/

namespace Sys2Proof.Machine

/-! ### What a choice depends on -/

section
variable {s u : State} {g : SegId}

/-- What a segment finds in a record by its address is the same, points apart. -/
theorem State.SegmentKept.station? (h : s.SegmentKept u g) (a : Nat) :
    (u.station? g a).map Station.seen = (s.station? g a).map Station.seen := by
  have hfind : ∀ sts : List Station, (sts.find? fun st => st.addr == a).map Station.seen =
      (sts.map Station.seen).find? fun st => st.addr == a := fun sts => by
    rw [List.find?_map]
    rfl
  unfold State.station?
  rw [hfind, hfind, h.image]

theorem State.SegmentKept.link (h : s.SegmentKept u g) (a : Nat) : u.link g a = s.link g a := by
  have hst := h.station? a
  unfold State.link
  cases hu : u.station? g a with
  | none =>
    rw [hu] at hst
    rw [Option.map_eq_none_iff.1 hst.symm]
  | some y =>
    rw [hu] at hst
    obtain ⟨x, hx, hxy⟩ := Option.map_eq_some_iff.1 hst.symm
    rw [hx]
    exact (congrArg (fun st : Station => linkFor st.counter) hxy.symm :)

theorem State.SegmentKept.isLost (h : s.SegmentKept u g) (a : Nat) : u.isLost g a = s.isLost g a := by
  unfold State.isLost
  rw [h.link a]

theorem State.SegmentKept.mayRead (h : s.SegmentKept u g) (a : Nat) : u.mayRead g a = s.mayRead g a := by
  unfold State.mayRead
  rw [h.fsc]

theorem State.SegmentKept.nextScan (h : s.SegmentKept u g) : u.nextScan g = s.nextScan g := by
  unfold State.nextScan State.dueCall
  rw [h.population, h.fsc]
  simp only [h.isLost]

theorem State.SegmentKept.chooseScan (h : s.SegmentKept u g) : u.chooseScan g = s.chooseScan g := by
  unfold State.chooseScan
  rw [h.fsc, h.nextScan]

theorem State.SegmentKept.chooseReadThrough (h : s.SegmentKept u g) : u.chooseReadThrough g = s.chooseReadThrough g := by
  unfold State.chooseReadThrough
  rw [h.fsc, h.chooseScan]
  simp only [h.mayRead]

theorem State.SegmentKept.chooseWrite (h : s.SegmentKept u g) : u.chooseWrite g = s.chooseWrite g := by
  have hb := h.buffer
  unfold State.chooseWrite
  rw [h.settle, h.chooseReadThrough]
  cases hu : u.buffer.get g with
  | nil =>
    rw [hu] at hb
    rw [List.map_eq_nil_iff.1 hb.symm]
  | cons e es =>
    rw [hu] at hb
    cases hs : s.buffer.get g with
    | nil => rw [hs] at hb; cases hb
    | cons x xs =>
      rw [hs] at hb
      simp only [List.map_cons, List.cons.injEq] at hb
      dsimp only
      rw [hb.1]

theorem State.SegmentKept.chooseEvent (h : s.SegmentKept u g) : u.chooseEvent g = s.chooseEvent g := by
  have hfind : ∀ sts : List Station, (sts.find? fun st => st.attention && s.mayRead g st.addr).map Station.addr =
      ((sts.map Station.seen).find? fun st => st.attention && s.mayRead g st.addr).map Station.addr := fun sts => by
    rw [List.find?_map, Option.map_map]
    rfl
  have heq : ((u.image.get g).find? fun st => st.attention && s.mayRead g st.addr).map Station.addr =
      ((s.image.get g).find? fun st => st.attention && s.mayRead g st.addr).map Station.addr := by
    rw [hfind (u.image.get g), hfind (s.image.get g), h.image]
  unfold State.chooseEvent
  simp only [h.mayRead, h.chooseWrite]
  cases hu : (u.image.get g).find? fun st => st.attention && s.mayRead g st.addr with
  | none =>
    rw [hu] at heq
    rw [Option.map_eq_none_iff.1 heq.symm]
  | some y =>
    rw [hu] at heq
    obtain ⟨x, hx, hxy⟩ := Option.map_eq_some_iff.1 heq.symm
    rw [hx]
    dsimp only
    rw [hxy]

theorem State.SegmentKept.choose (h : s.SegmentKept u g) : u.choose g = s.choose g := by
  unfold State.choose State.guardActs State.choosePoll
  rw [h.fsc, h.chooseScan, h.chooseEvent, h.nextScan]

/-! ### After a choice -/

/-- R41 for one segment. -/
def State.Settled (s : State) (g : SegId) : Prop :=
  s.phase = .running → (s.fsc.get g).activity = .free → s.choose g = .nothing

theorem State.SegmentKept.settled (h : s.SegmentKept u g) (hp : u.phase = s.phase) (hs : s.Settled g) : u.Settled g := by
  unfold State.Settled
  rw [hp, h.fsc, h.choose]
  exact hs

theorem State.setActivity_activity (s : State) (g : SegId) (a : Activity) :
    ((s.setActivity g a).fsc.get g).activity = a := by
  rw [State.setActivity, State.modFsc_fsc, PerSeg.get_modify_self]

/-- A call that starts leaves the segment busy. -/
theorem State.start_busy {c : Choice} (hend : c ≠ .endOfPass) (hnone : c ≠ .nothing) :
    ((s.start g c).fsc.get g).activity ≠ .free := by
  unfold State.start
  split
  · exact fun h => by rw [State.startJob, State.setActivity_activity] at h; cases h
  · exact fun h => by rw [State.startJob, State.setActivity_activity] at h; cases h
  · exact fun h => by rw [State.startRead, State.startJob, State.setActivity_activity] at h; cases h
  · exact fun h => by rw [State.startJob, State.setActivity_activity] at h; cases h
  · exact fun h => by rw [State.startRead, State.startJob, State.setActivity_activity] at h; cases h
  · dsimp only
    split
    · exact fun h => by rw [State.startJob, State.setActivity_activity] at h; cases h
    · exact fun h => by rw [State.startRead, State.startJob, State.setActivity_activity] at h; cases h
  · exact absurd rfl hend
  · exact absurd rfl hnone

theorem State.closePass_stopped (s : State) (g : SegId) : ((s.closePass g).fsc.get g).passRunning = false := by
  unfold State.closePass
  simp

/-- After an end of pass no pass runs, or one that has a station due a call. -/
theorem State.endPass_scan (s : State) (g : SegId) :
    ((s.endPass g).fsc.get g).passRunning = false ∨ ((s.endPass g).nextScan g).isSome = true := by
  unfold State.endPass
  dsimp only
  split
  · unfold State.startPass
    dsimp only
    split
    · next h => exact .inr h
    · exact .inl (State.closePass_stopped ..)
  · exact .inl (State.closePass_stopped ..)

theorem State.chooseScan_endOfPass (h : s.chooseScan g = .endOfPass) :
    (s.fsc.get g).passRunning = true ∧ s.nextScan g = none := by
  unfold State.chooseScan at h
  split at h
  · next hrun =>
    split at h
    · cases h
    · next hnone => exact ⟨hrun, hnone⟩
  · cases h

theorem State.choose_endOfPass (h : s.choose g = .endOfPass) : (s.fsc.get g).passRunning = true ∧ s.nextScan g = none := by
  have hread : s.chooseReadThrough g = .endOfPass → s.chooseScan g = .endOfPass := fun h => by
    unfold State.chooseReadThrough at h
    split at h
    · cases h
    · exact h
  have hwrite : s.chooseWrite g = .endOfPass → s.chooseReadThrough g = .endOfPass := fun h => by
    unfold State.chooseWrite at h
    split at h
    · split at h
      · cases h
      · exact h
    · exact h
  have hevent : s.chooseEvent g = .endOfPass → s.chooseWrite g = .endOfPass := fun h => by
    unfold State.chooseEvent at h
    split at h
    · cases h
    · exact h
  have hpoll : s.choosePoll g = .endOfPass → s.chooseEvent g = .endOfPass := fun h => by
    unfold State.choosePoll at h
    dsimp only at h
    split at h
    · cases h
    · exact h
  unfold State.choose at h
  split at h
  · cases h
  · split at h
    · exact State.chooseScan_endOfPass h
    · exact State.chooseScan_endOfPass (hread (hwrite (hevent (hpoll h))))

/-- A segment that has chosen has nothing left to choose while it is free: the end of a pass comes about at most once. -/
theorem State.arbitrate_settled (s : State) (g : SegId) : (s.arbitrate g).Settled g := by
  by_cases hacts : s.phase = .running ∧ (s.fsc.get g).activity = .free
  · rw [State.arbitrate_free hacts.1 hacts.2]
    split
    · have hend : (s.endPass g).choose g ≠ .endOfPass := fun h => by
        obtain ⟨hrun, hnone⟩ := State.choose_endOfPass h
        rcases s.endPass_scan g with hstopped | hdue
        · rw [hrun] at hstopped; cases hstopped
        · rw [hnone] at hdue; cases hdue
      by_cases hnone : (s.endPass g).choose g = .nothing
      · intro _ _
        rw [hnone]
        exact hnone
      · exact fun _ hfree => absurd hfree (State.start_busy hend hnone)
    · next hend =>
      by_cases hnone : s.choose g = .nothing
      · intro _ _
        rw [hnone]
        exact hnone
      · exact fun _ hfree => absurd hfree (State.start_busy hend hnone)
  · have hheld : s.arbitrate g = s := State.arbitrate_held fun hp hf => hacts ⟨hp, hf⟩
    rw [hheld]
    exact fun hp hf => absurd ⟨hp, hf⟩ hacts

theorem State.arbitrates_settled {gs : List SegId} (s : State) (hg : g ∈ gs) :
    (gs.foldl State.arbitrate s).Settled g := by
  induction gs generalizing s with
  | nil => cases hg
  | cons k gs ih =>
    by_cases hlater : g ∈ gs
    · exact ih _ hlater
    · have hkg : g = k := (List.mem_cons.1 hg).resolve_right hlater
      subst hkg
      have hevent : Event gs (s.arbitrate g) (gs.foldl State.arbitrate (s.arbitrate g)) :=
        .arbitrates _ fun _ hk => hk
      exact (hevent.segments g hlater).settled hevent.phase (State.arbitrate_settled s g)

theorem Ended.segmentsBusy (h : Ended s u) (hs : s.SegmentsBusy) : u.SegmentsBusy := by
  cases h with
  | still hevent _ =>
    exact fun hrun g => ((hevent.segments g List.not_mem_nil).settled hevent.phase fun hp => hs hp g) hrun
  | @whole gs w hevent =>
    have hkick : Event [] (gs.foldl State.arbitrate w) (gs.foldl State.arbitrate w).kickPorts := .kickPorts
    refine fun hrun g => ((hkick.segments g List.not_mem_nil).settled hkick.phase ?_) hrun
    by_cases hg : g ∈ gs
    · exact State.arbitrates_settled w hg
    · have harb : Event gs s (gs.foldl State.arbitrate w) := hevent.trans (.arbitrates w fun _ hk => hk)
      exact (harb.segments g hg).settled harb.phase fun hp => hs hp g

end

/-! ### While the settings load runs (R44) -/

/-- Everything that R44 speaks of is as it was, the attention lines apart. -/
structure State.HeldKept (s u : State) : Prop where
  phase : u.phase = s.phase := by exact rfl
  settings : u.settings = s.settings := by exact rfl
  overrides : u.overrides = s.overrides := by exact rfl
  fsc : ∀ g, ∃ line, u.fsc.get g = { s.fsc.get g with lineAsserted := line } := by exact fun _ => ⟨_, rfl⟩
  buffer : u.buffer = s.buffer := by exact rfl
  settle : u.settle = s.settle := by exact rfl
  image : u.image = s.image := by exact rfl
  overrun : ∀ g, u.hasFault (.passOverrun g) = s.hasFault (.passOverrun g) := by exact fun _ => rfl

section
variable {s u t : State} {p : PortId}

theorem State.HeldKept.refl (s : State) : s.HeldKept s where

theorem State.HeldKept.trans (h : s.HeldKept u) (k : u.HeldKept t) : s.HeldKept t where
  phase := k.phase.trans h.phase
  settings := k.settings.trans h.settings
  overrides := k.overrides.trans h.overrides
  fsc g := by
    obtain ⟨x, hx⟩ := h.fsc g
    obtain ⟨y, hy⟩ := k.fsc g
    exact ⟨y, by rw [hy, hx]⟩
  buffer := k.buffer.trans h.buffer
  settle := k.settle.trans h.settle
  image := k.image.trans h.image
  overrun g := (k.overrun g).trans (h.overrun g)

theorem State.HeldKept.held (h : s.HeldKept u) (hs : s.SegmentsHeld) : u.SegmentsHeld := by
  intro hl
  obtain ⟨hoverrides, hsegments⟩ := hs (h.phase.symm.trans hl)
  refine ⟨h.overrides.trans hoverrides, fun g => ?_⟩
  obtain ⟨hfsc, hbuffer, hsettle, himage, hfault⟩ := hsegments g
  obtain ⟨line, hline⟩ := h.fsc g
  rw [hline, h.buffer, h.settle, h.image, h.settings, h.overrun]
  exact ⟨hfsc, hbuffer, hsettle, himage, hfault⟩

theorem State.HeldKept.setFault {f : FaultFlag} (hf : ∀ g, FaultFlag.passOverrun g ≠ f) : s.HeldKept (s.setFault f) where
  phase := by simp
  settings := by simp
  overrides := by simp
  fsc g := ⟨(s.fsc.get g).lineAsserted, by simp⟩
  buffer := by simp
  settle := by simp
  image := by simp
  overrun g := by rw [State.setFault_hasFault, FaultFlag.mask_other_bit (hf g), Bool.or_false]

theorem State.HeldKept.setFaultIf {cause : Bool} {f : FaultFlag} (hf : ∀ g, FaultFlag.passOverrun g ≠ f) :
    s.HeldKept (s.setFaultIf cause f) := by
  cases cause
  · exact .refl s
  · exact .setFault hf

theorem State.HeldKept.notifyIf {cause : Bool} {b : NoticeBit} : s.HeldKept (s.notifyIf cause b) := by
  cases cause
  · exact .refl s
  · exact {}

theorem State.HeldKept.recomputeMerge {l : LoopId} : s.HeldKept (s.recomputeMerge l) := by
  unfold State.recomputeMerge
  dsimp only
  generalize mergeOf (s.settings.loop.get l) (s.held l) = m
  have hmerge : s.HeldKept (s.setMerge l m) := {}
  exact (hmerge.trans .notifyIf).trans (.setFaultIf fun _ => nofun)

theorem State.execTelegram_loading (hl : s.phase = .loading) {k : Byte} {act : Telegram → State → State} :
    s.execTelegram p k act = s := by
  rcases s.execTelegram_cases p k act with ⟨t, hready, -⟩ | heq
  · cases hl.symm.trans hready.1
  · exact heq

theorem State.headTelegram_loading (hl : s.phase = .loading) : s.headTelegram p = none := by
  simp [State.headTelegram, hl]

/-- A command leaves what R44 speaks of as it was while the settings load runs, unless it begins a start-up or ends the
load. -/
theorem exec_held {c : Instr} (hl : s.phase = .loading) (hs : s.SegmentsHeld) (h : exec c s = .next t) :
    s.HeldKept t ∨ (∃ u : State, t = u.beginStartUp) ∨ t.phase = .running := by
  obtain ⟨hoverrides, hsegments⟩ := hs hl
  have hfree : ∀ g, (s.fsc.get g).activity = .free := fun g => (hsegments g).1.1
  have hstill : ∀ {u : State}, Host.Outcome.next (φ := Fault) (ρ := Refusal) s = .next u → s.HeldKept u := fun he => by
    cases he; exact .refl s
  have htelegram : ∀ {p : PortId} {k : Byte} {act : Telegram → State → State} {u : State},
      Host.Outcome.next (φ := Fault) (ρ := Refusal) (s.execTelegram p k act) = .next u → s.HeldKept u := fun he => by
    rw [State.execTelegram_loading hl] at he
    exact hstill he
  have hkick : ∀ {u : State}, s.HeldKept u → s.HeldKept u.kickPorts := fun hu => by
    rw [State.kickPorts_loading (hu.phase.trans hl)]
    exact hu
  cases c with
  | powerOn => cases h; exact .inr (.inl ⟨s, rfl⟩)
  | resetPin => cases h; exact .inr (.inl ⟨s, rfl⟩)
  | settingsLoadEnd image =>
    change execSettingsLoadEnd image s = .next t at h
    unfold execSettingsLoadEnd at h
    rw [hl] at h
    cases h
    exact .inr (.inr (by rw [((State.startUp_ended ..).event).choose_spec.phase, State.runWith_frame]))
  | takeFrame p chars =>
    change execTakeFrame p chars s = .next t at h
    unfold execTakeFrame at h
    rw [hl] at h
    exact .inl (hstill h)
  | frameGapTimeout p =>
    change execFrameGapTimeout p s = .next t at h
    unfold execFrameGapTimeout at h
    split at h
    · cases h
      exact .inl (hkick (.trans (u := s.receiveInto p none) {} (.setFault fun _ => nofun)))
    · exact .inl (hstill h)
  | unknownKind p =>
    change execUnknownKind p s = .next t at h
    unfold execUnknownKind at h
    rw [State.headTelegram_loading hl] at h
    exact .inl (hstill h)
  | saveEnd acknowledged readBack =>
    change execSaveEnd acknowledged readBack s = .next t at h
    unfold execSaveEnd at h
    split at h
    · cases h
      exact .inl (hkick (.trans (u := s.setSaving none) {} (.setFaultIf fun _ => nofun)))
    · exact .inl (hstill h)
  | transmitterFrameDone p =>
    change execTransmitterFrameDone p s = .next t at h
    unfold execTransmitterFrameDone at h
    split at h
    · cases h
      unfold State.frameLeft
      split
      · exact .inl (hkick {})
      · rw [State.beginStartUp_kickPorts]
        exact .inr (.inl ⟨_, rfl⟩)
      · exact .inl (hkick {})
    · exact .inl (hstill h)
  | noticeSpacingExpiry p =>
    change execNoticeSpacingExpiry p s = .next t at h
    unfold execNoticeSpacingExpiry at h
    split at h
    · cases h; exact .inl (hkick {})
    · exact .inl (hstill h)
  | passTimerExpiry g =>
    change execPassTimerExpiry g s = .next t at h
    unfold execPassTimerExpiry at h
    obtain ⟨⟨-, -, -, -, htimer, -⟩, -⟩ := hsegments g
    rw [htimer] at h
    exact .inl (hstill h)
  | responseTaken g chars =>
    change execResponseTaken g chars s = .next t at h
    unfold execResponseTaken at h
    rw [hfree g] at h
    exact .inl (hstill h)
  | responseWindowExpiry g =>
    change execResponseWindowExpiry g s = .next t at h
    unfold execResponseWindowExpiry State.windowExpired at h
    rw [hfree g] at h
    exact .inl (hstill h)
  | readyPauseExpiry g =>
    change execReadyPauseExpiry g s = .next t at h
    unfold execReadyPauseExpiry at h
    rw [hfree g] at h
    exact .inl (hstill h)
  | attentionLineChange g asserted =>
    cases h
    rw [State.arbitrate_held fun hrun => by
      rw [State.modFsc_phase, hl] at hrun
      cases hrun]
    refine .inl (hkick { fsc := fun k => ?_ })
    rw [State.modFsc_fsc, PerSeg.get_modify]
    split
    · refine ⟨asserted, ?_⟩
      simp [Fsc.lineChange, hl]
    · exact ⟨_, rfl⟩
  | attentionPollEnd g slots =>
    change execAttentionPollEnd g slots s = .next t at h
    unfold execAttentionPollEnd at h
    rw [hfree g] at h
    exact .inl (hstill h)
  | settleDeadlineExpiry g a o =>
    change execSettleDeadlineExpiry g a o s = .next t at h
    unfold execSettleDeadlineExpiry at h
    obtain ⟨-, -, hsettle, -⟩ := hsegments g
    rw [hsettle] at h
    exact .inl (hstill h)
  | icingClearExpiry =>
    change execIcingClearExpiry s = .next t at h
    unfold execIcingClearExpiry at h
    split at h
    · next d _ =>
      cases h
      refine .inl (hkick ?_)
      unfold State.icingExpired
      have hcleared : s.HeldKept (((s.advanceTo d).clearIcing .fs0).clearIcing .fs1) := {}
      exact (hcleared.trans .notifyIf).trans {}
    · exact .inl (hstill h)
  | rotationExpiry l =>
    change execRotationExpiry l s = .next t at h
    unfold execRotationExpiry at h
    split at h
    · cases h; exact .inl {}
    · exact .inl (hstill h)
  | requestExpiry p l =>
    change execRequestExpiry p l s = .next t at h
    unfold execRequestExpiry at h
    split at h
    · split at h
      · cases h
        refine .inl (hkick ?_)
        have hemptied : s.HeldKept ((s.advanceTo l.moment).modSlot p l.what none) := {}
        exact (hemptied.trans (.setFault (f := .requestExpired) fun _ => nofun)).trans .recomputeMerge
      · exact .inl (hstill h)
    · exact .inl (hstill h)
  | overrideExpiry n =>
    change execOverrideExpiry n s = .next t at h
    unfold execOverrideExpiry at h
    rw [hoverrides] at h
    exact .inl (hstill h)
  | readPoint | readStation | readStatus | readFaults | readOverrides | readSetting | postRequest | withdrawRequest |
    fence | setOverride | releaseOverride | map | unmap | flush | probeByAddress | probeByIndex | markStale |
    writeSetting | saveSettings | restart => exact .inl (htelegram h)

/-- The state a start-up begins with stands as R44 gives. -/
theorem State.beginStartUp_held (s : State) : s.beginStartUp.SegmentsHeld := by
  refine fun _ => ⟨rfl, fun g => ?_⟩
  have hclear : s.beginStartUp.hasFault (.passOverrun g) = false := BitVec.getLsbD_zero
  cases g <;> exact ⟨⟨rfl, rfl, rfl, rfl, rfl, rfl, rfl, rfl, rfl, rfl⟩, rfl, rfl, rfl, hclear⟩

theorem step_held (hs : s.SegmentsHeld) (h : step s = .next t) : t.SegmentsHeld := by
  unfold step at h
  split at h
  · cases h
    exact State.HeldKept.held (s := s) {} hs
  · next c rest _ =>
    have hrest : State.SegmentsHeld { s with pending := rest } := hs
    cases hp : s.phase with
    | loading =>
      rcases exec_held (s := { s with pending := rest }) hp hrest h with hkept | ⟨u, rfl⟩ | hrun
      · exact hkept.held hrest
      · exact u.beginStartUp_held
      · exact fun hl => by rw [hrun] at hl; cases hl
    | running =>
      obtain ⟨u, hu, hexec⟩ := exec_executed c { s with pending := rest }
      rw [h] at hu
      cases hu
      cases hexec with
      | ended hend =>
        obtain ⟨gs, hevent⟩ := hend.event
        have hrun : t.phase = .running := hevent.phase.trans hp
        exact fun hl => by rw [hrun] at hl; cases hl
      | started => exact State.beginStartUp_held _
      | loaded hc hl => cases hl.symm.trans hp

/-- A part that has just loaded its settings has set both its segments to work. -/
theorem State.startUp_segmentsBusy (s : State) (st : Settings) (defaulted : Bool) :
    (s.startUp st defaulted).SegmentsBusy := by
  intro hrun g
  have hkick : Event [] _ (s.startUp st defaulted) := .kickPorts
  refine ((hkick.segments g List.not_mem_nil).settled hkick.phase ?_) hrun
  exact State.arbitrates_settled (gs := [.fs0, .fs1]) _ (by cases g <;> simp)

theorem step_segmentsBusy (hs : s.SegmentsBusy) (h : step s = .next t) : t.SegmentsBusy := by
  unfold step at h
  split at h
  · cases h
    exact (Ended.still (u := s.tick) { now := Nat.le_succ _ } rfl).segmentsBusy hs
  · next c rest _ =>
    obtain ⟨u, hu, hexec⟩ := exec_executed c { s with pending := rest }
    rw [h] at hu
    cases hu
    cases hexec with
    | ended hend => exact hend.segmentsBusy hs
    | started => exact nofun
    | loaded => exact State.startUp_segmentsBusy _ _ _

/-- Settles O22: a segment chooses for as long as it is free, and one that no command sets to work keeps everything its
choice depends on; while the load runs nothing that R44 speaks of changes. -/
theorem stepKeepsSegments : Obligations.StepKeepsSegments := fun _ _ h =>
  ⟨fun hs => step_segmentsBusy hs h, fun hs => step_held hs h⟩

end

end Sys2Proof.Machine
end

section
/-! The machine's step, the state right after reset, and the two start-ups that begin at any moment (R160, R162); and that no
address matches two entries of a formed map. -/

namespace Sys2Proof.Machine

/-- Settles O1. -/
theorem stepRunsFrontCommand : Obligations.StepRunsFrontCommand := by
  refine fun s => ⟨fun c rest h => ?_, fun h => ?_⟩
  · rw [step, h]
  · have htick : step s = .next s.tick := by rw [step, h]
    exact htick

/-- Settles O2: a command is an event, after which segments choose and transmitters start, or a start-up. -/
theorem execKeepsQueueAndTime : Obligations.ExecKeepsQueueAndTime := by
  intro c s
  obtain ⟨t, hexec, hrun⟩ := exec_executed c s
  refine ⟨t, hexec, ?_⟩
  cases hrun with
  | ended hend =>
    obtain ⟨gs, hevent⟩ := hend.event
    exact ⟨hevent.pending, hevent.now⟩
  | started => exact ⟨rfl, Nat.le_refl _⟩
  | @loaded image =>
    obtain ⟨gs, hevent⟩ := (s.startUp_ended (loadSettings image).1 (loadSettings image).2).event
    obtain ⟨hpending, hnow⟩ : (s.runWith (loadSettings image).1 (loadSettings image).2).pending = s.pending ∧
        (s.runWith (loadSettings image).1 (loadSettings image).2).now = s.now := by
      rw [State.runWith_frame]
      exact ⟨rfl, rfl⟩
    exact ⟨hevent.pending.trans hpending, hnow ▸ hevent.now⟩

/-- Settles O3: reset is evaluated block by block. -/
theorem resetState : Obligations.ResetState := by
  refine ⟨rfl, rfl, rfl, rfl, rfl, rfl, rfl, rfl, rfl, fun p => ?port, fun p l => ?slot, fun g => ?segment⟩
  case port => cases p <;> exact ⟨rfl, rfl, rfl, rfl, rfl⟩
  case slot => cases p <;> cases l <;> exact ⟨rfl, rfl⟩
  case segment => cases g <;> decide

/-- Settles O4: the default settings are sound, so that the state made from them is; its load runs, so that its ports and
segments are held and none of them has anything to do. -/
theorem resetIsSafe : Obligations.ResetIsSafe :=
  have hsound : State.reset.Sound := State.fresh_sound Settings.default_sound
  { hsound with
    transmitters := nofun
    segments := nofun
    held := State.reset.beginStartUp_held }

/-- Settles O5: both begin the same start-up, which reads the time base, the waiting commands and the lines alone. -/
theorem powerOnAndResetPinBeginLoad : Obligations.PowerOnAndResetPinBeginLoad := by
  intro c s hc
  have hexec : exec c s = .next s.beginStartUp := by rcases hc with rfl | rfl <;> rfl
  refine ⟨_, hexec, rfl, rfl, rfl, rfl, rfl, fun p => ?_⟩
  cases p <;> exact ⟨rfl, rfl, rfl, rfl, rfl, rfl, rfl⟩

/-- Settles O24: two entries that serve the port and cover the address would overlap. -/
theorem translationIsUnambiguous : Obligations.TranslationIsUnambiguous :=
  fun _ hs _ _ _ _ he hf heserves hfserves hecovers hfcovers =>
    hs.covering_unique he hf heserves hfserves hecovers hfcovers

end Sys2Proof.Machine
end

section
/-! The arithmetic of the part on plain values: the merge (R84), the send filter with the override status derived from it (R72,
R134), freeze protection (R47 to R59), and the demand index with its ladder (R94 to R99). -/

namespace Sys2Proof.Machine

/-! ### The merge (R84) -/

/-- A fold with `min` ends in the least of the start and the values met. -/
theorem isLeast_foldl_min {α β : Type} [LinearOrder β] (f : α → β) (xs : List α) (b : β) :
    IsLeast (insert b (f '' {x | x ∈ xs})) (xs.foldl (fun y x => min y (f x)) b) := by
  induction xs generalizing b with
  | nil => simp [IsLeast, lowerBounds]
  | cons x xs ih =>
    obtain ⟨hmem, hle⟩ := ih (min b (f x))
    have hstart : ∀ y ∈ insert b (f '' {z | z ∈ x :: xs}), (y = b ∨ y = f x) ∨ y ∈ f '' {z | z ∈ xs} := by
      rintro y (rfl | ⟨z, hz, rfl⟩)
      · exact .inl (.inl rfl)
      · rcases List.mem_cons.1 hz with rfl | hz
        · exact .inl (.inr rfl)
        · exact .inr ⟨z, hz, rfl⟩
    have hmin := hle (Set.mem_insert _ _)
    refine ⟨?_, fun y hy => ?_⟩
    · rcases hmem with heq | ⟨z, hz, heq⟩
      · rcases min_choice b (f x) with hb | hx
        · exact .inl (heq.trans hb)
        · exact .inr ⟨x, List.mem_cons_self, (heq.trans hx).symm⟩
      · exact .inr ⟨z, List.mem_cons_of_mem _ hz, heq⟩
    · rcases hstart y hy with (rfl | rfl) | hy
      · exact hmin.trans (min_le_left _ _)
      · exact hmin.trans (min_le_right _ _)
      · exact hle (Set.mem_insert_of_mem _ hy)

/-- The values some requests have. -/
def valuesOf (f : Request → Int) (rs : List Request) : Set Int := f '' {r | r ∈ rs}

theorem valuesOf_cons (f : Request → Int) (r : Request) (rs : List Request) :
    valuesOf f (r :: rs) = insert (f r) (valuesOf f rs) := by
  ext y
  simp [valuesOf, eq_comm]

theorem valuesOf_perm {f : Request → Int} {rs qs : List Request} (h : rs.Perm qs) : valuesOf f rs = valuesOf f qs := by
  simp only [valuesOf, h.mem_iff]

theorem lowestCeiling_isLeast (r : Request) (rs : List Request) :
    IsLeast (valuesOf Request.ceiling (r :: rs)) (lowestCeiling r rs) := by
  rw [valuesOf_cons]; exact isLeast_foldl_min Request.ceiling rs _

theorem lowestTarget_isLeast (r : Request) (rs : List Request) :
    IsLeast (valuesOf Request.target (r :: rs)) (lowestTarget r rs) := by
  rw [valuesOf_cons]; exact isLeast_foldl_min Request.target rs _

theorem highestFloor_isGreatest (r : Request) (rs : List Request) :
    IsGreatest (valuesOf Request.floor (r :: rs)) (highestFloor r rs) := by
  rw [valuesOf_cons]; exact isLeast_foldl_min (β := Intᵒᵈ) (fun q => OrderDual.toDual q.floor) rs _

/-- Two lists of the same requests have the same lowest ceiling, highest floor and lowest target. -/
theorem extremes_perm {r q : Request} {rs qs : List Request} (h : (r :: rs).Perm (q :: qs)) :
    lowestCeiling q qs = lowestCeiling r rs ∧ highestFloor q qs = highestFloor r rs ∧
      lowestTarget q qs = lowestTarget r rs := by
  have hsame : ∀ f, valuesOf f (q :: qs) = valuesOf f (r :: rs) := fun f => (valuesOf_perm h).symm
  refine ⟨?_, ?_, ?_⟩
  · exact (hsame _ ▸ lowestCeiling_isLeast q qs).unique (lowestCeiling_isLeast r rs)
  · exact (hsame _ ▸ highestFloor_isGreatest q qs).unique (highestFloor_isGreatest r rs)
  · exact (hsame _ ▸ lowestTarget_isLeast q qs).unique (lowestTarget_isLeast r rs)

theorem mergeOf_perm (d : LoopSettings) {rs qs : List Request} (h : rs.Perm qs) : mergeOf d qs = mergeOf d rs := by
  cases rs with
  | nil => rw [h.nil_eq]
  | cons r rs =>
    cases qs with
    | nil => exact absurd h.symm.nil_eq (by simp)
    | cons q qs =>
      obtain ⟨hceiling, hfloor, htarget⟩ := extremes_perm h
      simp only [mergeOf, hceiling, hfloor, htarget]

/-- Settles O36: the three folds end in the extremes, which do not depend on the order; the clash is a floor above the ceiling. -/
theorem mergeRule : Obligations.MergeRule := by
  refine fun d => ⟨rfl, fun rs hrs => ?_⟩
  cases rs with
  | nil => exact absurd rfl hrs
  | cons r rs =>
    obtain ⟨⟨rc, hrc, hrceq⟩, hceiling⟩ := lowestCeiling_isLeast r rs
    obtain ⟨⟨rf, hrf, hrfeq⟩, hfloor⟩ := highestFloor_isGreatest r rs
    obtain ⟨⟨rt, hrt, hrteq⟩, htarget⟩ := lowestTarget_isLeast r rs
    refine ⟨⟨⟨rc, hrc, hrceq⟩, fun q hq => hceiling ⟨q, hq, rfl⟩⟩, fun hclear => ?floor, fun hclash => ?clash, ?between,
      ⟨rt, hrt, fun q hq => hrteq ▸ htarget ⟨q, hq, rfl⟩, by rw [hrteq]; rfl⟩, fun qs hperm => mergeOf_perm d hperm⟩
    case floor =>
      have horder : ¬lowestCeiling r rs < highestFloor r rs := by simpa [mergeOf] using hclear
      simp only [mergeOf, if_neg horder]
      exact ⟨⟨rf, hrf, hrfeq⟩, fun q hq => hfloor ⟨q, hq, rfl⟩⟩
    case clash =>
      have horder : lowestCeiling r rs < highestFloor r rs := by simpa [mergeOf] using hclash
      simp only [mergeOf, if_pos horder]
      refine ⟨trivial, ?_, rf, hrf, hrfeq ▸ horder⟩
      have := clamp_bounds (Int.le_refl (lowestCeiling r rs)) (lowestTarget r rs)
      omega
    case between =>
      refine clamp_bounds ?_ _
      simp only [mergeOf]
      split <;> omega

/-! ### The send filter (R71 to R73, R134) -/

section
variable {s : State} {g : SegId} {a : Nat} {x : UnitFrost}

theorem State.sendFilter_loop (h : kindOf a = .loop) (f : Fields) :
    s.sendFilter g a f = { f with bypass := f.bypass.map fun v => min v (s.fpb.get g).bmax } := by
  rw [State.sendFilter, h]

theorem State.sendFilter_ambient (h : kindOf a = .ambient) (f : Fields) : s.sendFilter g a f = f := by
  rw [State.sendFilter, h]

theorem State.sendFilter_unit (h : kindOf a = .unit) (hx : s.unit? g a = some x) (f : Fields) :
    s.sendFilter g a f = { f with
      fan := f.fan.map (filterFan x.frost x.iced (s.settings.loop.get g).guardCap)
      valve := f.valve.map (filterValve x.frost (s.fpb.get g).permitted) } := by
  rw [State.sendFilter, h, hx]

theorem State.sendFilter_noUnit (h : kindOf a = .unit) (hx : s.unit? g a = none) (f : Fields) : s.sendFilter g a f = f := by
  rw [State.sendFilter, h, hx]

end

theorem filterFan_le (frost : FrostState) (iced : Bool) (cap v : Nat) : filterFan frost iced cap v ≤ v := by
  unfold filterFan
  split
  · exact Nat.zero_le _
  · split
    · exact Nat.min_le_left _ _
    · exact Nat.le_refl _

theorem filterFan_guard_le (iced : Bool) (cap v : Nat) : filterFan .guard iced cap v ≤ cap := by
  unfold filterFan
  split
  · exact Nat.zero_le _
  · rw [if_pos rfl]
    exact Nat.min_le_right _ _

theorem filterFan_off {frost : FrostState} {iced : Bool} (h : frost = .protect ∨ iced = true) (cap v : Nat) :
    filterFan frost iced cap v = 0 := if_pos h

theorem filterValve_toClose {frost : FrostState} {permitted : Bool} {v : ValveCmd}
    (h : filterValve frost permitted v = .toClose) : v = .toClose ∧ frost = .normal ∧ permitted = true := by
  cases v with
  | toOpen => cases h
  | toClose =>
    refine ⟨rfl, ?_⟩
    by_contra hn
    rw [filterValve, if_neg hn] at h
    cases h

theorem filterValve_eq (frost : FrostState) (permitted : Bool) (v : ValveCmd) : filterValve frost permitted v =
    if v = .toClose ∧ frost = .normal ∧ permitted = true then .toClose else .toOpen := by
  cases v <;> simp [filterValve]

/-- What the filter lets through, frost protection allows (R72, R73). -/
theorem State.sendFilter_allows (s : State) (g : SegId) (a : Nat) (f : Fields) : s.Allows g a (s.sendFilter g a f) := by
  refine ⟨fun hunit x hx => ?unit, fun hloop v hv => ?loop⟩
  case unit =>
    rw [State.sendFilter_unit hunit hx]
    refine ⟨fun v hv => ?_, fun hclose => ?_⟩
    · obtain ⟨w, -, rfl⟩ := Option.map_eq_some_iff.1 hv
      exact ⟨fun hoff => filterFan_off hoff .., fun hguard => hguard ▸ filterFan_guard_le ..⟩
    · obtain ⟨w, -, hw⟩ := Option.map_eq_some_iff.1 hclose
      exact (filterValve_toClose hw).2
  case loop =>
    rw [State.sendFilter_loop hloop] at hv
    obtain ⟨w, -, rfl⟩ := Option.map_eq_some_iff.1 hv
    exact Nat.min_le_right _ _

/-- The filter adds no field and removes none, and no field it sends is above the one posted. -/
structure Fields.Lowered (f h : Fields) : Prop where
  has : ∀ o, h.has o = f.has o
  fan : ∀ v w, f.fan = some v → h.fan = some w → w ≤ v
  bypass : ∀ v w, f.bypass = some v → h.bypass = some w → w ≤ v
  valve : h.valve = some .toClose → f.valve = some .toClose

theorem Fields.Lowered.refl (f : Fields) : f.Lowered f :=
  ⟨fun _ => rfl, fun _ _ hv hw => by rw [Option.some.inj (hv.symm.trans hw)],
    fun _ _ hv hw => by rw [Option.some.inj (hv.symm.trans hw)], id⟩

theorem State.sendFilter_lowered (s : State) (g : SegId) (a : Nat) (f : Fields) : f.Lowered (s.sendFilter g a f) := by
  cases hkind : kindOf a with
  | ambient => rw [State.sendFilter_ambient hkind]; exact .refl f
  | loop =>
    rw [State.sendFilter_loop hkind]
    refine { Fields.Lowered.refl f with has := fun o => ?_, bypass := fun v w hv hw => ?_ }
    · cases o <;> simp [Fields.has, Fields.get?]
    · rw [hv] at hw
      exact Option.some.inj hw ▸ Nat.min_le_left _ _
  | unit =>
    cases hx : s.unit? g a with
    | none => rw [State.sendFilter_noUnit hkind hx]; exact .refl f
    | some x =>
      rw [State.sendFilter_unit hkind hx]
      refine { Fields.Lowered.refl f with has := fun o => ?_, fan := fun v w hv hw => ?_, valve := fun hclose => ?_ }
      · cases o <;> simp [Fields.has, Fields.get?]
      · rw [hv] at hw
        exact Option.some.inj hw ▸ filterFan_le ..
      · obtain ⟨w, hw, hfiltered⟩ := Option.map_eq_some_iff.1 hclose
        rw [hw, (filterValve_toClose hfiltered).1]

/-! The status of an override is what the filter makes of its value. -/

theorem fanStatus_applied (frost : FrostState) (iced : Bool) (cap v : Nat) :
    fanStatus frost iced cap v = .applied ↔ filterFan frost iced cap v = v := by
  unfold fanStatus filterFan
  cases frost <;> cases iced <;> simp <;> omega

theorem filterFan_of_suppressed {frost : FrostState} {iced : Bool} {cap v : Nat}
    (h : fanStatus frost iced cap v = .suppressed) : filterFan frost iced cap v = 0 := by
  unfold fanStatus at h
  split at h
  · next hoff => exact filterFan_off hoff.2 ..
  · split at h <;> cases h

theorem valveStatus_applied (frost : FrostState) (permitted : Bool) (v : ValveCmd) :
    valveStatus frost permitted v = .applied ↔ filterValve frost permitted v = v := by
  cases v with
  | toOpen => simp [valveStatus, filterValve]
  | toClose => by_cases h : frost = .normal ∧ permitted = true <;> simp [valveStatus, filterValve, h]

theorem filterValve_of_suppressed {frost : FrostState} {permitted : Bool} {v : ValveCmd}
    (h : valveStatus frost permitted v = .suppressed) : filterValve frost permitted v = .toOpen := by
  cases v with
  | toOpen => rfl
  | toClose =>
    by_cases hn : frost = .normal ∧ permitted = true
    · rw [valveStatus, if_pos hn] at h; cases h
    · rw [filterValve, if_neg hn]

theorem bypassStatus_applied (bmax v : Nat) : bypassStatus bmax v = .applied ↔ min v bmax = v := by
  unfold bypassStatus
  split
  · simp_all
  · split <;> simp <;> omega

theorem bypass_of_suppressed {bmax v : Nat} (h : bypassStatus bmax v = .suppressed) : min v bmax = 0 := by
  unfold bypassStatus at h
  split at h
  · cases h
  · split at h
    · omega
    · cases h

theorem State.overrideStatus_rule (s : State) {r : OverrideRecord}
    (hout : (kindOf r.station).hasOutput r.value.output = true) :
    (s.overrideStatus r = .applied ↔ s.sendFilter r.seg r.station r.value.fields = r.value.fields) ∧
      (s.overrideStatus r = .suppressed →
        (s.sendFilter r.seg r.station r.value.fields).get? r.value.output =
          match r.value with
          | .fan _ => some (.fan 0)
          | .valve _ => some (.valve .toOpen)
          | .bypass _ => some (.bypass 0)) := by
  unfold State.overrideStatus
  cases hv : r.value with
  | fan n =>
    have hkind : kindOf r.station = .unit := by simpa [hv, OutputValue.output] using hout
    cases hx : s.unit? r.seg r.station with
    | none => simp [State.sendFilter_noUnit hkind hx]
    | some x =>
      simp only [State.sendFilter_unit hkind hx, OutputValue.fields, Fields.none, OutputValue.output, Fields.get?]
      exact ⟨by simp [fanStatus_applied], fun h => by simp [filterFan_of_suppressed h]⟩
  | valve v =>
    have hkind : kindOf r.station = .unit := by simpa [hv, OutputValue.output] using hout
    cases hx : s.unit? r.seg r.station with
    | none => simp [State.sendFilter_noUnit hkind hx]
    | some x =>
      simp only [State.sendFilter_unit hkind hx, OutputValue.fields, Fields.none, OutputValue.output, Fields.get?]
      exact ⟨by simp [valveStatus_applied], fun h => by simp [filterValve_of_suppressed h]⟩
  | bypass n =>
    have hkind : kindOf r.station = .loop := by simpa [hv, OutputValue.output] using hout
    simp only [State.sendFilter_loop hkind, OutputValue.fields, Fields.none, OutputValue.output, Fields.get?]
    exact ⟨by simp [bypassStatus_applied], fun h => by simp [bypass_of_suppressed h]⟩

/-- Settles O57. -/
theorem sendFilterRule : Obligations.SendFilterRule := by
  intro s g a f
  have hlow := s.sendFilter_lowered g a f
  refine ⟨fun hloop => State.sendFilter_loop hloop f, fun hunit x hx => ?_, s.sendFilter_allows g a f, hlow.has, hlow.fan,
    hlow.bypass, hlow.valve, fun r hout => s.overrideStatus_rule hout⟩
  rw [State.sendFilter_unit hunit hx]
  refine ⟨rfl, fun v hv => ?_, fun v hv => ?_⟩
  · simp only [hv, Option.map_some, filterFan]
  · simp only [hv, Option.map_some, filterValve_eq]

/-! ### Freeze protection (R47 to R59) -/

/-- A quotient rounded up is the least that reaches the dividend. -/
theorem ceilDiv_spec (x : Int) : x ≤ 50 * ceilDiv x 50 ∧ 50 * ceilDiv x 50 < x + 50 := by
  unfold ceilDiv
  omega

theorem getD_antitone {table : List Int} (h : table.Pairwise fun x y => y ≤ x) {i j : Nat} (hij : i ≤ j)
    (hj : j < table.length) : table.getD j 0 ≤ table.getD i 0 := by
  rw [List.getD_eq_getElem _ _ hj, List.getD_eq_getElem _ _ (by omega)]
  rcases Nat.eq_or_lt_of_le hij with rfl | hlt
  · exact Int.le_refl _
  · exact List.pairwise_iff_getElem.1 h i j _ _ hlt

theorem freezePoint_below {cu : Nat} (h : cu < 600) (table : List Int) :
    freezePoint table cu = table.getD (cu / 50) 0 +
      ceilDiv ((table.getD (cu / 50 + 1) 0 - table.getD (cu / 50) 0) * (cu % 50 : Nat)) 50 :=
  if_neg (by omega)

theorem freezePoint_last {cu : Nat} (h : 600 ≤ cu) (table : List Int) : freezePoint table cu = table.getD 12 0 :=
  if_pos (by omega)

section
variable {table : List Int}

/-- A fall shared out over fifty steps is at most the whole fall at each of them. -/
theorem fall_bounds {a b : Int} (h : b ≤ a) {n : Nat} (hn : n < 50) : 50 * (b - a) ≤ (b - a) * n ∧ (b - a) * n ≤ 0 := by
  constructor <;> nlinarith

theorem freezePoint_between (hlength : table.length = 13) (hsorted : table.Pairwise fun x y => y ≤ x) {cu : Nat}
    (hcu : cu < 600) : table.getD (cu / 50 + 1) 0 ≤ freezePoint table cu ∧ freezePoint table cu ≤ table.getD (cu / 50) 0 := by
  have hstep : table.getD (cu / 50 + 1) 0 ≤ table.getD (cu / 50) 0 := getD_antitone hsorted (by omega) (by omega)
  have hfall := fall_bounds hstep (Nat.mod_lt cu (by decide : 0 < 50))
  have hceil := ceilDiv_spec ((table.getD (cu / 50 + 1) 0 - table.getD (cu / 50) 0) * (cu % 50 : Nat))
  rw [freezePoint_below hcu]
  omega

theorem freezePoint_entry {i : Nat} (hi : i ≤ 12) : freezePoint table (50 * i) = table.getD i 0 := by
  rcases Nat.eq_or_lt_of_le hi with rfl | hlt
  · exact freezePoint_last (by decide) table
  · rw [freezePoint_below (by omega)]
    simp [ceilDiv]

theorem freezePoint_antitone (hlength : table.length = 13) (hsorted : table.Pairwise fun x y => y ≤ x) {c d : Nat}
    (hcd : c ≤ d) (hd : d ≤ 600) : freezePoint table d ≤ freezePoint table c := by
  rcases Nat.lt_or_ge c 600 with hc | hc
  · rcases Nat.eq_or_lt_of_le (Nat.div_le_div_right (c := 50) hcd) with hsame | hnext
    · -- between the same two entries, the shared fall grows with the concentration
      have hstep : table.getD (c / 50 + 1) 0 ≤ table.getD (c / 50) 0 := getD_antitone hsorted (by omega) (by omega)
      have hmod : ((c % 50 : Nat) : Int) ≤ (d % 50 : Nat) := by omega
      have hfall : (table.getD (c / 50 + 1) 0 - table.getD (c / 50) 0) * (d % 50 : Nat) ≤
          (table.getD (c / 50 + 1) 0 - table.getD (c / 50) 0) * (c % 50 : Nat) := by nlinarith
      have hceilc := ceilDiv_spec ((table.getD (c / 50 + 1) 0 - table.getD (c / 50) 0) * (c % 50 : Nat))
      have hceild := ceilDiv_spec ((table.getD (c / 50 + 1) 0 - table.getD (c / 50) 0) * (d % 50 : Nat))
      rw [freezePoint_below hc, freezePoint_below (by omega : d < 600), ← hsame]
      omega
    · have hbelow := (freezePoint_between hlength hsorted hc).1
      have hentry : table.getD (d / 50) 0 ≤ table.getD (c / 50 + 1) 0 := getD_antitone hsorted hnext (by omega)
      rcases Nat.lt_or_ge d 600 with hd' | hd'
      · exact ((freezePoint_between hlength hsorted hd').2.trans hentry).trans hbelow
      · obtain rfl : d = 600 := by omega
        rw [freezePoint_last (Nat.le_refl _)]
        exact hentry.trans hbelow
  · obtain rfl : c = d := by omega
    exact Int.le_refl _

end

theorem frostNext_normal (m : Int) : (frostNext .normal m = .normal ↔ 30 ≤ m) ∧
    (frostNext .normal m = .guard ↔ 0 ≤ m ∧ m < 30) ∧ (frostNext .normal m = .protect ↔ m < 0) := by
  have heq : frostNext .normal m = if 30 ≤ m then .normal else if 0 ≤ m then .guard else .protect := rfl
  rw [heq]
  split
  · simp; omega
  · split <;> simp <;> omega

theorem frostNext_guard (m : Int) : (frostNext .guard m = .normal ↔ 50 ≤ m) ∧
    (frostNext .guard m = .guard ↔ 0 ≤ m ∧ m < 50) ∧ (frostNext .guard m = .protect ↔ m < 0) := by
  have heq : frostNext .guard m = if 50 ≤ m then .normal else if 0 ≤ m then .guard else .protect := rfl
  rw [heq]
  split
  · simp; omega
  · split <;> simp <;> omega

theorem frostNext_protect (m : Int) : (frostNext .protect m = .guard ↔ 20 ≤ m) ∧
    (frostNext .protect m = .protect ↔ m < 20) ∧ frostNext .protect m ≠ .normal := by
  have heq : frostNext .protect m = if 20 ≤ m then .guard else .protect := rfl
  rw [heq]
  split <;> simp <;> omega

theorem coilMargin_bounds (outlet fp g : Int) : -999 ≤ coilMargin outlet fp g ∧ coilMargin outlet fp g ≤ 999 :=
  clamp_bounds (by decide) _

/-- Settles O58. -/
theorem freezeArithmetic : Obligations.FreezeArithmetic := by
  refine ⟨fun m => ⟨frostNext_normal m, frostNext_guard m, (frostNext_protect m).1, (frostNext_protect m).2.1⟩,
    fun table hlength hsorted => ⟨fun cu hcu => ?_, fun i => freezePoint_entry, fun c d =>
      freezePoint_antitone hlength hsorted⟩, fun m => ⟨?_, ?_, (frostNext_protect m).2.2⟩, fun outlet fp g =>
    ⟨(coilMargin_bounds ..).1, (coilMargin_bounds ..).2, fun _ _ _ _ _ _ => ?_⟩⟩
  · obtain ⟨hlow, hhigh⟩ := freezePoint_between hlength hsorted hcu
    have hceil := ceilDiv_spec ((table.getD (cu / 50 + 1) 0 - table.getD (cu / 50) 0) * (cu % 50 : Nat))
    have heq := freezePoint_below hcu table
    exact ⟨hlow, hhigh, by omega, by omega⟩
  · rw [ne_eq, (frostNext_normal m).1]; simp [isolationNext]
  · rw [(frostNext_guard m).1]; simp [isolationNext]
  · unfold coilMargin marginOver clamp
    omega

/-! ### The demand index and the ladder (R94 to R99) -/

theorem roundBy64_spec (x : Int) : (2 * (64 * roundBy64 x - x)).natAbs ≤ 64 ∧
    ((2 * (64 * roundBy64 x - x)).natAbs = 64 → (0 < x → x < 64 * roundBy64 x) ∧ (x < 0 → 64 * roundBy64 x < x)) := by
  unfold roundBy64
  split <;> omega

theorem demandNext_eq (d : Nat) (inc : Int) :
    (demandNext d inc : Int) = max 0 (min 1000 ((d : Int) + roundBy64 inc)) := by
  unfold demandNext clamp
  omega

section
variable {d n kMin smin bmax : Nat}

theorem ladder_below (h : d < 200) : ladder d n kMin smin bmax =
    { n := n, kMin := kMin, k := kMin, speed := 0, bypass := min ((200 - d) * 5) bmax } := if_pos h

theorem ladder_above (h : 200 ≤ d) : ladder d n kMin smin bmax =
    { n := n, kMin := kMin, k := min n (kMin + ((n - kMin) * (d - 200) + 399) / 400)
      speed := if 0 < (d - 200) * 5 / 4 ∧ (d - 200) * 5 / 4 < smin then smin else (d - 200) * 5 / 4
      bypass := 0 } := if_neg (by omega)

theorem ladder_k_bounds (h : kMin ≤ n) : kMin ≤ (ladder d n kMin smin bmax).k ∧ (ladder d n kMin smin bmax).k ≤ n := by
  rcases Nat.lt_or_ge d 200 with hd | hd
  · rw [ladder_below hd]; exact ⟨Nat.le_refl _, h⟩
  · rw [ladder_above hd]; dsimp only; omega

theorem ladder_k_mono {d' : Nat} (h : kMin ≤ n) (hd : d ≤ d') :
    (ladder d n kMin smin bmax).k ≤ (ladder d' n kMin smin bmax).k := by
  rcases Nat.lt_or_ge d 200 with hlow | hhigh
  · rw [ladder_below hlow]; exact (ladder_k_bounds h).1
  · rw [ladder_above hhigh, ladder_above (hhigh.trans hd)]
    have hshare : (n - kMin) * (d - 200) ≤ (n - kMin) * (d' - 200) := Nat.mul_le_mul_left _ (by omega)
    dsimp only
    omega

theorem ladder_full (h : kMin ≤ n) (hd : 600 ≤ d) : (ladder d n kMin smin bmax).k = n := by
  have hshare : (n - kMin) * 400 ≤ (n - kMin) * (d - 200) := Nat.mul_le_mul_left _ (by omega)
  rw [ladder_above (by omega)]
  dsimp only
  omega

theorem ladder_speed_le (h : d ≤ 1000) (hs : smin ≤ 1000) : (ladder d n kMin smin bmax).speed ≤ 1000 := by
  rcases Nat.lt_or_ge d 200 with hlow | hhigh
  · rw [ladder_below hlow]; exact Nat.zero_le _
  · rw [ladder_above hhigh]; dsimp only; split <;> omega

end

/-- Settles O59. -/
theorem allocatorArithmetic : Obligations.AllocatorArithmetic := by
  refine ⟨roundBy64_spec, demandNext_eq, fun d d' n kMin smin bmax hd _ hk hsmin =>
    ⟨ladder_k_bounds hk, ladder_k_mono hk, fun hlow => ?_, fun hhigh => ?_, ladder_full hk, ladder_speed_le hd⟩⟩
  · rw [ladder_below hlow]; exact ⟨rfl, rfl, rfl⟩
  · rw [ladder_above hhigh]
    generalize (n - kMin) * (d - 200) = share
    refine ⟨rfl, ?_, fun hne => ?_, fun c hbelow habove => ?_, fun q hlow hnext => ?_⟩ <;> dsimp only
    · split <;> omega
    · split <;> omega
    · omega
    · split <;> split <;> omega

end Sys2Proof.Machine
end

section
/-! What a step leaves in flight: a WRITE that was in flight before, with the values it had, or one that has just started with
what the send filter lets through (R72, R112). -/

namespace Sys2Proof.Machine

section
variable {s u t : State} {g h : SegId} {a : Nat}

/-! ### What leaves the call on a segment alone -/

theorem State.leaveReadThroughs_activity (s : State) (g : SegId) (leaves : ReadThrough → Bool) :
    ((s.leaveReadThroughs g leaves).fsc.get h).activity = (s.fsc.get h).activity := by
  have hfold : ∀ (es : List ReadThrough) (u : State),
      (es.foldl (fun t e => t.replyReadThrough g e) u).fsc = u.fsc := by
    intro es
    induction es with
    | nil => exact fun u => rfl
    | cons e es ih => exact fun u => (ih _).trans (by simp)
  unfold State.leaveReadThroughs
  dsimp only
  rw [hfold, State.modFsc_fsc, PerSeg.get_modify]
  split
  · next heq => subst heq; rfl
  · rfl

theorem State.modFsc_activity {f : Fsc → Fsc} (s : State) (g : SegId)
    (hf : ∀ x, (f x).activity = x.activity := by exact fun _ => rfl) :
    ((s.modFsc g f).fsc.get h).activity = (s.fsc.get h).activity := by
  rw [State.modFsc_fsc, PerSeg.get_modify]
  split
  · next heq => subst heq; exact hf _
  · rfl

theorem State.closePass_activity (s : State) (g : SegId) :
    ((s.closePass g).fsc.get h).activity = (s.fsc.get h).activity := by
  simpa [State.closePass] using State.modFsc_activity (h := h) (f := fun f => { f with passRunning := false }) s g

theorem State.openPass_activity (s : State) (g : SegId) :
    ((s.openPass g).fsc.get h).activity = (s.fsc.get h).activity :=
  s.modFsc_activity g

theorem State.startPass_activity (s : State) (g : SegId) :
    ((s.startPass g).fsc.get h).activity = (s.fsc.get h).activity := by
  unfold State.startPass
  dsimp only
  split
  · exact s.openPass_activity g
  · exact ((s.openPass g).closePass_activity g).trans (s.openPass_activity g)

theorem State.endPass_activity (s : State) (g : SegId) :
    ((s.endPass g).fsc.get h).activity = (s.fsc.get h).activity := by
  unfold State.endPass
  dsimp only
  split
  · exact ((s.closePass g).startPass_activity g).trans (s.closePass_activity g)
  · exact s.closePass_activity g

theorem State.dealtWith_activity (s : State) (g : SegId) (a : Nat) :
    ((s.dealtWith g a).fsc.get h).activity = (s.fsc.get h).activity := by
  unfold State.dealtWith
  split
  · exact s.modFsc_activity g
  · exact (State.endPass_activity _ g).trans (s.modFsc_activity g)

theorem State.endRead_activity (s : State) (g : SegId) (j : ReadJob) :
    ((s.endRead g j).fsc.get h).activity = (s.fsc.get h).activity := by
  unfold State.endRead
  dsimp only
  split
  · exact (State.dealtWith_activity _ g _).trans (s.leaveReadThroughs_activity g _)
  · exact s.leaveReadThroughs_activity g _
  · exact s.leaveReadThroughs_activity g _

/-- A post changes no entry IN FLIGHT (R111). -/
theorem State.post_flying (s : State) (g : SegId) (a : Nat) (f : Fields) (origin : Option PortId) :
    (s.post g a f origin).flyingFields h = s.flyingFields h := by
  unfold State.flyingFields State.post
  rw [State.modBuffer_buffer, PerSeg.get_modify]
  by_cases heq : h = g
  · rw [if_pos heq]
    cases s.buffer.get h with
    | nil => rfl
    | cons e es =>
      by_cases hopen : e.station = a ∧ e.state = .waiting
      · have hmerged : mergePost a f origin (e :: es) = { e with
            posted := f.over e.posted, origins := e.origins.union (originSet origin) } :: es := if_pos hopen
        rw [hmerged]
      · simp only [mergePost, if_neg hopen]
  · rw [if_neg heq]

theorem State.allocatorPost_flying (s : State) (g : SegId) (a : Nat) (f : Fields) :
    (s.allocatorPost g a f).flyingFields h = s.flyingFields h := s.post_flying g a f none

theorem State.flyingFields_eq (hb : u.buffer = s.buffer) : u.flyingFields h = s.flyingFields h := by
  unfold State.flyingFields
  rw [hb]

theorem foldl_flying {α : Type} {f : State → α → State} (hf : ∀ s x, (f s x).flyingFields h = s.flyingFields h) (xs : List α)
    (s : State) : (xs.foldl f s).flyingFields h = s.flyingFields h := by
  induction xs generalizing s with
  | nil => rfl
  | cons x xs ih => exact (ih _).trans (hf s x)

theorem State.runPosts_flying (s : State) (g : SegId) : (s.runPosts g).flyingFields h = s.flyingFields h := by
  refine foldl_flying (fun s c => ?_) _ s
  unfold State.runPost
  dsimp only
  split
  · rfl
  · exact s.allocatorPost_flying g _ _

theorem State.deliverWaiting_flying (s : State) (g : SegId) : (s.deliverWaiting g).flyingFields h = s.flyingFields h :=
  foldl_flying (f := State.postRecord) (fun s _ => s.post_flying ..) _ s

theorem State.closePass_flying (s : State) (g : SegId) : (s.closePass g).flyingFields h = s.flyingFields h := by
  refine (State.deliverWaiting_flying _ g).trans ?_
  unfold State.allocationRun
  dsimp only
  split
  · exact State.flyingFields_eq (by simp)
  · exact (State.runPosts_flying _ g).trans (State.flyingFields_eq (by simp))

theorem State.startPass_flying (s : State) (g : SegId) : (s.startPass g).flyingFields h = s.flyingFields h := by
  unfold State.startPass
  dsimp only
  split
  · rfl
  · exact (s.openPass g).closePass_flying g

theorem State.handBack_flying (s : State) (g : SegId) (a : Nat) (o : OutputId) :
    (s.handBack g a o).flyingFields h = s.flyingFields h := by
  unfold State.handBack
  split
  · split
    · exact s.allocatorPost_flying g a _
    · rfl
  · rfl

theorem State.deliverSet_flying (s : State) (r : OverrideRecord) : (s.deliverSet r).flyingFields h = s.flyingFields h := by
  unfold State.deliverSet
  split
  · exact s.post_flying ..
  · rfl

/-! ### Writes kept in flight -/

/-- What is writing afterwards was writing before, with the same values. -/
structure State.WritesKept (s u : State) : Prop where
  call : ∀ g a, u.writing g = some a → s.writing g = some a ∧ u.flyingFields g = s.flyingFields g

theorem State.writing_eq_some : s.writing g = some a ↔ ∃ x, (s.fsc.get g).activity = .busy x ∧ x.job = .write a := by
  unfold State.writing
  constructor
  · intro h
    split at h
    · next x hx =>
      split at h
      · next b hb => cases h; exact ⟨x, hx, hb⟩
      · cases h
    · cases h
  · rintro ⟨x, hx, hjob⟩
    rw [hx]
    dsimp only
    rw [hjob]

theorem State.writing_congr (hact : (u.fsc.get g).activity = (s.fsc.get g).activity) : u.writing g = s.writing g := by
  unfold State.writing
  rw [hact]

theorem State.WritesKept.refl (s : State) : s.WritesKept s := ⟨fun _ _ h => ⟨h, rfl⟩⟩

theorem State.WritesKept.trans (h : s.WritesKept u) (k : u.WritesKept t) : s.WritesKept t := by
  refine ⟨fun g a ht => ?_⟩
  obtain ⟨hu, hflyu⟩ := k.call g a ht
  obtain ⟨hs, hflys⟩ := h.call g a hu
  exact ⟨hs, hflyu.trans hflys⟩

/-- An event that leaves the call and the values in flight. -/
theorem State.WritesKept.of_same (hact : ∀ h, (u.fsc.get h).activity = (s.fsc.get h).activity)
    (hfly : ∀ h, u.flyingFields h = s.flyingFields h) : s.WritesKept u :=
  ⟨fun g _ hw => ⟨(State.writing_congr (hact g)).symm.trans hw, hfly g⟩⟩

theorem State.WritesKept.of_frame (hfsc : u.fsc = s.fsc) (hbuffer : u.buffer = s.buffer) : s.WritesKept u :=
  .of_same (fun h => by rw [hfsc]) fun _ => State.flyingFields_eq hbuffer

theorem State.SegmentKept.writesKept (hk : s.SegmentKept u g) (hw : u.writing g = some a) :
    s.writing g = some a ∧ u.flyingFields g = s.flyingFields g :=
  ⟨(State.writing_congr (by rw [hk.fsc])).symm.trans hw, hk.flying⟩

theorem Event.writesKept (he : Event [] s u) : s.WritesKept u :=
  ⟨fun g _ hw => (he.segments g nofun).writesKept hw⟩

/-- What a step does to the writes in flight. -/
structure State.WritesRule (s t : State) : Prop where
  call : ∀ g a, t.writing g = some a →
    (s.writing g = some a ∧ t.flyingFields g = s.flyingFields g) ∨ t.Allows g a (t.flyingFields g)

theorem State.WritesKept.rule (h : s.WritesKept u) : s.WritesRule u := ⟨fun g a hw => .inl (h.call g a hw)⟩

theorem State.WritesKept.rule_trans (h : s.WritesKept u) (k : u.WritesRule t) : s.WritesRule t := by
  refine ⟨fun g a hw => ?_⟩
  rcases k.call g a hw with ⟨hu, hfly⟩ | hallows
  · obtain ⟨hs, hflys⟩ := h.call g a hu
    exact .inl ⟨hs, hfly.trans hflys⟩
  · exact .inr hallows

theorem State.WritesRule.kickPorts (h : s.WritesRule u) : s.WritesRule u.kickPorts := by
  unfold State.kickPorts
  split
  · exact ⟨h.call⟩
  · exact h

/-! ### The write a segment starts -/

theorem State.choose_write (h : s.choose g = .write a) : ∃ e es, s.buffer.get g = e :: es ∧ e.station = a := by
  have hscan : s.chooseScan g ≠ .write a := by
    unfold State.chooseScan
    split
    · split <;> exact nofun
    · exact nofun
  have hread : s.chooseReadThrough g ≠ .write a := by
    unfold State.chooseReadThrough
    split
    · exact nofun
    · exact hscan
  unfold State.choose at h
  split at h
  · cases h
  · split at h
    · exact absurd h hscan
    · unfold State.choosePoll at h
      dsimp only at h
      split at h
      · cases h
      · unfold State.chooseEvent at h
        split at h
        · cases h
        · unfold State.chooseWrite at h
          split at h
          · next e es heq =>
            split at h
            · cases h; exact ⟨e, es, heq, rfl⟩
            · exact absurd h hread
          · exact absurd h hread

theorem State.flyHead_flying {e : Entry} {es : List Entry} (h : s.buffer.get g = e :: es) :
    (s.flyHead g).flyingFields g = s.sendFilter g e.station e.posted := by
  unfold State.flyHead State.flyingFields
  rw [State.modBuffer_buffer, PerSeg.get_modify_self, h]

theorem State.startRead_job {w : ReadPurpose} {first : Nat} {x : Transaction}
    (hx : ((s.startRead g w a first).fsc.get g).activity = .busy x) (b : Nat) : x.job ≠ .write b := by
  rw [State.startRead, State.startJob, State.setActivity_activity] at hx
  cases hx
  exact nofun

theorem State.startJob_job {j : Job} {r n : Nat} {x : Transaction}
    (hx : ((s.startJob g j r n).fsc.get g).activity = .busy x) : x.job = j := by
  rw [State.startJob, State.setActivity_activity] at hx
  cases hx
  rfl

/-- The one choice that starts a WRITE sends the head of the buffer as the filter gives it. -/
theorem State.start_choose_allows (hfree : (s.fsc.get g).activity = .free)
    (hw : (s.start g (s.choose g)).writing g = some a) :
    (s.start g (s.choose g)).Allows g a ((s.start g (s.choose g)).flyingFields g) := by
  obtain ⟨x, hx, hjob⟩ := State.writing_eq_some.1 hw
  cases hc : s.choose g with
  | write b =>
    obtain ⟨e, es, hbuffer, rfl⟩ := State.choose_write hc
    rw [hc] at hx
    have hjobs : x.job = .write e.station := State.startJob_job hx
    rw [hjob] at hjobs
    cases hjobs
    have hfly : (s.start g (.write e.station)).flyingFields g = s.sendFilter g e.station e.posted :=
      State.flyHead_flying (s := s.starve g) hbuffer
    rw [hfly]
    exact s.sendFilter_allows g e.station e.posted
  | continuation j | poll =>
    rw [hc] at hx
    rw [State.startJob_job hx] at hjob
    cases hjob
  | event b | readThrough e =>
    rw [hc] at hx
    exact absurd hjob (State.startRead_job hx a)
  | scan b =>
    rw [hc] at hx
    unfold State.start at hx
    dsimp only at hx
    split at hx
    · rw [State.startJob_job hx] at hjob; cases hjob
    · exact absurd hjob (State.startRead_job hx a)
  | endOfPass | nothing =>
    rw [hc] at hx
    exact absurd (hfree.symm.trans hx) nofun

theorem State.arbitrate_writes (s : State) (g : SegId) : s.WritesRule (s.arbitrate g) := by
  refine ⟨fun h a hw => ?_⟩
  by_cases heq : h = g
  · subst heq
    by_cases hacts : s.phase = .running ∧ (s.fsc.get h).activity = .free
    · refine .inr ?_
      have hchosen := State.arbitrate_free hacts.1 hacts.2
      by_cases hend : s.choose h = .endOfPass
      · rw [if_pos hend] at hchosen
        rw [hchosen] at hw ⊢
        exact State.start_choose_allows ((s.endPass_activity h).trans hacts.2) hw
      · rw [if_neg hend] at hchosen
        rw [hchosen] at hw ⊢
        exact State.start_choose_allows hacts.2 hw
    · have hheld : s.arbitrate h = s := State.arbitrate_held fun hp hf => hacts ⟨hp, hf⟩
      rw [hheld] at hw ⊢
      exact .inl ⟨hw, rfl⟩
  · have hevent : Event [g] s (s.arbitrate g) := .arbitrate List.mem_cons_self
    exact .inl ((hevent.segments h (by simpa using heq)).writesKept hw)

theorem State.WritesKept.choosing (h : s.WritesKept u) (g : SegId) : s.WritesRule (u.arbitrate g) :=
  h.rule_trans (u.arbitrate_writes g)

/-! ### A station's record after a change of its segment's image -/

theorem State.station?_congr (himage : u.image.get g = s.image.get g) (a : Nat) : u.station? g a = s.station? g a := by
  unfold State.station?
  rw [himage]

theorem State.link_congr (h : u.station? g a = s.station? g a) : u.link g a = s.link g a := by
  unfold State.link
  rw [h]

theorem State.station?_modImage_map {F : Station → Station} (hF : ∀ st, (F st).addr = st.addr) (s : State) (g : SegId)
    (a : Nat) : (s.modImage g fun sts => sts.map F).station? g a = (s.station? g a).map F := by
  have hseen : (fun st : Station => st.addr == a) ∘ F = fun st => st.addr == a := funext fun st => by simp [hF]
  unfold State.station?
  rw [State.modImage_image, PerSeg.get_modify_self, List.find?_map, hseen]

theorem State.station?_modStation {f : Station → Station} (s : State) (g : SegId) (a : Nat)
    (hf : ∀ st, (f st).addr = st.addr := by exact fun _ => rfl) : (s.modStation g a f).station? g a = (s.station? g a).map f := by
  refine (State.station?_modImage_map (fun st => ?_) s g a).trans (Option.map_congr fun st hst => ?_)
  · split
    · exact hf st
    · rfl
  · have haddr : st.addr = a := by simpa using List.find?_some hst
    exact if_pos haddr

theorem State.station?_modStation_other {f : Station → Station} (s : State) (g : SegId) {a b : Nat} (hne : b ≠ a)
    (hf : ∀ st, (f st).addr = st.addr := by exact fun _ => rfl) : (s.modStation g a f).station? g b = s.station? g b := by
  refine (State.station?_modImage_map (fun st => ?_) s g b).trans ?_
  · split
    · exact hf st
    · rfl
  · cases hst : s.station? g b with
    | none => rfl
    | some st =>
      have haddr : st.addr = b := by simpa using List.find?_some hst
      exact congrArg some (if_neg fun h => hne (haddr.symm.trans h))

/-! ### The quality counter (R8, R9) -/

theorem State.enterLost_image (s : State) (g : SegId) (a : Nat) :
    (s.enterLost g a).image = (s.modStation g a fun st => { st with attention := false }).image := by
  simp [State.enterLost, State.modStation]

theorem State.enterLost_station (s : State) (g : SegId) (a : Nat) :
    (s.enterLost g a).station? g a = (s.station? g a).map fun st => { st with attention := false } :=
  (State.station?_congr (by rw [State.enterLost_image]) a).trans (State.station?_modStation s g a)

/-- A counter that is set enters LOST when the link state falls to it. -/
theorem State.setCounter_lost {c : Nat} (hlost : linkFor c = .lost) (hbefore : s.link g a ≠ .lost) : s.setCounter g a c =
    ((s.modStation g a fun st => { st with counter := c }).notifyIf (linkFor c != s.link g a) .station).enterLost g a :=
  if_pos ⟨hlost, hbefore⟩

theorem State.setCounter_notLost {c : Nat} (h : linkFor c ≠ .lost ∨ s.link g a = .lost) :
    s.setCounter g a c = (s.modStation g a fun st => { st with counter := c }).notifyIf (linkFor c != s.link g a) .station :=
  if_neg fun hlost => h.elim (fun h => h hlost.1) hlost.2

theorem State.isLost_iff : s.isLost g a = true ↔ s.link g a = .lost := by simp [State.isLost]

/-- A station whose link state is not LOST after its counter is set has not entered LOST. -/
theorem State.setCounter_of_answers {c : Nat} (h : (s.setCounter g a c).isLost g a = false) : s.setCounter g a c =
    (s.modStation g a fun st => { st with counter := c }).notifyIf (linkFor c != s.link g a) .station := by
  by_cases henters : linkFor c = .lost ∧ s.link g a ≠ .lost
  · obtain ⟨hlost, hbefore⟩ := henters
    have hstation : (s.setCounter g a c).station? g a =
        (s.station? g a).map fun st => { st with counter := c, attention := false } := by
      have hset : (State.notifyIf (s.modStation g a fun st => { st with counter := c })
          (linkFor c != s.link g a) .station).station? g a = (s.station? g a).map fun st => { st with counter := c } :=
        (State.station?_congr (by simp) a).trans (State.station?_modStation s g a)
      rw [State.setCounter_lost hlost hbefore, State.enterLost_station, hset, Option.map_map]
      rfl
    have hlink : (s.setCounter g a c).link g a = .lost := by
      unfold State.link
      rw [hstation]
      cases s.station? g a with
      | none => rfl
      | some st => exact hlost
    rw [State.isLost_iff.2 hlink] at h
    cases h
  · exact State.setCounter_notLost (by tauto)

theorem State.enterLost_activity (s : State) (g : SegId) (a : Nat) :
    ((s.enterLost g a).fsc.get h).activity = (s.fsc.get h).activity := by
  refine (State.leaveReadThroughs_activity ..).trans ?_
  simp

theorem State.setCounter_activity (s : State) (g : SegId) (a c : Nat) :
    ((s.setCounter g a c).fsc.get h).activity = (s.fsc.get h).activity := by
  by_cases henters : linkFor c = .lost ∧ s.link g a ≠ .lost
  · rw [State.setCounter_lost henters.1 henters.2, State.enterLost_activity]
    simp
  · rw [State.setCounter_notLost (by tauto)]
    simp

/-! ### The ends of an attempt -/

/-- The segment is not in a WRITE. -/
structure State.NoWrite (s : State) (g : SegId) : Prop where
  job : ∀ x, (s.fsc.get g).activity = .busy x → ∀ a, x.job ≠ .write a

theorem State.NoWrite.of_free (hfree : (s.fsc.get g).activity = .free) : s.NoWrite g :=
  ⟨fun _ hx => absurd (hfree.symm.trans hx) nofun⟩

theorem State.NoWrite.congr (hs : s.NoWrite g) (hact : (u.fsc.get g).activity = (s.fsc.get g).activity) : u.NoWrite g :=
  ⟨fun x hx => hs.job x (hact.symm.trans hx)⟩

theorem State.setActivity_noWrite {y : Activity} (hy : ∀ x, y = .busy x → ∀ a, x.job ≠ .write a) (s : State) (g : SegId) :
    (s.setActivity g y).NoWrite g := ⟨fun x hx => hy x ((State.setActivity_activity s g y).symm.trans hx)⟩

/-- An event of one segment after which that segment makes no WRITE. -/
theorem Event.writesKept_of_none (he : Event [g] s u) (hnone : u.NoWrite g) : s.WritesKept u := by
  refine ⟨fun h a hw => ?_⟩
  by_cases heq : h = g
  · subst heq
    obtain ⟨x, hx, hjob⟩ := State.writing_eq_some.1 hw
    exact absurd hjob (hnone.job x hx a)
  · exact (he.segments h (by simpa using heq)).writesKept hw

theorem State.freed_noWrite (s : State) (g : SegId) : (s.setActivity g .free).NoWrite g :=
  .of_free (State.setActivity_activity ..)

theorem State.startJob_noWrite {j : Job} (s : State) (g : SegId) (r n : Nat)
    (hj : ∀ a, j ≠ .write a := by exact fun _ => nofun) :
    (s.startJob g j r n).NoWrite g := ⟨fun x hx a => by rw [State.startJob_job hx]; exact hj a⟩

theorem State.discoverFrom_noWrite (s : State) (g : SegId) (above : Nat) : (s.discoverFrom g above).NoWrite g := by
  unfold State.discoverFrom
  split
  · exact State.startJob_noWrite ..
  · exact (s.freed_noWrite g).congr (State.startPass_activity _ g)

theorem State.endProbe_noWrite (s : State) (g : SegId) (a : Nat) : (s.endProbe g a).NoWrite g :=
  (s.freed_noWrite g).congr (State.dealtWith_activity _ g a)

theorem State.afterRead_noWrite (s : State) (g : SegId) (ready : Bool) : (s.afterRead g ready).NoWrite g :=
  State.setActivity_noWrite (by cases ready <;> exact fun _ => nofun) s g

/-- A failed attempt leaves the WRITE it retries, with its values, or none. -/
theorem State.attemptFailed_writesKept {x : Transaction} (hx : (s.fsc.get g).activity = .busy x) :
    s.WritesKept (s.attemptFailed g x) := by
  have hevent : Event [g] s (s.attemptFailed g x) := .attemptFailed List.mem_cons_self x
  have hnone : (s.attemptFailed g x).NoWrite g → s.WritesKept (s.attemptFailed g x) := hevent.writesKept_of_none
  cases hjob : x.job with
  | discovery a =>
    refine hnone ?_
    simp only [State.attemptFailed, hjob]
    split
    · rw [State.retry, hjob]; exact State.startJob_noWrite ..
    · exact State.discoverFrom_noWrite ..
  | probe a =>
    refine hnone ?_
    simp only [State.attemptFailed, hjob]
    exact State.endProbe_noWrite ..
  | read j =>
    refine hnone ?_
    simp only [State.attemptFailed, hjob]
    split
    · rw [State.retry, hjob]; exact State.startJob_noWrite ..
    · exact (State.freed_noWrite _ g).congr (State.endRead_activity ..)
  | poll => rw [State.attemptFailed, hjob]; exact .refl s
  | write a =>
    by_cases hlost : (s.countBad g a).isLost g a = true
    · refine hnone ?_
      simp only [State.attemptFailed, hjob, if_pos hlost]
      exact State.freed_noWrite ..
    · by_cases hretry : 0 < x.retries
      · -- the same WRITE again: counting the failure has left the buffer alone
        have hcounted : s.WritesKept (s.countBad g a) := by
          rw [State.countBad, State.setCounter_of_answers (by simpa [State.countBad] using hlost)]
          exact .of_frame (by simp) (by simp)
        refine ⟨fun h b hw => ?_⟩
        have hfailed : s.attemptFailed g x = (s.countBad g a).retry g x := by
          simp only [State.attemptFailed, hjob, if_neg hlost, if_pos hretry]
        by_cases heq : h = g
        · subst heq
          rw [hfailed] at hw ⊢
          obtain ⟨y, hy, hyjob⟩ := State.writing_eq_some.1 hw
          have hsame : x.job = .write b := (State.startJob_job hy).symm.trans hyjob
          have hcall : (s.countBad h a).writing h = some b :=
            State.writing_eq_some.2 ⟨x, (State.setCounter_activity s h a _).trans hx, hsame⟩
          exact hcounted.call h b hcall
        · exact (hevent.segments h (by simpa using heq)).writesKept hw
      · refine hnone ?_
        simp only [State.attemptFailed, hjob, if_neg hlost, if_neg hretry]
        exact State.freed_noWrite ..

/-- An answer ends a WRITE, unless it is no answer to it. -/
theorem State.answer_noWrite (x : Transaction) (chars : List Byte) (hpoll : x.job ≠ .poll) :
    s.answer g x chars = s.attemptFailed g x ∨ (s.answer g x chars).NoWrite g := by
  cases hjob : x.job with
  | poll => exact absurd hjob hpoll
  | discovery a =>
    simp only [State.answer, hjob]
    split
    · exact .inr (State.discoverFrom_noWrite ..)
    · exact .inl rfl
  | probe a =>
    simp only [State.answer, hjob]
    split
    · exact .inr (State.endProbe_noWrite ..)
    · exact .inl rfl
  | read j =>
    simp only [State.answer, hjob]
    split
    · split
      · split
        · refine .inr ?_
          unfold State.readGood
          dsimp only
          split
          · exact (State.afterRead_noWrite _ g _).congr (State.modFsc_activity _ g)
          · exact (State.afterRead_noWrite _ g _).congr (State.endRead_activity ..)
        · exact .inr ((State.afterRead_noWrite _ g _).congr (State.endRead_activity ..))
      · exact .inl rfl
    · exact .inl rfl
  | write a =>
    simp only [State.answer, hjob]
    split
    · split
      · split
        · exact .inr ((State.freed_noWrite (s.countGood g a) g).congr (by simp))
        · exact .inr ((State.freed_noWrite (s.countGood g a) g).congr (by simp))
      · exact .inl rfl
    · exact .inl rfl

theorem State.answer_writesKept {x : Transaction} (hx : (s.fsc.get g).activity = .busy x) (hpoll : x.job ≠ .poll)
    (chars : List Byte) : s.WritesKept (s.answer g x chars) := by
  rcases State.answer_noWrite (s := s) (g := g) x chars hpoll with hfailed | hnone
  · rw [hfailed]; exact State.attemptFailed_writesKept hx
  · exact Event.writesKept_of_none (.answer List.mem_cons_self x chars) hnone

theorem awaiting_eq_some {y : Activity} {x : Transaction} (h : awaiting y = some x) : y = .busy x ∧ x.job ≠ .poll := by
  unfold awaiting at h
  split at h
  · next z =>
    split at h
    · cases h
    · next hpoll => cases h; exact ⟨rfl, hpoll⟩
  · cases h

/-! ### Every command -/

theorem State.WritesKept.ended (h : s.WritesKept u) : s.WritesRule u.kickPorts := h.rule.kickPorts

theorem State.WritesKept.arbitrated (h : s.WritesKept u) (g : SegId) : s.WritesRule (u.arbitrate g).kickPorts :=
  (h.choosing g).kickPorts

theorem Event.writesRule (h : Event [] s u) : s.WritesRule u := h.writesKept.rule

theorem State.WritesRule.telegram {p : PortId} {k : Byte} {act : Telegram → State → State}
    (h : ∀ t, s.WritesRule (act t s)) : s.WritesRule (s.execTelegram p k act) := by
  rcases s.execTelegram_cases p k act with ⟨t, -, -, heq⟩ | heq
  · rw [heq]; exact (h t).kickPorts
  · rw [heq]; exact (State.WritesKept.refl s).rule

theorem State.windowExpired_writes (s : State) (g : SegId) : s.WritesRule (s.windowExpired g) := by
  have hadvance : ∀ m, s.WritesKept (s.advanceTo m) := fun m => .of_frame rfl rfl
  unfold State.windowExpired
  split
  · refine State.WritesKept.arbitrated ?_ g
    refine Event.writesKept_of_none (g := g) ?_ (State.discoverFrom_noWrite _ g 0)
    exact .trans (.trans (.advanceTo _) (.setActivity List.mem_cons_self _)) (.beginDiscovery List.mem_cons_self)
  · split
    · next x hx =>
      have hbusy := (awaiting_eq_some hx).1
      exact ((hadvance _).trans (State.attemptFailed_writesKept (s := s.advanceTo _) hbusy)).arbitrated g
    · exact (State.WritesKept.refl s).rule

theorem State.passTimerExpired_writesKept (s : State) (g : SegId) : s.WritesKept (s.passTimerExpired g) := by
  have hstopped : s.WritesKept (s.modFsc g fun f => { f with passTimer := none }) :=
    .of_same (fun h => s.modFsc_activity g) fun _ => rfl
  unfold State.passTimerExpired
  dsimp only
  split
  · have hdue : State.WritesKept (s.modFsc g fun f => { f with passTimer := none })
        ((s.modFsc g fun f => { f with passTimer := none }).modFsc g fun f => { f with startDue := true }) :=
      .of_same (fun h => State.modFsc_activity _ g) fun _ => rfl
    exact (hstopped.trans hdue).trans (.of_frame (by simp) (by simp))
  · exact hstopped.trans (.of_same (fun h => State.startPass_activity _ g) fun h => State.startPass_flying _ g)

theorem State.readPoint_writes (p : PortId) (t : Telegram) : s.WritesRule (s.readPoint p t) := by
  unfold State.readPoint
  split
  · split
    · unfold State.readResolved
      split
      · exact State.WritesKept.choosing (.of_same (fun h => s.modFsc_activity _) fun _ => rfl) _
      · exact (State.WritesKept.of_frame (by simp) (by simp)).rule
    · exact Event.writesRule (.unresolved ..)
  · exact Event.writesRule (.refuse ..)

theorem State.placeOverride_writes (p : PortId) (r : Resolved) (v : OutputValue) (b : OverrideBody) :
    s.WritesRule (s.placeOverride p r v b) := by
  have hdeliver : ∀ (u : State) (x : OverrideRecord), u.WritesKept (u.deliverSet x) := fun u x =>
    .of_same (fun h => by simp) fun h => u.deliverSet_flying x
  have hset : ∀ (u : State) rs, u.WritesKept (u.setOverrides rs) := fun u rs => .of_frame rfl rfl
  have htell : ∀ (u : State) (owner : PortId), u.WritesKept (u.tellDisplaced p owner) := fun u _ =>
    .of_frame (by simp) (by simp)
  have hreply : ∀ (u : State) body, u.WritesKept (u.reply p body) := fun u body => .of_frame (by simp) (by simp)
  unfold State.placeOverride
  split
  · split
    · exact (((hset ..).trans (htell ..)).trans ((hdeliver ..).trans (hreply ..))).choosing _
    · exact Event.writesRule (.refuse ..)
  · split
    · exact ((hset ..).trans ((hdeliver ..).trans (hreply ..))).choosing _
    · exact Event.writesRule (.refuse ..)

theorem State.setOverride_writes (p : PortId) (t : Telegram) : s.WritesRule (s.setOverride p t) := by
  unfold State.setOverride
  split
  · split
    · split
      · split
        · exact State.placeOverride_writes ..
        · exact Event.writesRule (.refuse ..)
      · exact Event.writesRule (.refuse ..)
    · exact Event.writesRule (.unresolved ..)
  · exact Event.writesRule (.refuse ..)

theorem State.removeRecord_writesKept (s : State) (r : OverrideRecord) : s.WritesKept (s.removeRecord r) :=
  .of_same (fun h => by simp) fun h => State.handBack_flying _ ..

theorem State.releaseOverride_writes (p : PortId) (t : Telegram) : s.WritesRule (s.releaseOverride p t) := by
  unfold State.releaseOverride
  split
  · split
    · split
      · unfold State.releaseOutput
        split
        · next old _ =>
          split
          · exact ((s.removeRecord_writesKept old).trans (.of_frame (by simp) (by simp))).choosing _
          · exact Event.writesRule (.refuse ..)
        · exact Event.writesRule (.reply (by simp))
      · exact Event.writesRule (.refuse ..)
    · exact Event.writesRule (.unresolved ..)
  · exact Event.writesRule (.refuse ..)

theorem abandoned_noWrite (y : Activity) : ∀ x, abandoned y = .busy x → ∀ a, x.job ≠ .write a := by
  cases y <;> exact fun _ => nofun

theorem State.restartSegment_noWrite (s : State) (g : SegId) (changed : Bool) : (s.restartSegment g changed).NoWrite g := by
  rw [State.restartSegment_eq]
  dsimp only
  split
  · exact State.discoverFrom_noWrite _ g 0
  · -- the blocks' restarts and the replies leave the activity that the restart of the controller gives
    have hfold : ∀ (es : List ReadThrough) (u : State),
        (es.foldl (fun t e => t.replyReadThrough g e) u).fsc = u.fsc :=
      foldl_keeps State.fsc (fun t e => t.replyReadThrough g e) fun _ _ => by simp
    have habandoned : (s.fscRestart g).NoWrite g := by
      refine ⟨fun x hx => abandoned_noWrite (s.fsc.get g).activity x ?_⟩
      rw [← hx, State.fscRestart, State.modFsc_fsc, PerSeg.get_modify_self]
    refine habandoned.congr ?_
    rw [hfold]
    simp [State.blocksRestarted]

theorem State.settingWritten_writesKept {i : Item} {v : Word} {new : Settings} (h : s.settings.accept i v = some new) :
    s.WritesKept ((s.setSettings new).settingWritten s.settings i) := by
  have hset : s.WritesKept (s.setSettings new) := .of_frame rfl rfl
  have hevent := Event.settingWritten h
  have hwritten : ∀ (g : SegId) (changed populationChanged : Bool), i = .population g ∨ i = .mask g →
      (populationChanged = false → i = .mask g) →
        s.WritesKept ((s.setSettings new).setWritten g changed populationChanged) := by
    intro g changed populationChanged hi hmask
    cases changed with
    | false => exact hset
    | true => exact (Event.segmentWritten h List.mem_cons_self hi hmask).writesKept_of_none (State.restartSegment_noWrite ..)
  cases i with
  | population g => exact hwritten g _ true (.inl rfl) nofun
  | mask g => exact hwritten g _ false (.inr rfl) fun _ => rfl
  | _ => exact hevent.writesKept

theorem State.arbitrateFor_writes (h : s.WritesKept u) (old : Settings) (i : Item) :
    s.WritesRule (u.arbitrateFor old i) := by
  cases i with
  | population g | mask g =>
    unfold State.arbitrateFor
    dsimp only
    split
    · exact h.rule
    · exact h.choosing g
  | _ => exact h.rule

theorem State.writeSetting_writes (p : PortId) (t : Telegram) : s.WritesRule (s.writeSetting p t) := by
  unfold State.writeSetting
  split
  · split
    · split
      · split
        · exact Event.writesRule (.refuse ..)
        · split
          · next hnew =>
            exact State.arbitrateFor_writes ((State.settingWritten_writesKept hnew).trans
              (.of_frame (by simp) (by simp))) _ _
          · exact Event.writesRule (.refuse ..)
      · exact Event.writesRule (.refuse ..)
    · exact Event.writesRule (.refuse ..)
  · exact Event.writesRule (.refuse ..)

theorem State.Allows.congr {f : Fields} (h : s.Allows g a f) (hfpb : u.fpb = s.fpb) (hsettings : u.settings = s.settings) :
    u.Allows g a f := by
  unfold State.Allows State.unit?
  rw [hfpb, hsettings]
  exact h

theorem State.WritesRule.arbitrate (h : s.WritesRule u) (g : SegId) : s.WritesRule (u.arbitrate g) := by
  refine ⟨fun k a hw => ?_⟩
  rcases (u.arbitrate_writes g).call k a hw with ⟨hu, hfly⟩ | hallows
  · rcases h.call k a hu with ⟨hs, hflys⟩ | hallows
    · exact .inl ⟨hs, hfly.trans hflys⟩
    · exact .inr (hfly ▸ hallows.congr (by simp) (by simp))
  · exact .inr hallows

/-- A start-up makes no WRITE before its segments choose. -/
theorem State.startUp_writes (s : State) (st : Settings) (defaulted : Bool) : s.WritesRule (s.startUp st defaulted) := by
  refine State.WritesRule.kickPorts (.arbitrate (.arbitrate (State.WritesKept.rule ⟨fun g a hw => ?_⟩) _) _)
  have hevent : Event [.fs1] ((s.runWith st defaulted).beginDiscovery .fs0)
      (((s.runWith st defaulted).beginDiscovery .fs0).beginDiscovery .fs1) := .beginDiscovery List.mem_cons_self
  have hnone : (((s.runWith st defaulted).beginDiscovery .fs0).beginDiscovery .fs1).NoWrite g := by
    cases g with
    | fs1 => exact State.discoverFrom_noWrite ..
    | fs0 => exact (State.discoverFrom_noWrite _ _ 0).congr (by rw [(hevent.segments .fs0 (by simp)).fsc]; rfl)
  obtain ⟨x, hx, hjob⟩ := State.writing_eq_some.1 hw
  exact absurd hjob (hnone.job x hx a)

theorem exec_writes {c : Instr} (h : exec c s = .next t) : s.WritesRule t := by
  have hsame : ∀ {t}, Host.Outcome.next s = Host.Outcome.next (φ := Fault) (ρ := Refusal) t → s.WritesRule t := by
    intro t h
    cases h
    exact (State.WritesKept.refl s).rule
  have hadvance : ∀ m, s.WritesKept (s.advanceTo m) := fun m => .of_frame rfl rfl
  have hquiet : ∀ {u : State}, Event [] s u → s.WritesRule u.kickPorts := fun h => h.writesKept.ended
  have hload : ∀ {u : State}, (∀ g, (u.fsc.get g).activity = .free) → s.WritesRule u := fun hfree => ⟨fun g a hw => by
    obtain ⟨x, hx, -⟩ := State.writing_eq_some.1 hw
    exact absurd ((hfree g).symm.trans hx) nofun⟩
  cases c with
  | powerOn | resetPin => cases h; exact hload fun g => by cases g <;> rfl
  | settingsLoadEnd image =>
    change execSettingsLoadEnd image s = .next t at h
    unfold execSettingsLoadEnd at h
    split at h
    · cases h; exact s.startUp_writes ..
    · exact hsame h
  | readPoint p => cases h; exact .telegram (State.readPoint_writes p)
  | setOverride p => cases h; exact .telegram (State.setOverride_writes p)
  | releaseOverride p => cases h; exact .telegram (State.releaseOverride_writes p)
  | writeSetting p => cases h; exact .telegram (State.writeSetting_writes p)
  | passTimerExpiry g =>
    change execPassTimerExpiry g s = .next t at h
    unfold execPassTimerExpiry at h
    split at h
    · cases h; exact ((hadvance _).trans (State.passTimerExpired_writesKept _ g)).arbitrated g
    · exact hsame h
  | responseTaken g chars =>
    change execResponseTaken g chars s = .next t at h
    unfold execResponseTaken at h
    split at h
    · next x hx =>
      obtain ⟨hbusy, hpoll⟩ := awaiting_eq_some hx
      split at h
      · exact hsame h
      · cases h; exact (State.answer_writesKept hbusy hpoll chars).arbitrated g
    · exact hsame h
  | responseWindowExpiry g => cases h; exact s.windowExpired_writes g
  | readyPauseExpiry g =>
    change execReadyPauseExpiry g s = .next t at h
    unfold execReadyPauseExpiry at h
    split at h
    · cases h
      refine State.WritesKept.arbitrated (Event.writesKept_of_none ?_ (State.freed_noWrite _ g)) g
      exact .trans (.advanceTo _) (.setActivity List.mem_cons_self _)
    · exact hsame h
  | attentionLineChange g asserted =>
    cases h
    exact State.WritesKept.arbitrated (.of_same (fun h => s.modFsc_activity g) fun _ => rfl) g
  | attentionPollEnd g slots =>
    change execAttentionPollEnd g slots s = .next t at h
    unfold execAttentionPollEnd at h
    split at h
    · cases h
      refine State.WritesKept.arbitrated (Event.writesKept_of_none ?_ (State.freed_noWrite _ g)) g
      exact .trans (.trans (.advanceTo _) (.takePoll List.mem_cons_self _)) (.setActivity List.mem_cons_self _)
    · exact hsame h
  | settleDeadlineExpiry g a o =>
    change execSettleDeadlineExpiry g a o s = .next t at h
    unfold execSettleDeadlineExpiry at h
    split at h
    · split at h
      · cases h
        exact ((hadvance o.moment).trans (.of_frame (by simp) (by simp))).arbitrated g
      · exact hsame h
    · exact hsame h
  | overrideExpiry n =>
    change execOverrideExpiry n s = .next t at h
    unfold execOverrideExpiry at h
    split at h
    · next r _ =>
      split at h
      · cases h
        exact ((hadvance n.moment).trans ((State.removeRecord_writesKept _ r).trans
          (.of_frame (by simp) (by simp)))).arbitrated _
      · exact hsame h
    · exact hsame h
  | takeFrame p chars =>
    change execTakeFrame p chars s = .next t at h
    unfold execTakeFrame at h
    split at h
    · next hrun => cases h; exact hquiet (.receive p chars s hrun)
    · exact hsame h
  | frameGapTimeout p =>
    change execFrameGapTimeout p s = .next t at h
    unfold execFrameGapTimeout at h
    split at h
    · cases h; exact hquiet (.trans (.receiveNone p) (.setFault _))
    · exact hsame h
  | unknownKind p =>
    change execUnknownKind p s = .next t at h
    unfold execUnknownKind at h
    split at h
    · split at h
      · exact hsame h
      · cases h; exact hquiet (.refuse ..)
    · exact hsame h
  | saveEnd acknowledged readBack =>
    change execSaveEnd acknowledged readBack s = .next t at h
    unfold execSaveEnd at h
    split at h
    · cases h; exact hquiet (.trans (.setSaving _) (.setFaultIf ..))
    · exact hsame h
  | transmitterFrameDone p =>
    change execTransmitterFrameDone p s = .next t at h
    unfold execTransmitterFrameDone at h
    split at h
    · next f _ =>
      cases h
      unfold State.frameLeft
      split
      · exact State.WritesKept.ended (by exact .of_frame rfl rfl)
      · exact (hload fun g => by cases g <;> rfl).kickPorts
      · exact State.WritesKept.ended (by exact .of_frame rfl rfl)
    · exact hsame h
  | noticeSpacingExpiry p =>
    change execNoticeSpacingExpiry p s = .next t at h
    unfold execNoticeSpacingExpiry at h
    split at h
    · cases h; exact State.WritesKept.ended (by exact .of_frame rfl rfl)
    · exact hsame h
  | icingClearExpiry =>
    change execIcingClearExpiry s = .next t at h
    unfold execIcingClearExpiry at h
    split at h
    · cases h; exact hquiet (.trans (.advanceTo _) .icingExpired)
    · exact hsame h
  | rotationExpiry l =>
    change execRotationExpiry l s = .next t at h
    unfold execRotationExpiry at h
    split at h
    · cases h; exact State.WritesKept.rule (by exact .of_frame rfl rfl)
    · exact hsame h
  | requestExpiry p l =>
    change execRequestExpiry p l s = .next t at h
    unfold execRequestExpiry at h
    split at h
    · split at h
      · cases h; exact (State.WritesKept.of_frame (by simp) (by simp)).ended
      · exact hsame h
    · exact hsame h
  | readStation p => cases h; exact .telegram fun t => (Event.readStation p t).writesRule
  | readStatus p => cases h; exact .telegram fun t => (Event.readStatus p t).writesRule
  | readFaults p => cases h; exact .telegram fun t => (Event.readFaults p t).writesRule
  | readOverrides p => cases h; exact .telegram fun t => (Event.readOverrides p t).writesRule
  | readSetting p => cases h; exact .telegram fun t => (Event.readSetting p t).writesRule
  | postRequest p => cases h; exact .telegram fun t => (Event.postRequest p t).writesRule
  | withdrawRequest p => cases h; exact .telegram fun t => (Event.withdrawRequest p t).writesRule
  | fence p => cases h; exact .telegram fun t => (Event.fence p t).writesRule
  | map p => cases h; exact .telegram fun t => (Event.map p t).writesRule
  | unmap p => cases h; exact .telegram fun t => (Event.unmap p t).writesRule
  | flush p => cases h; exact .telegram fun t => (Event.flush p t).writesRule
  | probeByAddress p => cases h; exact .telegram fun t => (Event.probeByAddress p t).writesRule
  | probeByIndex p => cases h; exact .telegram fun t => (Event.probeByIndex p t).writesRule
  | markStale p => cases h; exact .telegram fun t => (Event.markStale p t).writesRule
  | saveSettings p => cases h; exact .telegram fun t => (Event.saveSettings t).writesRule
  | restart p => cases h; exact .telegram fun t => (Event.restart t).writesRule

/-- Settles O23: a step that leaves a WRITE in flight has kept it, with its values, or started it as the filter gives it. -/
theorem writesStartFiltered : Obligations.WritesStartFiltered := by
  intro s t g a h hw
  unfold step at h
  split at h
  · cases h; exact .inl ⟨hw, rfl⟩
  · exact (exec_writes h).call g a hw

end

end Sys2Proof.Machine
end

section
/-! Executing the head telegram (R153): what a ready port does for each command, its own two checks before any other (10.3),
the class table (10.1), and the telegrams that read. -/

namespace Sys2Proof.Machine

section
variable {s : State} {p : PortId} {t : Telegram}

/-! ### A ready port carries out its telegram -/

theorem exec_readPoint_ready (h : s.Ready p t) (hk : t.kind = 0x01#8) :
    exec (.readPoint p) s = .next (s.readPoint p t).kickPorts := congrArg _ (State.execTelegram_ready h hk)

theorem exec_readStation_ready (h : s.Ready p t) (hk : t.kind = 0x02#8) :
    exec (.readStation p) s = .next (s.readStation p t).kickPorts := congrArg _ (State.execTelegram_ready h hk)

theorem exec_readStatus_ready (h : s.Ready p t) (hk : t.kind = 0x03#8) :
    exec (.readStatus p) s = .next (s.readStatus p t).kickPorts := congrArg _ (State.execTelegram_ready h hk)

theorem exec_readOverrides_ready (h : s.Ready p t) (hk : t.kind = 0x05#8) :
    exec (.readOverrides p) s = .next (s.readOverrides p t).kickPorts := congrArg _ (State.execTelegram_ready h hk)

theorem exec_readSetting_ready (h : s.Ready p t) (hk : t.kind = 0x06#8) :
    exec (.readSetting p) s = .next (s.readSetting p t).kickPorts := congrArg _ (State.execTelegram_ready h hk)

theorem exec_withdrawRequest_ready (h : s.Ready p t) (hk : t.kind = 0x11#8) :
    exec (.withdrawRequest p) s = .next (s.withdrawRequest p t).kickPorts := congrArg _ (State.execTelegram_ready h hk)

theorem exec_setOverride_ready (h : s.Ready p t) (hk : t.kind = 0x18#8) :
    exec (.setOverride p) s = .next (s.setOverride p t).kickPorts := congrArg _ (State.execTelegram_ready h hk)

theorem exec_releaseOverride_ready (h : s.Ready p t) (hk : t.kind = 0x19#8) :
    exec (.releaseOverride p) s = .next (s.releaseOverride p t).kickPorts := congrArg _ (State.execTelegram_ready h hk)

theorem exec_map_ready (h : s.Ready p t) (hk : t.kind = 0x20#8) :
    exec (.map p) s = .next (s.map p t).kickPorts := congrArg _ (State.execTelegram_ready h hk)

theorem exec_unmap_ready (h : s.Ready p t) (hk : t.kind = 0x21#8) :
    exec (.unmap p) s = .next (s.unmap p t).kickPorts := congrArg _ (State.execTelegram_ready h hk)

theorem exec_flush_ready (h : s.Ready p t) (hk : t.kind = 0x22#8) :
    exec (.flush p) s = .next (s.flush p t).kickPorts := congrArg _ (State.execTelegram_ready h hk)

theorem exec_probeByAddress_ready (h : s.Ready p t) (hk : t.kind = 0x23#8) :
    exec (.probeByAddress p) s = .next (s.probeByAddress p t).kickPorts := congrArg _ (State.execTelegram_ready h hk)

theorem exec_probeByIndex_ready (h : s.Ready p t) (hk : t.kind = 0x24#8) :
    exec (.probeByIndex p) s = .next (s.probeByIndex p t).kickPorts := congrArg _ (State.execTelegram_ready h hk)

theorem exec_writeSetting_ready (h : s.Ready p t) (hk : t.kind = 0x30#8) :
    exec (.writeSetting p) s = .next (s.writeSetting p t).kickPorts := congrArg _ (State.execTelegram_ready h hk)

theorem exec_saveSettings_ready (h : s.Ready p t) (hk : t.kind = 0x31#8) :
    exec (.saveSettings p) s = .next (s.saveSettings p t).kickPorts := congrArg _ (State.execTelegram_ready h hk)

theorem exec_restart_ready (h : s.Ready p t) (hk : t.kind = 0x32#8) :
    exec (.restart p) s = .next (s.restart p t).kickPorts := congrArg _ (State.execTelegram_ready h hk)

/-- A telegram whose execution is a reply alone changes nothing else. -/
theorem State.Ready.onlyAnswers {c : Instr} {u : State} {body : List Byte} (h : s.Ready p t)
    (hexec : exec c s = .next u.kickPorts) (hu : u = s.reply p body) : exec c s = .next (s.onlyAnswering p body) := by
  rw [hexec, hu, State.reply_kickPorts h.1]

/-! ### Bodies of the right length (12.3) -/

theorem body1_eq_none {b : List Byte} : body1 b = none ↔ b.length ≠ 1 := by
  rcases b with _ | ⟨x, _ | ⟨y, b⟩⟩ <;> simp [body1]

theorem body11_eq_none {b : List Byte} : body11 b = none ↔ b.length ≠ 2 := by
  rcases b with _ | ⟨x, _ | ⟨y, _ | ⟨z, b⟩⟩⟩ <;> simp [body11]

theorem body2_eq_none {b : List Byte} : body2 b = none ↔ b.length ≠ 2 := by
  rcases b with _ | ⟨x, _ | ⟨y, _ | ⟨z, b⟩⟩⟩ <;> simp [body2]

theorem bodyOwned_eq_none {b : List Byte} : bodyOwned b = none ↔ b.length ≠ 3 := by
  rcases b with _ | ⟨x, _ | ⟨y, _ | ⟨z, _ | ⟨w, b⟩⟩⟩⟩ <;> simp [bodyOwned]

theorem bodyWriteSetting_eq_none {b : List Byte} : bodyWriteSetting b = none ↔ b.length ≠ 4 := by
  rcases b with _ | ⟨x, _ | ⟨y, _ | ⟨z, _ | ⟨w, _ | ⟨v, b⟩⟩⟩⟩⟩ <;> simp [bodyWriteSetting]

theorem bodySetOverride_eq_none {b : List Byte} : bodySetOverride b = none ↔ b.length ≠ 6 := by
  rcases b with _ | ⟨_, _ | ⟨_, _ | ⟨_, _ | ⟨_, _ | ⟨_, _ | ⟨_, _ | ⟨_, _⟩⟩⟩⟩⟩⟩⟩ <;> simp [bodySetOverride]

theorem bodyPostRequest_eq_none {b : List Byte} : bodyPostRequest b = none ↔ b.length ≠ 9 := by
  rcases b with _ | ⟨_, _ | ⟨_, _ | ⟨_, _ | ⟨_, _ | ⟨_, _ | ⟨_, _ | ⟨_, _ | ⟨_, _ | ⟨_, _ | ⟨_, _⟩⟩⟩⟩⟩⟩⟩⟩⟩⟩ <;>
    simp [bodyPostRequest]

theorem bodyReadPoint_of_length {b : List Byte} (h : b.length ≠ 3) : bodyReadPoint b = none := by
  unfold bodyReadPoint
  split
  · exact absurd rfl h
  · rfl

theorem bodyMap_of_length {b : List Byte} (h : b.length ≠ 7) : bodyMap b = none := by
  unfold bodyMap
  split
  · exact absurd rfl h
  · rfl

theorem exists_body1 {b : List Byte} (h : b.length = 1) : ∃ n, body1 b = some n :=
  Option.ne_none_iff_exists'.1 fun hn => body1_eq_none.1 hn h

theorem exists_bodyOwned {b : List Byte} (h : b.length = 3) : ∃ x, bodyOwned b = some x :=
  Option.ne_none_iff_exists'.1 fun hn => bodyOwned_eq_none.1 hn h

theorem exists_bodyWriteSetting {b : List Byte} (h : b.length = 4) : ∃ x, bodyWriteSetting b = some x :=
  Option.ne_none_iff_exists'.1 fun hn => bodyWriteSetting_eq_none.1 hn h

theorem exists_bodyPostRequest {b : List Byte} (h : b.length = 9) : ∃ x, bodyPostRequest b = some x :=
  Option.ne_none_iff_exists'.1 fun hn => bodyPostRequest_eq_none.1 hn h

/-! ### The port's own checks (10.3) -/

theorem State.mapTelegram_malformed {α : Type} {act : α → State} : s.mapTelegram p none act = s.refuse p .malformed := rfl

theorem State.mapTelegram_rights {α : Type} {b : α} {act : α → State} (hc : s.cls p ≠ .supervisor) :
    s.mapTelegram p (some b) act = s.refuse p .rights := if_neg hc

theorem State.mapTelegram_supervisor {α : Type} {b : α} {act : α → State} (hc : s.cls p = .supervisor) :
    s.mapTelegram p (some b) act = act b := if_pos hc

theorem exec_unknownKind_ready (h : s.Ready p t) (hk : t.kind ∉ namedKinds) :
    exec (.unknownKind p) s = .next (s.refuse p .unknownKind).kickPorts := by
  obtain ⟨hrun, hwaits, hhead⟩ := h
  have hcontains : namedKinds.contains t.kind = false := by simpa using hk
  change execUnknownKind p s = _
  rw [execUnknownKind, State.headTelegram, if_pos ⟨hrun, hwaits⟩, hhead]
  dsimp only
  rw [hcontains]
  rfl

theorem kind_not_named {k : Byte} (h : (0x70 ≤ k.toNat ∧ k.toNat ≤ 0x72) ∨ 0x80 ≤ k.toNat) : k ∉ namedKinds := by
  intro hk
  have hsmall : ∀ x ∈ namedKinds, x.toNat ≤ 0x32 := by decide
  have := hsmall k hk
  omega

/-- A body of the wrong length is refused before anything else is looked at. -/
theorem exec_malformed {c : Instr} {k : Byte} {n : Nat} (hc : (c, k, n) ∈ telegramCommands p) (h : s.Ready p t)
    (hk : t.kind = k) (hlength : t.body.length ≠ n) : exec c s = .next (s.refuse p .malformed).kickPorts := by
  have hempty : n = 0 → ¬t.body.isEmpty = true := fun hn he => hlength (by rw [hn, List.isEmpty_iff.1 he]; rfl)
  simp only [telegramCommands, List.mem_cons, Prod.mk.injEq, List.not_mem_nil, or_false] at hc
  rcases hc with hc | hc | hc | hc | hc | hc | hc | hc | hc | hc | hc | hc | hc | hc | hc | hc | hc | hc | hc | hc <;>
    obtain ⟨rfl, rfl, rfl⟩ := hc
  · rw [exec_readPoint_ready h hk, State.readPoint, bodyReadPoint_of_length hlength]
  · rw [exec_readStation_ready h hk, State.readStation, stationBody, body11_eq_none.2 hlength]
  · rw [exec_readStatus_ready h hk, State.readStatus, segBody, body1_eq_none.2 hlength]; rfl
  · rw [exec_readFaults_ready h hk, State.readFaults, if_neg (hempty rfl)]
  · rw [exec_readOverrides_ready h hk, State.readOverrides, if_neg (hempty rfl)]
  · rw [exec_readSetting_ready h hk, State.readSetting, body11_eq_none.2 hlength]
  · rw [exec_postRequest_ready h hk, State.postRequest, bodyPostRequest_eq_none.2 hlength]
  · rw [exec_withdrawRequest_ready h hk, State.withdrawRequest, body1_eq_none.2 hlength]
  · rw [exec_fence_ready h hk, State.fence, body1_eq_none.2 hlength]
  · rw [exec_setOverride_ready h hk, State.setOverride, bodySetOverride_eq_none.2 hlength]
  · rw [exec_releaseOverride_ready h hk, State.releaseOverride, body2_eq_none.2 hlength]
  · rw [exec_map_ready h hk, State.map, bodyMap_of_length hlength]; rfl
  · rw [exec_unmap_ready h hk, State.unmap, bodyOwned_eq_none.2 hlength]; rfl
  · rw [exec_flush_ready h hk, State.flush, body1_eq_none.2 hlength]; rfl
  · rw [exec_probeByAddress_ready h hk, State.probeByAddress, bodyOwned_eq_none.2 hlength]; rfl
  · rw [exec_probeByIndex_ready h hk, State.probeByIndex, body1_eq_none.2 hlength]; rfl
  · rw [exec_markStale_ready h hk, State.markStale, body1_eq_none.2 hlength]
  · rw [exec_writeSetting_ready h hk, State.writeSetting, bodyWriteSetting_eq_none.2 hlength]
  · rw [exec_saveSettings_ready h hk, State.saveSettings, if_neg (hempty rfl)]
  · rw [exec_restart_ready h hk, State.restart, if_neg (hempty rfl)]

/-- Settles O28. -/
theorem portChecksFirst : Obligations.PortChecksFirst :=
  ⟨fun _ _ _ h hk => h.onlyAnswers (exec_unknownKind_ready h hk) rfl, fun _ => kind_not_named,
    fun _ _ _ _ _ _ hc h hk hlength => h.onlyAnswers (exec_malformed hc h hk hlength) rfl⟩

/-! ### The class table (10.1) -/

theorem exec_plant_rights {c : Instr} {k : Byte} {n : Nat} (hc : (c, k, n) ∈ plantCommands p) (h : s.Ready p t)
    (hk : t.kind = k) (hlength : t.body.length = n) (hcls : s.cls p = .observer) :
    exec c s = .next (s.refuse p .rights).kickPorts := by
  simp only [plantCommands, List.mem_cons, Prod.mk.injEq, List.not_mem_nil, or_false] at hc
  rcases hc with hc | hc | hc <;> obtain ⟨rfl, rfl, rfl⟩ := hc
  · obtain ⟨b, hb⟩ := exists_bodyPostRequest hlength
    rw [exec_postRequest_ready h hk, State.postRequest_rights hb hcls]
  · obtain ⟨b, hb⟩ := exists_body1 hlength
    rw [exec_withdrawRequest_ready h hk, State.withdrawRequest, hb]
    exact congrArg (fun u => Host.Outcome.next (State.kickPorts u)) (if_pos hcls)
  · obtain ⟨b, hb⟩ := exists_body1 hlength
    rw [exec_fence_ready h hk, State.fence_rights hb hcls]

theorem exec_supervisor_rights {c : Instr} {k : Byte} {n : Nat} (hc : (c, k, n) ∈ supervisorCommands p) (h : s.Ready p t)
    (hk : t.kind = k) (hlength : t.body.length = n) (hmap : k = 0x20#8 → bodyMap t.body ≠ none)
    (hcls : s.cls p ≠ .supervisor) : exec c s = .next (s.refuse p .rights).kickPorts := by
  have hempty : n = 0 → t.body.isEmpty = true := fun hn => List.isEmpty_iff.2 (List.length_eq_zero_iff.1 (hlength.trans hn))
  simp only [supervisorCommands, List.mem_cons, Prod.mk.injEq, List.not_mem_nil, or_false] at hc
  rcases hc with hc | hc | hc | hc | hc | hc | hc | hc | hc <;> obtain ⟨rfl, rfl, rfl⟩ := hc
  · obtain ⟨b, hb⟩ := Option.ne_none_iff_exists'.1 (hmap rfl)
    rw [exec_map_ready h hk, State.map, hb, State.mapTelegram_rights hcls]
  · obtain ⟨b, hb⟩ := exists_bodyOwned hlength
    rw [exec_unmap_ready h hk, State.unmap, hb, State.mapTelegram_rights hcls]
  · obtain ⟨b, hb⟩ := exists_body1 hlength
    rw [exec_flush_ready h hk, State.flush, hb, State.mapTelegram_rights hcls]
  · obtain ⟨b, hb⟩ := exists_bodyOwned hlength
    rw [exec_probeByAddress_ready h hk, State.probeByAddress, hb, State.mapTelegram_rights hcls]
  · obtain ⟨b, hb⟩ := exists_body1 hlength
    rw [exec_probeByIndex_ready h hk, State.probeByIndex, hb, State.mapTelegram_rights hcls]
  · obtain ⟨b, hb⟩ := exists_body1 hlength
    rw [exec_markStale_ready h hk, State.markStale_rights hb hcls]
  · obtain ⟨b, hb⟩ := exists_bodyWriteSetting hlength
    rw [exec_writeSetting_ready h hk, State.writeSetting, hb]
    exact congrArg (fun u => Host.Outcome.next (State.kickPorts u)) (if_neg hcls)
  · rw [exec_saveSettings_ready h hk, State.saveSettings, if_pos (hempty rfl), if_neg hcls]
  · rw [exec_restart_ready h hk, State.restart, if_pos (hempty rfl), if_neg hcls]

/-- Settles O29. -/
theorem classRightsEnforced : Obligations.ClassRightsEnforced := by
  intro s p t h
  refine ⟨fun c k n hc hk hlength hcls => h.onlyAnswers (exec_plant_rights hc h hk hlength hcls) rfl,
    fun c k n hc hk hlength hmap hcls => h.onlyAnswers (exec_supervisor_rights hc h hk hlength hmap hcls) rfl,
    fun b hk hb hcls => h.onlyAnswers (exec_setOverride_ready h hk) ?_,
    fun w hk hb hcls => h.onlyAnswers (exec_releaseOverride_ready h hk) ?_⟩
  · rw [State.setOverride, hb]
    dsimp only
    rw [State.resolveOverride_rights hcls]
    rfl
  · rw [State.releaseOverride, hb]
    dsimp only
    rw [State.resolveOverride_rights hcls]
    rfl

/-! ### The telegrams that read -/

theorem stationBody_none {g a : Byte} (h : SegId.ofNumber g.toNat = none ∨ a = 0#8 ∨ 12 < a.toNat) :
    stationBody [g, a] = none := by
  cases hseg : SegId.ofNumber g.toNat with
  | none => simp [stationBody, body11, hseg]
  | some seg =>
    have hrange : ¬(1 ≤ a.toNat ∧ a.toNat ≤ 12) := by
      rcases h with h | rfl | h
      · rw [hseg] at h; cases h
      · decide
      · omega
    simp only [stationBody, body11, hseg, if_neg hrange]

theorem stationBody_some {g a : Byte} {seg : SegId} (hseg : SegId.ofNumber g.toNat = some seg) (hlow : 1 ≤ a.toNat)
    (hhigh : a.toNat ≤ 12) : stationBody [g, a] = some (seg, a.toNat) := by
  simp only [stationBody, body11, hseg, if_pos (And.intro hlow hhigh)]

theorem byteOf_toNat (b : Byte) : byteOf b.toNat = b := by simp [byteOf]

/-- Settles O30. -/
theorem readsAnswerFromState : Obligations.ReadsAnswerFromState := by
  intro s p t h
  refine ⟨fun g a hk hb => ?station, fun b hk hb => ?status, fun hk hb => ?overrides, fun c q hk hb => ?setting⟩
  case station =>
    have hexec := exec_readStation_ready h hk
    refine ⟨fun hbad => h.onlyAnswers hexec ?_, fun seg hseg hlow hhigh =>
      ⟨fun st hst => h.onlyAnswers hexec ?_, fun hnone => h.onlyAnswers hexec ?_⟩⟩
    · rw [State.readStation, hb, stationBody_none hbad]; rfl
    · rw [State.readStation, hb, stationBody_some hseg hlow hhigh]; dsimp only; rw [hst]
    · rw [State.readStation, hb, stationBody_some hseg hlow hhigh]; dsimp only; rw [hnone]; rfl
  case status =>
    have hexec := exec_readStatus_ready h hk
    have hseg : segBody t.body = SegId.ofNumber b.toNat := by rw [hb]; rfl
    refine ⟨fun hnone => h.onlyAnswers hexec ?_, fun l hl => h.onlyAnswers hexec ?_⟩
    · rw [State.readStatus, hseg, hnone]; rfl
    · rw [State.readStatus, hseg, hl]
  case overrides =>
    refine h.onlyAnswers (exec_readOverrides_ready h hk) ?_
    rw [State.readOverrides, hb]; rfl
  case setting =>
    have hexec := exec_readSetting_ready h hk
    have hbody : body11 t.body = some (c.toNat, q.toNat) := by rw [hb]; rfl
    refine ⟨fun i hi => h.onlyAnswers hexec ?_, fun hnone => h.onlyAnswers hexec ?_⟩
    · rw [State.readSetting, hbody]; dsimp only; rw [hi]; dsimp only; rw [byteOf_toNat, byteOf_toNat]; rfl
    · rw [State.readSetting, hbody]; dsimp only; rw [hnone]; rfl

/-! ### Saving and RESTART (R166, R167) -/

theorem State.settingsBusy_iff : s.settingsBusy = true ↔ s.saving ≠ none ∨ s.restartPending = true := by
  simp [State.settingsBusy, Option.isSome_iff_ne_none]

/-- Settles O45. -/
theorem saveAndRestart : Obligations.SaveAndRestart := by
  refine fun s => ⟨fun p t h hb hcls => ⟨fun hbusy => ?_, fun hsaving hpending => ?_⟩, fun image readBack acknowledged hs => ?_⟩
  · have hempty : t.body.isEmpty = true := by rw [hb]; rfl
    refine ⟨fun hk => h.onlyAnswers (exec_saveSettings_ready h hk) ?_, fun hk => h.onlyAnswers (exec_restart_ready h hk) ?_⟩
    · rw [State.saveSettings, if_pos hempty, if_pos hcls, if_pos (State.settingsBusy_iff.2 hbusy)]; rfl
    · rw [State.restart, if_pos hempty, if_pos hcls, if_pos (State.settingsBusy_iff.2 hbusy)]; rfl
  · have hempty : t.body.isEmpty = true := by rw [hb]; rfl
    have hidle : ¬s.settingsBusy = true := by simp [State.settingsBusy, hsaving, hpending]
    refine ⟨fun hk => ?_, fun hk => ?_⟩
    · rw [exec_saveSettings_ready h hk, State.saveSettings, if_pos hempty, if_pos hcls, if_neg hidle,
        State.reply_kickPorts (by exact h.1)]
      rfl
    · rw [exec_restart_ready h hk, State.restart, if_pos hempty, if_pos hcls, if_neg hidle,
        State.kickPorts_running (by exact h.1)]
      rfl
  · intro faults
    have hcause : (!(acknowledged && readBack == image)) = true ↔ ¬(acknowledged = true ∧ readBack = image) := by
      cases acknowledged <;> simp
    change execSaveEnd acknowledged readBack s = _
    rw [execSaveEnd, hs]
    dsimp only
    rw [State.setFaultIf_noticed (s := s.setSaving none) (faults := faults)]
    · rfl
    · by_cases hok : acknowledged = true ∧ readBack = image
      · rw [if_neg fun hc => hcause.1 hc hok]; exact if_pos hok
      · rw [if_pos (hcause.2 hok)]; exact if_neg hok

end

end Sys2Proof.Machine
end

section
/-! Withdrawing a request and the expiry of its hold (R81 to R83), and the map telegrams (9.4). -/

namespace Sys2Proof.Machine

section
variable {s : State} {p : PortId} {t : Telegram}

/-! ### Emptying a slot -/

/-- A fault that stays set after more faults have been set was set before them. -/
theorem faults_or_eq {a x y : BitVec 24} (h : a ||| x ||| y = a) : a ||| x = a := by
  rw [← h]
  refine BitVec.eq_of_getLsbD_eq fun i _ => ?_
  simp only [BitVec.getLsbD_or]
  cases a.getLsbD i <;> cases x.getLsbD i <;> cases y.getLsbD i <;> rfl

/-- The FAULT bits of two rounds of faults are that of both together. -/
theorem faultBit_trans {a b c : BitVec 24} (h : c = a → b = a) (m : Byte) :
    ((if b = a then 0#8 else 0x20#8) ||| (m ||| if c = b then 0#8 else 0x20#8)) = m ||| if c = a then 0#8 else 0x20#8 := by
  by_cases hb : b = a
  · rw [hb, if_pos rfl, BitVec.zero_or]
  · rw [if_neg hb, if_neg fun hc => hb (h hc), ← BitVec.or_assoc, BitVec.or_comm 0x20#8, BitVec.or_assoc]
    split
    · rw [BitVec.or_zero]
    · rw [BitVec.or_self]

theorem State.emptySlot_empty {l : LoopId} (h : (s.slots.get p).get l = none) : s.emptySlot p l = s := by
  rw [State.emptySlot, h]

theorem State.emptySlot_held {l : LoopId} (h : (s.slots.get p).get l ≠ none) :
    s.emptySlot p l = (s.modSlot p l none).recomputeMerge l := by
  obtain ⟨r, hr⟩ := Option.ne_none_iff_exists'.1 h
  rw [State.emptySlot, hr]

theorem State.withdrawRequest_withdrawn {l : LoopId} {b : Byte} (hb : t.body = [b]) (hc : s.cls p ≠ .observer)
    (hl : SegId.ofNumber b.toNat = some l) : s.withdrawRequest p t = (s.emptySlot p l).reply p [doneByte] := by
  simp [State.withdrawRequest, hb, hc, hl]

theorem State.withdrawRequest_noLoop {b : Byte} (hb : t.body = [b]) (hc : s.cls p ≠ .observer)
    (hl : SegId.ofNumber b.toNat = none) : s.withdrawRequest p t = s.refuse p .malformed := by
  simp [State.withdrawRequest, hb, hc, hl]

/-- Settles O35: both empty the slot and merge; the expiry also sets its fault first. -/
theorem withdrawAndExpiryEmptySlot : Obligations.WithdrawAndExpiryEmptySlot := by
  refine ⟨fun s p t b h hk hb => ⟨fun hcls => ?rights, fun hcls hl => ?noLoop⟩, fun s p l => ?_⟩
  case rights =>
    exact h.onlyAnswers (exec_plant_rights (n := 1) (by simp [plantCommands]) h hk (by rw [hb]; rfl) hcls) rfl
  case noLoop =>
    refine h.onlyAnswers (exec_withdrawRequest_ready h hk) ?_
    rw [State.withdrawRequest_noLoop hb hcls hl]; rfl
  intro slots m withConflict bits
  refine ⟨fun t b h hk hb hl hcls => ⟨fun hempty => ?_, fun hheld => ?_⟩, fun moment => ⟨fun hempty => ?_, fun r hr =>
    ⟨fun hearly => ?_, fun hdue => ?_⟩⟩⟩
  · refine h.onlyAnswers (exec_withdrawRequest_ready h hk) ?_
    rw [State.withdrawRequest_withdrawn hb hcls hl, State.emptySlot_empty hempty]; rfl
  · rw [exec_withdrawRequest_ready h hk, State.withdrawRequest_withdrawn hb hcls hl, State.emptySlot_held hheld,
      State.recomputeMerge_eq (s := s.modSlot p l none) (m := m) (faults := withConflict s.faults) rfl rfl]
    exact ⟨_, rfl, rfl, h.answered_of_noticed rfl⟩
  · change execRequestExpiry p ⟨l, moment⟩ s = _
    rw [execRequestExpiry, hempty]
  · change execRequestExpiry p ⟨l, moment⟩ s = _
    rw [execRequestExpiry, hr]
    exact if_neg (by rw [State.runOut_iff]; exact Nat.not_le.2 hearly)
  · intro faults
    have hexpired : (s.advanceTo moment |>.modSlot p l none).setFault .requestExpired =
        { s.advanceTo moment with
          slots := slots, faults := s.faults ||| FaultFlag.requestExpired.mask
          ports := s.noticed fun _ =>
            if s.faults ||| FaultFlag.requestExpired.mask = s.faults then 0#8 else 0x20#8 } :=
      State.setFaultIf_noticed (s := (s.advanceTo moment).modSlot p l none) (cause := true)
        (faults := s.faults ||| FaultFlag.requestExpired.mask) rfl
    have hkept : faults = s.faults → s.faults ||| FaultFlag.requestExpired.mask = s.faults := by
      intro h
      by_cases hm : m.conflict = true
      · exact faults_or_eq (y := FaultFlag.conflict.mask) ((if_pos hm).symm.trans h)
      · exact (if_neg hm).symm.trans h
    have hrun : exec (.requestExpiry p ⟨l, moment⟩) s = .next (State.kickPorts (State.recomputeMerge
        (((s.advanceTo moment).modSlot p l none).setFault .requestExpired) l)) := by
      change execRequestExpiry p ⟨l, moment⟩ s = _
      rw [execRequestExpiry, hr]
      exact if_pos (by rw [State.runOut_iff]; exact hdue)
    rw [hrun, hexpired, State.recomputeMerge_eq (m := m) (faults := faults) rfl rfl]
    refine congrArg (fun ports => Host.Outcome.next (State.kickPorts { s with
      now := max s.now moment, slots := slots, merge := s.merge.set m l, faults := faults, ports := ports })) ?_
    refine (State.noticed_noticed s _ _).trans (congrArg s.noticed (funext fun _ => ?_))
    exact faultBit_trans hkept _

/-! ### MAP (R144, R145) -/

/-- An index a new block of a size may take: in a bank of that size, and held by no entry. -/
def State.FreeIndex (s : State) (size i : Nat) : Prop :=
  i < 64 ∧ s.settings.blockSize (bankOf i) = size ∧ ∀ e ∈ s.accessMap, e.index ≠ i

/-- A bank's lowest free index. -/
theorem State.freeInBank_iff {b : Bank} {k : Nat} : s.freeInBank b = some (b.first + k) ↔
    k < 32 ∧ (∀ e ∈ s.accessMap, e.index ≠ b.first + k) ∧ ∀ j < k, ∃ e ∈ s.accessMap, e.index = b.first + j := by
  unfold State.freeInBank
  rw [List.find?_map, Option.map_eq_some_iff]
  simp only [Nat.add_left_cancel_iff, exists_eq_right, List.find?_range_eq_some]
  simp [Config.bankRoom]
  tauto

theorem State.freeInBank_none {b : Bank} : s.freeInBank b = none ↔ ∀ k < 32, ∃ e ∈ s.accessMap, e.index = b.first + k := by
  simp [State.freeInBank, Config.bankRoom]

theorem bankOf_low {k : Nat} (h : k < 32) : bankOf (Bank.first .low + k) = .low := if_pos (by change 0 + k < 32; omega)

theorem bankOf_high (k : Nat) : bankOf (Bank.first .high + k) = .high := if_neg (by change ¬(32 + k < 32); omega)

theorem State.placeFor_none {size : Nat} (h : ∀ i, ¬s.FreeIndex size i) : s.placeFor size = none :=
  Option.eq_none_iff_forall_ne_some.2 fun i hi => by
    obtain ⟨hsize, hlt, hfree⟩ := State.placeFor_some hi
    exact h i ⟨hlt, hsize, hfree⟩

/-- A block goes to the lowest free index of a bank of its size, bank L before bank H. -/
theorem State.placeFor_lowest {size i : Nat} (h : s.FreeIndex size i) (hlow : ∀ j, j < i → ¬s.FreeIndex size j) :
    s.placeFor size = some i := by
  obtain ⟨hlt, hsize, hfree⟩ := h
  have hused : ∀ (b : Bank) k, k < 32 → b.first + k < i → s.settings.blockSize b = size →
      bankOf (b.first + k) = b → ∃ e ∈ s.accessMap, e.index = b.first + k := by
    intro b k hk hbelow hb hbank
    by_contra hno
    refine hlow _ hbelow ⟨by omega, by rw [hbank]; exact hb, fun e he heq => hno ⟨e, he, heq⟩⟩
  unfold State.placeFor
  by_cases hi : i < 32
  · have hbank : bankOf i = .low := if_pos hi
    rw [hbank] at hsize
    have hfound : s.freeInBank .low = some i := by
      have hzero : Bank.first .low + i = i := Nat.zero_add i
      rw [← hzero] at hfree ⊢
      exact State.freeInBank_iff.2 ⟨hi, hfree, fun j hj =>
        hused .low j (by omega) (by rw [← hzero]; exact Nat.add_lt_add_left hj _) hsize (bankOf_low (by omega))⟩
    rw [if_pos (c := s.settings.blockLow = size) hsize, hfound]
    rfl
  · have hbank : bankOf i = .high := if_neg hi
    rw [hbank] at hsize
    obtain ⟨k, rfl⟩ : ∃ k, i = Bank.first .high + k := ⟨i - 32, by change i = 32 + (i - 32); omega⟩
    have hk : k < 32 := by change 32 + k < 64 at hlt; omega
    have hhigh : s.freeInBank .high = some (Bank.first .high + k) :=
      State.freeInBank_iff.2 ⟨hk, hfree, fun j hj =>
        hused .high j (by omega) (Nat.add_lt_add_left hj _) hsize (bankOf_high j)⟩
    rw [if_pos (c := s.settings.blockHigh = size) hsize, hhigh]
    by_cases hlowsize : s.settings.blockLow = size
    · have hfull : s.freeInBank .low = none := State.freeInBank_none.2 fun j hj =>
        hused .low j hj (by change 0 + j < 32 + k; omega) hlowsize (bankOf_low hj)
      rw [if_pos hlowsize, hfull]
      rfl
    · rw [if_neg hlowsize]
      rfl

theorem bodyMap_rights {a b c d e f r : Byte} (h : 3 < r.toNat) : bodyMap [a, b, c, d, e, f, r] = none :=
  if_neg (by omega)

theorem State.mapBlock_size {b : MapBody} {owner : Option PortId}
    (h : s.settings.blockLow ≠ b.size ∧ s.settings.blockHigh ≠ b.size) : s.mapBlock p b owner = s.refuse p .size := if_pos h

theorem State.mapBlock_duplicate {b : MapBody} {owner : Option PortId}
    (h : ¬(s.settings.blockLow ≠ b.size ∧ s.settings.blockHigh ≠ b.size))
    (hclash : s.accessMap.any (s.clashes owner b.logical b.size) = true) : s.mapBlock p b owner = s.refuse p .duplicate := by
  rw [State.mapBlock, if_neg h, if_pos hclash]

theorem State.mapBlock_clear {b : MapBody} {owner : Option PortId}
    (h : ¬(s.settings.blockLow ≠ b.size ∧ s.settings.blockHigh ≠ b.size))
    (hclear : ¬s.accessMap.any (s.clashes owner b.logical b.size) = true) : s.mapBlock p b owner =
      match s.placeFor b.size with
      | some i => (s.setMap (insertEntry (b.entry owner i) s.accessMap)).reply p [doneByte, byteOf i]
      | none => s.refuse p .full := by
  rw [State.mapBlock, if_neg h, if_neg hclear] <;> rfl

theorem State.clashes_iff {owner : Option PortId} {logical size : Nat} {e : MapEntry} :
    s.clashes owner logical size e = true ↔ (e.owner = owner ∨ e.owner = none ∨ owner = none) ∧
      logical < e.logical + s.sizeOf e ∧ e.logical < logical + size := by
  simp [State.clashes, or_assoc, and_assoc]

theorem ownerOf_isSome {n : Nat} : (ownerOf n).isSome = true ↔ n < 4 ∨ n = 0xFF := by
  unfold ownerOf
  split
  · next h => simp [h]
  · next h =>
    simp only [Option.isSome_map, h, or_false]
    rcases n with _ | _ | _ | _ | n <;> simp [PortId.ofNumber]

/-- A change of the access map alone, answered. -/
theorem State.Ready.setMap_answered (h : s.Ready p t) (es : List MapEntry) (body : List Byte) :
    ((s.setMap es).reply p body).kickPorts = { s with accessMap := es, ports := s.portsAnswering p body } := by
  rw [State.reply_kickPorts (by exact h.1)]
  rfl

/-- Settles O40. -/
theorem mapPlaces : Obligations.MapPlaces := by
  refine ⟨fun s p t owner l1 l0 size p1 p0 rights h hk hb hr => ?_, fun s p t b h hk hb => ?_⟩
  · refine h.onlyAnswers (exec_map_ready h hk) ?_
    rw [State.map, hb, bodyMap_rights hr]; rfl
  intro answer allowed clash free
  have hexec := exec_map_ready h hk
  have hmap : s.cls p = .supervisor → s.map p t = match ownerOf b.owner with
      | some owner => if b.allowed then s.mapBlock p b owner else s.refuse p .malformed
      | none => s.refuse p .malformed := fun hcls => by
    rw [State.map, hb, State.mapTelegram_supervisor hcls] <;> rfl
  have hallowed : allowed ↔ b.allowed = true := by rw [MapBody.allowed_iff, ownerOf_isSome]
  refine ⟨fun hcls => h.onlyAnswers hexec ?_, fun hcls hbad => h.onlyAnswers hexec ?_, fun owner hcls howner hok => ?_⟩
  · rw [State.map, hb, State.mapTelegram_rights hcls]; rfl
  · rw [hmap hcls]
    split
    · rw [if_neg fun hc => hbad (hallowed.2 hc)]; rfl
    · rfl
  · have hblock : s.map p t = s.mapBlock p b owner := by rw [hmap hcls, howner]; exact if_pos (hallowed.1 hok)
    refine ⟨fun hl hh => h.onlyAnswers hexec (by rw [hblock, State.mapBlock_size ⟨hl, hh⟩]; rfl), fun hbank => ?_⟩
    have hfits : ¬(s.settings.blockLow ≠ b.size ∧ s.settings.blockHigh ≠ b.size) := by tauto
    refine ⟨fun ⟨e, he, hclash⟩ => h.onlyAnswers hexec ?_, fun hclear => ?_⟩
    · rw [hblock, State.mapBlock_duplicate hfits (List.any_eq_true.2 ⟨e, he, State.clashes_iff.2 hclash⟩)]; rfl
    · have hnone : ¬s.accessMap.any (s.clashes owner b.logical b.size) = true := fun hany => by
        obtain ⟨e, he, hclash⟩ := List.any_eq_true.1 hany
        exact hclear e he (State.clashes_iff.1 hclash)
      have hplaced := State.mapBlock_clear (p := p) hfits hnone
      refine ⟨fun hfull => h.onlyAnswers hexec ?_, fun i hi hlow => ?_⟩
      · rw [hblock, hplaced, State.placeFor_none hfull]; rfl
      · rw [hexec, hblock, hplaced, State.placeFor_lowest hi hlow]
        dsimp only
        rw [h.setMap_answered]
        rfl

/-! ### The other map telegrams (R146 to R149) -/

theorem ownedAddress_none {o a : Nat} (h : (4 ≤ o ∧ o ≠ 0xFF) ∨ 0x8000 ≤ a) : ownedAddress (o, a) = none := by
  unfold ownedAddress
  rcases h with ⟨hlow, hne⟩ | ha
  · have hnone : ownerOf o = none := by
      rw [← Option.not_isSome_iff_eq_none, ownerOf_isSome]
      omega
    rw [hnone]
    simp
  · exact if_neg (by change ¬(a < 0x8000); omega)

theorem ownedAddress_some {o a : Nat} {owner : Option PortId} (ho : ownerOf o = some owner) (ha : a < 0x8000) :
    ownedAddress (o, a) = some (owner, a) := by
  have hlow : a < directBase := ha
  simp only [ownedAddress, if_pos hlow, ho, Option.map_some]

theorem State.unmap_eq {o a : Nat} {owner : Option PortId} (hcls : s.cls p = .supervisor) (hb : bodyOwned t.body = some (o, a))
    (hx : ownedAddress (o, a) = some (owner, a)) : s.unmap p t = s.unmapAt p owner a := by
  rw [State.unmap, hb, State.mapTelegram_supervisor hcls, hx]

theorem State.probeByAddress_eq {o a : Nat} {owner : Option PortId} (hcls : s.cls p = .supervisor)
    (hb : bodyOwned t.body = some (o, a)) (hx : ownedAddress (o, a) = some (owner, a)) :
    s.probeByAddress p t = s.probeAt p owner a := by
  rw [State.probeByAddress, hb, State.mapTelegram_supervisor hcls, hx]

theorem State.flush_eq {c : Byte} (hcls : s.cls p = .supervisor) (hb : t.body = [c]) : s.flush p t =
    match Bank.ofCode c.toNat with
    | some b => (s.flushBank b).reply p [doneByte, byteOf (s.validIn b)]
    | none => s.refuse p .malformed := by
  rw [State.flush, hb, body1_singleton, State.mapTelegram_supervisor hcls] <;> rfl

theorem Bank.ofCode_none {n : Nat} (h : 1 < n) : Bank.ofCode n = none := by
  unfold Bank.ofCode
  split
  · omega
  · omega
  · rfl

theorem State.probeByIndex_eq {i : Byte} (hcls : s.cls p = .supervisor) (hb : t.body = [i]) : s.probeByIndex p t =
    match s.accessMap.find? fun e => e.index == i.toNat with
    | some e => s.reply p (doneByte :: s.entryBytes e)
    | none => s.reply p (doneByte :: noEntryBytes 8) := by
  rw [State.probeByIndex, hb, body1_singleton, State.mapTelegram_supervisor hcls] <;> rfl

theorem State.entryBytes_eq (s : State) (e : MapEntry) : s.entryBytes e = [0x01#8, byteOf e.index, (match e.owner with
      | some .sp0 => 0#8
      | some .sp1 => 1#8
      | some .sp2 => 2#8
      | some .sp3 => 3#8
      | none => 0xFF#8)] ++ be16 (wordOf e.logical) ++ [byteOf (s.settings.blockSize (bankOf e.index))] ++
    be16 (wordOf e.physical) ++ [(if e.readRight then 1#8 else 0#8) + (if e.overrideRight then 2#8 else 0#8)] := by
  have howner : ownerByte e.owner = (match e.owner with
      | some .sp0 => 0#8
      | some .sp1 => 1#8
      | some .sp2 => 2#8
      | some .sp3 => 3#8
      | none => 0xFF#8) := by
    cases e.owner with
    | none => rfl
    | some q => cases q <;> rfl
  have hrights : (flagByte e.readRight ||| (flagByte e.overrideRight <<< 1)) =
      (if e.readRight then 1#8 else 0#8) + (if e.overrideRight then 2#8 else 0#8) := by
    cases e.readRight <;> cases e.overrideRight <;> rfl
  rw [State.entryBytes, howner, hrights]
  rfl

/-- Settles O41. -/
theorem unmapFlushAndProbe : Obligations.UnmapFlushAndProbe := by
  refine ⟨fun s p t c k n hc h hk hlength hcls => ?_, fun s p t h hcls => ⟨fun o a hb hbad => ?_, fun o a owner hb ho ha => ?_,
    fun c hk hb => ?_, fun i hk hb => ?_⟩⟩
  · refine h.onlyAnswers (exec_supervisor_rights (n := n) ?_ h hk hlength ?_ hcls) rfl
    · simp only [List.mem_cons, Prod.mk.injEq, List.not_mem_nil, or_false] at hc
      rcases hc with hc | hc | hc | hc <;> obtain ⟨rfl, rfl, rfl⟩ := hc <;> simp [supervisorCommands]
    · simp only [List.mem_cons, Prod.mk.injEq, List.not_mem_nil, or_false] at hc
      rcases hc with hc | hc | hc | hc <;> obtain ⟨-, rfl, -⟩ := hc <;> exact fun hkind => absurd hkind (by decide)
  · have hnone := ownedAddress_none hbad
    refine ⟨fun hk => h.onlyAnswers (exec_unmap_ready h hk) ?_, fun hk => h.onlyAnswers (exec_probeByAddress_ready h hk) ?_⟩
    · rw [State.unmap, hb, State.mapTelegram_supervisor hcls, hnone]; rfl
    · rw [State.probeByAddress, hb, State.mapTelegram_supervisor hcls, hnone]; rfl
  · have hsome := ownedAddress_some ho ha
    refine ⟨fun hk => ⟨fun e he => ?_, fun hno => ?_⟩, fun hk => ⟨fun e he => ?_, fun hno => ?_⟩⟩
    · rw [exec_unmap_ready h hk, State.unmap_eq hcls hb hsome, State.unmapAt, he]
      dsimp only
      rw [h.setMap_answered]
      rfl
    · refine h.onlyAnswers (exec_unmap_ready h hk) ?_
      have hnone : s.accessMap.find? (fun e => e.owner == owner && s.covers e a) = none := by
        refine List.find?_eq_none.2 fun e he => ?_
        by_cases howner : e.owner = owner
        · simp [hno e he howner]
        · simp [howner]
      rw [State.unmap_eq hcls hb hsome, State.unmapAt, hnone]
      rfl
    · refine h.onlyAnswers (exec_probeByAddress_ready h hk) ?_
      rw [State.probeByAddress_eq hcls hb hsome, State.probeAt, he]
      rfl
    · refine h.onlyAnswers (exec_probeByAddress_ready h hk) ?_
      rw [State.probeByAddress_eq hcls hb hsome, State.probeAt, hno]
      rfl
  · refine ⟨fun hbad => h.onlyAnswers (exec_flush_ready h hk) ?_, fun k hbank => ?_⟩
    · rw [State.flush_eq hcls hb, Bank.ofCode_none hbad]; rfl
    · have hcode : Bank.ofCode c.toNat = some k := by rcases hbank with ⟨rfl, rfl⟩ | ⟨rfl, rfl⟩ <;> rfl
      rw [exec_flush_ready h hk, State.flush_eq hcls hb, hcode]
      dsimp only
      rw [State.flushBank, h.setMap_answered]
      rfl
  · refine ⟨fun e he => h.onlyAnswers (exec_probeByIndex_ready h hk) ?_, fun hno =>
      h.onlyAnswers (exec_probeByIndex_ready h hk) ?_, s.entryBytes_eq⟩
    · rw [State.probeByIndex_eq hcls hb, he]; rfl
    · have hnone : s.accessMap.find? (fun e => e.index == i.toNat) = none :=
        List.find?_eq_none.2 fun e he => by simpa using hno e he
      rw [State.probeByIndex_eq hcls hb, hnone]
      rfl

end

end Sys2Proof.Machine
end

section
/-! The layouts of the replies (12.4): each part of a reply at its place. -/

namespace Sys2Proof.Machine

/-! ### Parts of a list of bytes -/

/-- A part of some bytes put together from chunks is a chunk, at the place the lengths before it add up to. -/
theorem flatten_part {cs : List (List Byte)} {ls : List Nat} (h : cs.map List.length = ls) (i : Nat) {x : List Byte}
    (hx : cs[i]? = some x) : (cs.flatten.drop (ls.take i).sum).take (ls.getD i 0) = x := by
  obtain ⟨hi, rfl⟩ := List.getElem?_eq_some_iff.1 hx
  subst h
  have hplace : ((cs.map List.length).take i).sum = (cs.take i).flatten.length := by
    rw [List.length_flatten, List.map_take]
  have hsize : (cs.map List.length).getD i 0 = cs[i].length := by
    rw [List.getD_eq_getElem _ _ (by simpa using hi), List.getElem_map]
  have hsplit : cs.flatten = (cs.take i).flatten ++ (cs[i] ++ (cs.drop (i + 1)).flatten) := by
    conv_lhs => rw [← List.take_append_drop i cs, List.drop_eq_getElem_cons hi]
    rw [List.flatten_append, List.flatten_cons]
  rw [hplace, hsize, hsplit, List.drop_left, List.take_left]

/-- The part of blocks of one length that a block is. -/
theorem flatMap_part {α : Type} {f : α → List Byte} {k : Nat} {xs : List α} (h : ∀ x ∈ xs, (f x).length = k) {n : Nat} {x : α}
    (hx : xs[n]? = some x) (post : List Byte) : ((xs.flatMap f ++ post).drop (k * n)).take k = f x := by
  obtain ⟨hn, rfl⟩ := List.getElem?_eq_some_iff.1 hx
  have hbefore : ((xs.take n).flatMap f).length = k * n := by
    rw [flatMap_length_eq fun y hy => h y (List.mem_of_mem_take hy), List.length_take, Nat.min_eq_left (Nat.le_of_lt hn)]
  have hsplit : xs.flatMap f ++ post = (xs.take n).flatMap f ++ (f xs[n] ++ ((xs.drop (n + 1)).flatMap f ++ post)) := by
    conv_lhs => rw [← List.take_append_drop n xs, List.drop_eq_getElem_cons hn]
    rw [List.flatMap_append, List.flatMap_cons, List.append_assoc, List.append_assoc]
  rw [hsplit, ← hbefore, List.drop_left, ← h _ (List.getElem_mem hn), List.take_left]

/-- A part of a part. -/
theorem drop_take_part {r : List Byte} {n k m j : Nat} (h : m + j ≤ k) :
    (r.drop (n + m)).take j = (((r.drop n).take k).drop m).take j := by
  rw [List.drop_take, List.take_take, List.drop_drop, Nat.min_eq_left (by omega)]

/-- Two bits told by two yes/no fields. -/
theorem flags_or (a b : Bool) : (flagByte a ||| (flagByte b <<< 1)) = (if a then 1#8 else 0#8) + (if b then 2#8 else 0#8) := by
  cases a <;> cases b <;> rfl

/-! ### Points and stations -/

theorem Point.block_eq (q : Point) : q.block =
    let code := match q.quality with
      | .good => 0#8
      | .held => 1#8
      | .stale => 2#8
      | .none => 3#8
    match q.stored with
    | some v => be16 (signedWord v.value) ++ [0x80#8 + code] ++ be16 v.stamp
    | none => [0xFF#8, 0xFF#8, code, 0xFF#8, 0xFF#8] := by
  obtain ⟨stored, quality⟩ := q
  have hbit : quality.code ||| 0x80#8 = 0x80#8 + quality.code := by cases quality <;> rfl
  cases stored with
  | none => cases quality <;> rfl
  | some v =>
    refine (congrArg (fun b => be16 (signedWord v.value) ++ [b] ++ be16 v.stamp) hbit).trans ?_
    cases quality <;> rfl

theorem Station.link_code (st : Station) :
    st.link.code = if 8 ≤ st.counter then 0#8 else if st.counter = 0 then 2#8 else 1#8 := by
  unfold Station.link linkFor
  split
  · rfl
  · split <;> rfl

theorem Station.reply_head (st : Station) (g : SegId) : (st.reply g).take 8 = [0x00#8, byteOf g.number, byteOf st.addr,
      (match st.kind with
        | .unit => 1#8
        | .ambient => 2#8
        | .loop => 3#8),
      byteOf st.counter, (if 8 ≤ st.counter then 0#8 else if st.counter = 0 then 2#8 else 1#8),
      (if st.mode = .auto then 0#8 else 1#8),
      (if st.attention then 1#8 else 0#8) + (if st.mismatch then 2#8 else 0#8)] := by
  rw [← st.link_code, ← flags_or]
  have hkind : st.kind.code = (match st.kind with
      | .unit => 1#8
      | .ambient => 2#8
      | .loop => 3#8) := by cases st.kind <;> rfl
  have hmode : st.mode.code = if st.mode = .auto then 0#8 else 1#8 := by cases st.mode <;> rfl
  rw [← hkind, ← hmode]
  rfl

theorem Station.reply_block {st : Station} (h : st.points.length = 8) (g : SegId) {q : Nat} (hq : q < 8) :
    ((st.reply g).drop (8 + 5 * q)).take 5 = (st.point q).block := by
  have hpoint : st.points[q]? = some (st.point q) := by
    rw [Station.point, List.getD_eq_getElem _ _ (by omega), List.getElem?_eq_getElem (by omega)]
  have hpart := flatMap_part (f := Point.block) (k := 5) (fun x _ => x.block_length) hpoint []
  rw [List.append_nil] at hpart
  rw [← hpart, ← List.drop_drop]
  rfl

/-! ### READ STATUS -/

section
variable (s : State) (p : PortId) (l : LoopId)

/-- The parts of the reply to READ STATUS. -/
def State.statusParts : List (List Byte) :=
  [[0x00#8, byteOf l.number], (s.merge.get l).bytes, slotBytes s.now ((s.slots.get p).get l),
    be16 (wordOf (s.alloc.get l).demand) ++ be16 (signedWord (s.alloc.get l).ePrev),
    be16 (match (s.alloc.get l).lastSupply with
      | some t => signedWord t
      | none => 0x8000#16),
    [flagByte (s.alloc.get l).supplyValid, flagByte ((s.alloc.get l).passes == 0)],
    lastRunBytes (s.alloc.get l).lastRun, [byteOf (s.alloc.get l).order.length],
    padTo 10 ((s.alloc.get l).order.map byteOf), (s.fpb.get l).bytes s.ta, [byteOf (s.fpb.get l).units.length],
    padTo 50 ((s.fpb.get l).units.flatMap UnitFrost.bytes),
    [byteOf (s.buffer.get l).length, byteOf (s.settle.get l).length, ((s.fences.get p).get l).code], [s.markedByte p l],
    s.segmentBytes l]

theorem State.statusReply_parts : s.statusReply p l = (s.statusParts p l).flatten := by
  simp [State.statusReply, State.statusParts, Allocator.demandBytes, Allocator.orderBytes, Fpb.unitBytes, State.outputBytes,
    doneByte] <;> rfl

theorem UnitFrost.flatMap_length (us : List UnitFrost) : (us.flatMap UnitFrost.bytes).length = 5 * us.length :=
  flatMap_length_eq fun u _ => u.bytes_length

theorem State.statusParts_lengths {s : State} {l : LoopId} (p : PortId) (hunits : (s.fpb.get l).units.length ≤ 10)
    (horder : (s.alloc.get l).order.length ≤ 10) :
    (s.statusParts p l).map List.length = [2, 7, 11, 4, 2, 2, 7, 1, 10, 11, 1, 50, 3, 1, 3] := by
  have horders : (padTo 10 ((s.alloc.get l).order.map byteOf)).length = 10 := padTo_length (by simpa using horder)
  have hunit : (padTo 50 ((s.fpb.get l).units.flatMap UnitFrost.bytes)).length = 50 :=
    padTo_length (by rw [UnitFrost.flatMap_length]; omega)
  simp only [State.statusParts, List.map_cons, List.map_nil, horders, hunit, slotBytes_length, lastRunBytes_length]
  rfl

end

theorem flagByte_eq (b : Bool) : flagByte b = if b then 1#8 else 0#8 := rfl

/-- The block of a unit, and the filler where there is none. -/
theorem unitBytes_part {us : List UnitFrost} {n : Nat} {u : UnitFrost} (h : us[n]? = some u) :
    ((padTo 50 (us.flatMap UnitFrost.bytes)).drop (5 * n)).take 5 = u.bytes :=
  flatMap_part (fun x _ => x.bytes_length) h _

theorem unitBytes_filler {us : List UnitFrost} {n : Nat} (h : us.length ≤ n) (hn : n < 10) :
    ((padTo 50 (us.flatMap UnitFrost.bytes)).drop (5 * n)).take 5 = List.replicate 5 0xFF#8 := by
  have hlength := UnitFrost.flatMap_length us
  rw [padTo, List.drop_append, List.drop_eq_nil_of_le (by omega), List.nil_append, List.drop_replicate, List.take_replicate,
    hlength, Nat.min_eq_left (by omega)]
  rfl

theorem UnitFrost.bytes_eq (x : UnitFrost) : x.bytes = [byteOf x.addr,
    (match x.frost with
      | .normal => 0#8
      | .guard => 1#8
      | .protect => 2#8)] ++ be16 (signedWord x.margin) ++ [if x.iced then 1#8 else 0#8] := by
  have hfrost : x.frost.code = (match x.frost with
      | .normal => 0#8
      | .guard => 1#8
      | .protect => 2#8) := by cases x.frost <;> rfl
  rw [UnitFrost.bytes, hfrost]
  rfl

theorem FenceRecord.code_eq (r : FenceRecord) : r.code = (match r with
    | .none => 0#8
    | .pending _ => 1#8
    | .settled => 2#8
    | .incomplete => 3#8) := by cases r <;> rfl

/-! ### READ OVERRIDES -/

theorem OutputValue.output_number (v : OutputValue) : byteOf v.output.number = (match v with
    | .fan _ => 8#8
    | .valve _ => 9#8
    | .bypass _ => 10#8) := by cases v <;> rfl

theorem valueField_eq (v : Option OutputValue) : valueField v = be16 ((v.map OutputValue.word).getD 0xFFFF#16) := by
  cases v <;> rfl

theorem OutputValue.word_eq (v : OutputValue) : v.word = (match v with
    | .fan n => wordOf n
    | .valve .toOpen => 0#16
    | .valve .toClose => 1#16
    | .bypass n => wordOf n) := by
  cases v with
  | valve x => cases x <;> rfl
  | _ => rfl

theorem Delivery.code_eq (d : Delivery) : d.code = if d = .posted then 0#8 else 1#8 := by cases d <;> rfl

theorem State.overrideBytes_eq (s : State) (r : OverrideRecord) : s.overrideBytes r =
    [byteOf r.index, byteOf r.seg.number, byteOf r.station,
      (match r.value with
        | .fan _ => 8#8
        | .valve _ => 9#8
        | .bypass _ => 10#8)] ++ be16 r.value.word ++ [byteOf r.owner.number] ++ be16 (wordOf r.hold) ++
      be16 (wordOf ((r.deadline - s.now + 999) / 1000)) ++
      [if r.delivery = .posted then 0#8 else 1#8, (s.overrideStatus r).code] ++
      be16 ((((s.commands r.seg r.station).writtenValue r.value.output).map OutputValue.word).getD 0xFFFF#16) := by
  rw [State.overrideBytes, valueField_eq, Delivery.code_eq, OutputValue.output_number]
  rfl

/-! ### READ POINT of an output -/

theorem flyingEntry_eq (a : Nat) (es : List Entry) : flyingEntry a es = es.findSome? fun e => match e.state with
    | .inFlight sent => if e.station = a then some (e.posted, sent) else none
    | .waiting => none := by
  induction es with
  | nil => rfl
  | cons e es ih =>
    rw [flyingEntry, List.findSome?_cons, ← ih]
    cases e.state with
    | waiting => rfl
    | inFlight sent =>
      dsimp only
      split <;> rfl

theorem presence_byte (a b c d : Bool) : byteOf ((if a then 1 else 0) + (if b then 2 else 0) + (if c then 4 else 0) +
    (if d then 8 else 0)) = (if a then 1#8 else 0#8) + (if b then 2#8 else 0#8) + (if c then 4#8 else 0#8) +
      (if d then 8#8 else 0#8) := by
  cases a <;> cases b <;> cases c <;> cases d <;> rfl

theorem ite_isSome {α β : Type} (o : Option α) (x y : β) :
    (if o.isSome = true then x else y) = if o.isSome = false then y else x := by cases o <;> rfl

theorem secondsSince_cases (now moment : Nat) : secondsSince now moment = (now - moment) / 1000 ∨
    ((now - moment) % 1000 ≠ 0 ∧ secondsSince now moment = (now - moment) / 1000 + 1) := by
  unfold secondsSince
  dsimp only
  split
  · next h => exact .inr ⟨h.1, rfl⟩
  · exact .inl rfl

/-! ### The layouts put together -/

theorem be16_absent : be16 0xFFFF#16 = [0xFF#8, 0xFF#8] := by decide

section
variable {s : State} {p : PortId} {l : LoopId} (hunits : (s.fpb.get l).units.length ≤ 10)
  (horder : (s.alloc.get l).order.length ≤ 10)
include hunits horder

/-- A part of the reply to READ STATUS stands at its place. -/
theorem State.statusReply_part (i : Nat) {x : List Byte} (hx : (s.statusParts p l)[i]? = some x) :
    ((s.statusReply p l).drop (([2, 7, 11, 4, 2, 2, 7, 1, 10, 11, 1, 50, 3, 1, 3] : List Nat).take i).sum).take
      (([2, 7, 11, 4, 2, 2, 7, 1, 10, 11, 1, 50, 3, 1, 3] : List Nat).getD i 0) = x := by
  rw [State.statusReply_parts]
  exact flatten_part (State.statusParts_lengths p hunits horder) i hx

/-- What the place of a unit's block holds is what the list of blocks, filled up, holds there. -/
theorem State.statusReply_unit {n : Nat} (hn : n < 10) : ((s.statusReply p l).drop (58 + 5 * n)).take 5 =
    ((padTo 50 ((s.fpb.get l).units.flatMap UnitFrost.bytes)).drop (5 * n)).take 5 := by
  rw [drop_take_part (k := 50) (by omega)]
  exact congrArg (fun bs : List Byte => (bs.drop (5 * n)).take 5) (State.statusReply_part hunits horder 11 rfl)

end

theorem overridesReply_record {s : State} {n : Nat} {r : OverrideRecord} (h : s.overrides[n]? = some r) :
    (s.overridesReply.drop (2 + 15 * n)).take 15 = s.overrideBytes r := by
  have hpart := flatMap_part (f := s.overrideBytes) (k := 15) (fun x _ => s.overrideBytes_length x) h []
  rw [List.append_nil] at hpart
  rw [← List.drop_drop]
  exact hpart

section
variable (s : State) (g : SegId) (a : Nat) (o : OutputId) (d : Nat)

/-- The values of an output's OPEN entry, its entry IN FLIGHT, its settle item and its override record. -/
def State.openValue : Option OutputValue := (openEntry a (s.buffer.get g)).bind fun e => e.posted.get? o

def State.flyingPosted : Option OutputValue := (flyingEntry a (s.buffer.get g)).bind fun f => f.1.get? o

def State.flyingSent : Option OutputValue := (flyingEntry a (s.buffer.get g)).bind fun f => f.2.get? o

def State.settling : Option SettleItem := (s.settle.get g).find? fun i => i.isFor a o

/-- The parts of the reply to READ POINT of an output. -/
def State.outputParts : List (List Byte) :=
  [0x00#8 :: be16 (wordOf d),
    [(if s.openValue g a o = none then 0#8 else 1#8) + (if s.flyingPosted g a o = none then 0#8 else 2#8) +
      (if s.settling g a o = none then 0#8 else 4#8) + (if s.override? g a o = none then 0#8 else 8#8)],
    valueField ((s.commands g a).allocatorValue o) ++ valueField ((s.commands g a).postedValue o) ++
      valueField ((s.commands g a).writtenValue o),
    valueField (s.openValue g a o), valueField (s.flyingPosted g a o) ++ valueField (s.flyingSent g a o),
    valueField ((s.settling g a o).map SettleItem.value),
    be16 (match s.settling g a o with
      | some i => wordOf (secondsSince s.now i.sentAt)
      | none => 0xFFFF#16),
    valueField ((s.override? g a o).map OverrideRecord.value), (s.point g a (echoPoint o)).block]

theorem ite_none_flag {α : Type} (x : Option α) (b : Byte) : (if x = none then 0#8 else b) = if x.isSome then b else 0#8 := by
  cases x <;> rfl

theorem State.outputReply_parts : s.outputReply g a o d = (s.outputParts g a o d).flatten := by
  have hflags := presence_byte (s.openValue g a o).isSome (s.flyingPosted g a o).isSome (s.settling g a o).isSome
    (s.override? g a o).isSome
  simp only [State.outputParts, ite_none_flag, ← hflags, List.flatten_cons, List.flatten_nil, List.append_nil]
  simp only [State.outputReply, List.append_assoc]
  rfl

theorem State.outputParts_lengths : (s.outputParts g a o d).map List.length = [3, 1, 6, 2, 4, 2, 2, 2, 5] := by
  simp only [State.outputParts, List.map_cons, List.map_nil, List.length_append, valueField_length, Point.block_length]
  rfl

/-- A part of the reply to READ POINT of an output stands at its place. -/
theorem State.outputReply_part (i : Nat) {x : List Byte} (hx : (s.outputParts g a o d)[i]? = some x) :
    ((s.pointReply g a (.output o) d).drop (([3, 1, 6, 2, 4, 2, 2, 2, 5] : List Nat).take i).sum).take
      (([3, 1, 6, 2, 4, 2, 2, 2, 5] : List Nat).getD i 0) = x := by
  have hreply : s.pointReply g a (.output o) d = (s.outputParts g a o d).flatten := s.outputReply_parts g a o d
  rw [hreply]
  exact flatten_part (s.outputParts_lengths g a o d) i hx

end

/-- Settles O31: each reply is put together from parts of fixed lengths, so each part stands where the lengths before it add
up to. -/
theorem replySizes : Obligations.ReplySizes := by
  unfold Obligations.ReplySizes
  refine ⟨fun st g h => ⟨by rw [Station.reply_length, h], st.reply_head g, fun q hq => ?_⟩, fun s p l hunits horder => ?_,
    fun s => ⟨s.overridesReply_length, rfl, fun n r h => (overridesReply_record h).trans (s.overrideBytes_eq r)⟩,
    fun s h => ?_, fun s g a q d => ?_, fun s g a d o => ?_⟩
  · exact (Station.reply_block h g hq).trans (Point.block_eq _)
  · have part := fun i x => State.statusReply_part (p := p) hunits horder i (x := x)
    refine ⟨s.statusReply_length p horder hunits, part 0 _ rfl, part 1 _ rfl, fun h => ?_, fun x h => ?_, part 3 _ rfl, ?_,
      ?_, fun h => ?_, fun x h => ?_, part 7 _ rfl, ?_, part 9 _ rfl, part 10 _ rfl, fun n x h => ?_, fun n h hn => ?_, ?_,
      part 13 _ rfl, part 14 _ rfl⟩
    · exact part 2 _ (congrArg (fun x => some (slotBytes s.now x)) h)
    · exact part 2 _ (congrArg (fun x => some (slotBytes s.now x)) h)
    · refine part 4 _ ?_
      change some _ = some _
      cases (s.alloc.get l).lastSupply <;> rfl
    · refine part 5 _ ?_
      change some _ = some _
      simp only [flagByte, beq_iff_eq]
    · exact part 6 _ (congrArg (fun x => some (lastRunBytes x)) h)
    · exact part 6 _ (congrArg (fun x => some (lastRunBytes x)) h)
    · refine part 8 _ ?_
      change some (padTo 10 _) = some _
      rw [padTo, List.length_map]
      rfl
    · have hn : n < 10 := Nat.lt_of_lt_of_le (List.getElem?_eq_some_iff.1 h).1 hunits
      exact (State.statusReply_unit hunits horder hn).trans ((unitBytes_part h).trans x.bytes_eq)
    · exact (State.statusReply_unit hunits horder hn).trans (unitBytes_filler h hn)
    · refine (part 12 _ rfl).trans ?_
      rw [FenceRecord.code_eq] <;> rfl
  · have hle := h.length_le
    rw [s.overridesReply_length]
    omega
  · exact congrArg (fun b => 0x00#8 :: (be16 (wordOf d) ++ b)) (Point.block_eq _)
  · have part := fun i x => s.outputReply_part g a o d i (x := x)
    intro word field r part' opened flying item held
    have hflying : flyingEntry a (s.buffer.get g) = flying := flyingEntry_eq a (s.buffer.get g)
    have hword : OutputValue.word = word := funext OutputValue.word_eq
    have hfield : ∀ v, valueField v = field v := fun v => by rw [valueField_eq, hword]
    have hposted : s.flyingPosted g a o = flying.bind fun f => f.1.get? o := by rw [State.flyingPosted, hflying]
    have hsent : s.flyingSent g a o = flying.bind fun f => f.2.get? o := by rw [State.flyingSent, hflying]
    refine ⟨s.pointReply_length g a (.output o) d, part 0 _ rfl, ?_, ?_, ?_, ?_, ?_, fun h => ?_, fun i h => ?_, ?_, ?_⟩
    · rw [← hposted]
      exact part 1 _ rfl
    · rw [← hfield, ← hfield, ← hfield]
      exact part 2 _ rfl
    · rw [← hfield]
      exact part 3 _ rfl
    · rw [← hposted, ← hsent, ← hfield, ← hfield]
      exact part 4 _ rfl
    · rw [← hfield]
      exact part 5 _ rfl
    · exact part 6 _ (by change some _ = some _; rw [show s.settling g a o = none from h]; exact congrArg some be16_absent)
    · exact ⟨secondsSince s.now i.sentAt, part 6 _ (by change some _ = some _; rw [show s.settling g a o = some i from h]),
        secondsSince_cases s.now i.sentAt⟩
    · rw [← hfield]
      exact part 7 _ rfl
    · refine (part 8 _ rfl).trans ((Point.block_eq _).trans ?_)
      cases o <;> rfl

end Sys2Proof.Machine
end

section
/-! Arbitration (R41, R42) rule by rule: what stands at each place of the order, what each choice starts, and the commands
that bring a segment to choose. -/

namespace Sys2Proof.Machine

theorem PerSeg.modify_modify {α : Type} (t : PerSeg α) (g : SegId) (f k : α → α) :
    (t.modify g f).modify g k = t.modify g fun x => k (f x) := by cases g <;> rfl

/-- In a list in ascending order the first element that passes is the least that does. -/
theorem find?_least {α : Type} {f : α → Nat} {p : α → Bool} {xs : List α} {x : α} (hsorted : xs.Pairwise fun y z => f y < f z)
    (hx : x ∈ xs) (hp : p x = true) (hleast : ∀ y ∈ xs, p y = true → f x ≤ f y) : xs.find? p = some x := by
  obtain ⟨before, after, rfl⟩ := List.append_of_mem hx
  refine List.find?_eq_some_iff_append.2 ⟨hp, before, after, rfl, fun y hy => ?_⟩
  have hlt : f y < f x := (List.pairwise_append.1 hsorted).2.2 y hy x (List.mem_cons_self ..)
  have hfails : p y ≠ true := fun h => Nat.not_lt.2 (hleast y (List.mem_append_left _ hy) h) hlt
  simpa using hfails

theorem addresses_ascending (set : Word) : (addresses set).Pairwise (· < ·) :=
  List.Pairwise.filter _ (by decide)

theorem State.ImageFollowsPopulation.ascending {s : State} (h : s.ImageFollowsPopulation) (g : SegId) :
    (s.image.get g).Pairwise fun x y => x.addr < y.addr :=
  List.pairwise_map.1 ((h g).1 ▸ addresses_ascending _)

section
variable {s : State} {g : SegId}

/-! ### The places of the order -/

theorem State.choose_owed {j : ReadJob} (h : (s.fsc.get g).owed = some j) : s.choose g = .continuation j := by
  rw [State.choose, h]

/-- The starvation count and the pass put the scan call first (R42). -/
theorem State.guardActs_iff : s.guardActs g = true ↔
    8 ≤ (s.fsc.get g).starvation ∧ (s.fsc.get g).passRunning = true ∧ (s.nextScan g).isSome = true := by
  unfold State.guardActs
  simp only [Bool.and_eq_true, decide_eq_true_eq, and_assoc]
  rfl

theorem State.choose_guarded (ho : (s.fsc.get g).owed = none) (h : s.guardActs g = true) : s.choose g = s.chooseScan g := by
  rw [State.choose, ho]
  exact if_pos h

theorem State.choose_unguarded (ho : (s.fsc.get g).owed = none) (h : s.guardActs g = false) :
    s.choose g = s.choosePoll g := by
  rw [State.choose, ho]
  exact if_neg (by rw [h]; exact Bool.false_ne_true)

theorem State.choosePoll_armed (harmed : (s.fsc.get g).pollArmed = true) (hline : (s.fsc.get g).lineAsserted = true) :
    s.choosePoll g = .poll := by
  unfold State.choosePoll
  simp [harmed, hline]

theorem State.choosePoll_rest (h : (s.fsc.get g).pollArmed = false ∨ (s.fsc.get g).lineAsserted = false) :
    s.choosePoll g = s.chooseEvent g := by
  unfold State.choosePoll
  rcases h with h | h <;> simp [h]

theorem State.chooseEvent_first {st : Station} (h : (s.image.get g).find? (fun x => x.attention && s.mayRead g x.addr) = some st) :
    s.chooseEvent g = .event st.addr := by rw [State.chooseEvent, h]

theorem State.chooseEvent_rest (h : ∀ st ∈ s.image.get g, s.mayRead g st.addr = true → st.attention = false) :
    s.chooseEvent g = s.chooseWrite g := by
  have hnone : (s.image.get g).find? (fun x => x.attention && s.mayRead g x.addr) = none :=
    List.find?_eq_none.2 fun st hst hboth => by
      obtain ⟨hatt, hmay⟩ := Bool.and_eq_true_iff.1 hboth
      rw [h st hst hmay] at hatt
      cases hatt
  rw [State.chooseEvent, hnone]

theorem State.chooseWrite_head {e : Entry} {es : List Entry} (hb : s.buffer.get g = e :: es)
    (hroom : (s.settle.get g).length < 15) : s.chooseWrite g = .write e.station := by
  rw [State.chooseWrite, hb]
  exact if_pos hroom

theorem State.chooseWrite_rest (h : s.buffer.get g = [] ∨ 15 ≤ (s.settle.get g).length) :
    s.chooseWrite g = s.chooseReadThrough g := by
  unfold State.chooseWrite
  split
  · next e es hb =>
    refine if_neg ?_
    rcases h with h | h
    · rw [hb] at h; cases h
    · exact Nat.not_lt.2 h
  · rfl

theorem State.chooseReadThrough_first {before after : List ReadThrough} {e : ReadThrough}
    (hq : (s.fsc.get g).readThroughs = before ++ e :: after) (hbefore : ∀ x ∈ before, s.mayRead g x.station = false)
    (hmay : s.mayRead g e.station = true) : s.chooseReadThrough g = .readThrough e := by
  have hfind : (s.fsc.get g).readThroughs.find? (fun e => s.mayRead g e.station) = some e :=
    List.find?_eq_some_iff_append.2 ⟨hmay, before, after, hq, fun x hx => by simp [hbefore x hx]⟩
  rw [State.chooseReadThrough, hfind]

theorem State.chooseReadThrough_rest (h : ∀ e ∈ (s.fsc.get g).readThroughs, s.mayRead g e.station = false) :
    s.chooseReadThrough g = s.chooseScan g := by
  have hnone : (s.fsc.get g).readThroughs.find? (fun e => s.mayRead g e.station) = none :=
    List.find?_eq_none.2 fun e he => by simp [h e he]
  rw [State.chooseReadThrough, hnone]

theorem State.chooseScan_stopped (h : (s.fsc.get g).passRunning = false) : s.chooseScan g = .nothing := by
  simp [State.chooseScan, h]

theorem State.chooseScan_some {a : Nat} (h : (s.fsc.get g).passRunning = true) (hn : s.nextScan g = some a) :
    s.chooseScan g = .scan a := by simp [State.chooseScan, h, hn]

theorem State.chooseScan_none (h : (s.fsc.get g).passRunning = true) (hn : s.nextScan g = none) :
    s.chooseScan g = .endOfPass := by simp [State.chooseScan, h, hn]

/-! ### What a choice starts -/

/-- The segment's record changed, with a call in flight. -/
def State.calling (s : State) (g : SegId) (job : Job) (retries time : Nat) (more : Fsc → Fsc) : State :=
  { s with fsc := s.fsc.modify g fun x =>
    { more x with activity := .busy { job := job, retries := retries, ends := s.now + time } } }

/-- A READ from a point on, with the allowance of its station's link state. -/
def State.reading (s : State) (g : SegId) (purpose : ReadPurpose) (a first : Nat) (more : Fsc → Fsc) : State :=
  s.calling g (.read { purpose := purpose, station := a, first := first, next := first, continues := false,
                       serves := s.servable g a first, valued := [] }) (retriesFor (s.link g a)) 4 more

theorem State.modFsc_modFsc (s : State) (g : SegId) (f k : Fsc → Fsc) :
    (s.modFsc g f).modFsc g k = s.modFsc g fun x => k (f x) :=
  congrArg (fun x => { s with fsc := x }) (PerSeg.modify_modify s.fsc g f k)

theorem State.startJob_calling (s : State) (g : SegId) (more : Fsc → Fsc) (job : Job) (retries time : Nat) :
    (s.modFsc g more).startJob g job retries time = s.calling g job retries time more :=
  s.modFsc_modFsc g more _

theorem State.startRead_reading (s : State) (g : SegId) (more : Fsc → Fsc) (purpose : ReadPurpose) (a first : Nat)
    (hmore : ∀ x, (more x).readThroughs = x.readThroughs) :
    (s.modFsc g more).startRead g purpose a first = s.reading g purpose a first more := by
  have hserves : (s.modFsc g more).servable g a first = s.servable g a first := by
    unfold State.servable
    rw [show ((s.modFsc g more).fsc.get g).readThroughs = (s.fsc.get g).readThroughs by
      rw [State.modFsc_fsc, PerSeg.get_modify_self]; exact hmore _]
  rw [State.startRead, hserves]
  exact s.startJob_calling g more _ _ _

/-- Counting one call that was not the scan's (R42). -/
def Fsc.counted (f : Fsc) : Fsc := { f with starvation := f.starvation + 1 }

def Fsc.scanned (a : Nat) (f : Fsc) : Fsc := { f with starvation := 0, scanPosition := a }

/-- The scan call to a station: an IDENTIFY to one that is LOST (R11), else a READ. -/
def State.scanning (s : State) (g : SegId) (a : Nat) : State :=
  if s.isLost g a = true then s.calling g (.probe a) 0 4 (Fsc.scanned a) else s.reading g .scan a 0 (Fsc.scanned a)

theorem State.start_continuation (s : State) (g : SegId) (j : ReadJob) : s.start g (.continuation j) =
    s.calling g (.read j) (retriesFor (s.link g j.station)) 4 fun x => { x with owed := none } :=
  s.startJob_calling g _ _ _ _

theorem State.start_poll (s : State) (g : SegId) :
    s.start g .poll = s.calling g .poll 0 12 fun x => { x with pollArmed := false, starvation := x.starvation + 1 } := by
  have hcount : (s.modFsc g fun f => { f with pollArmed := false }).starve g =
      s.modFsc g fun x => { x with pollArmed := false, starvation := x.starvation + 1 } := s.modFsc_modFsc g _ _
  rw [State.start, hcount]
  exact s.startJob_calling g _ _ _ _

theorem State.start_event (s : State) (g : SegId) (a : Nat) : s.start g (.event a) = s.reading g .event a 0 Fsc.counted :=
  s.startRead_reading g Fsc.counted _ _ _ fun _ => rfl

theorem State.start_readThrough (s : State) (g : SegId) (e : ReadThrough) :
    s.start g (.readThrough e) = s.reading g (.readThrough e.port) e.station e.target.number Fsc.counted :=
  s.startRead_reading g Fsc.counted _ _ _ fun _ => rfl

theorem State.start_scan (s : State) (g : SegId) (a : Nat) : s.start g (.scan a) = s.scanning g a := by
  unfold State.start State.scanning
  dsimp only
  split
  · exact s.startJob_calling g (Fsc.scanned a) _ _ _
  · exact s.startRead_reading g (Fsc.scanned a) _ _ _ fun _ => rfl

theorem State.start_write {e : Entry} {es : List Entry} (hb : s.buffer.get g = e :: es) : s.start g (.write e.station) =
    { s.calling g (.write e.station) (retriesFor (s.link g e.station)) 4 Fsc.counted with
      buffer := s.buffer.set ({ e with state := .inFlight (s.sendFilter g e.station e.posted) } :: es) g } := by
  have hfly : (s.starve g).flyHead g = { s.starve g with
      buffer := s.buffer.set ({ e with state := .inFlight (s.sendFilter g e.station e.posted) } :: es) g } := by
    refine congrArg (fun b => { s.starve g with buffer := b }) ?_
    change s.buffer.modify g _ = _
    rw [PerSeg.modify, hb]
    rfl
  rw [State.start, hfly]
  exact State.startJob_calling
    { s with buffer := s.buffer.set ({ e with state := .inFlight (s.sendFilter g e.station e.posted) } :: es) g } g Fsc.counted
    (.write e.station) (retriesFor (s.link g e.station)) 4

/-! ### The scan call that is next (R29) -/

theorem find?_least_of_some {α : Type} {f : α → Nat} {p : α → Bool} {xs : List α} {x : α}
    (hsorted : xs.Pairwise fun y z => f y < f z) (h : xs.find? p = some x) {y : α} (hy : y ∈ xs) (hp : p y = true) :
    f x ≤ f y := by
  obtain ⟨_, before, after, rfl, hbefore⟩ := List.find?_eq_some_iff_append.1 h
  obtain ⟨_, htail, _⟩ := List.pairwise_append.1 hsorted
  rcases List.mem_append.1 hy with hy | hy
  · have := hbefore y hy
    rw [hp] at this
    cases this
  · rcases List.mem_cons.1 hy with rfl | hy
    · exact Nat.le_refl _
    · exact Nat.le_of_lt ((List.pairwise_cons.1 htail).1 y hy)

/-- A configured station at or past the scan position that answers, or is LOST in a pass that probes (R29). -/
def State.Due (s : State) (g : SegId) (a : Nat) : Prop :=
  a ∈ s.settings.population g ∧ (s.fsc.get g).scanPosition ≤ a ∧
    (s.isLost g a = false ∨ (s.fsc.get g).passNumber.toNat % 10 = 0)

theorem State.due_iff {a : Nat} : s.Due g a ↔ a ∈ s.settings.population g ∧
    (decide ((s.fsc.get g).scanPosition ≤ a) && s.dueCall g a) = true := by
  have hprobing : probing (s.fsc.get g).passNumber = true ↔ (s.fsc.get g).passNumber.toNat % 10 = 0 := beq_iff_eq
  simp only [State.Due, State.dueCall, Bool.and_eq_true, decide_eq_true_eq, Bool.or_eq_true, Bool.not_eq_true', hprobing]

theorem State.nextScan_eq_none : s.nextScan g = none ↔ ∀ a, ¬s.Due g a := by
  simp only [State.nextScan, List.find?_eq_none, State.due_iff, not_and]

theorem State.nextScan_eq_some {a : Nat} : s.nextScan g = some a ↔ s.Due g a ∧ ∀ b, s.Due g b → a ≤ b := by
  have hsorted : (s.settings.population g).Pairwise fun y z => id y < id z := addresses_ascending _
  constructor
  · intro h
    unfold State.nextScan at h
    have hpass := List.find?_some h
    refine ⟨State.due_iff.2 ⟨List.mem_of_find?_eq_some h, hpass⟩, fun b hb => ?_⟩
    obtain ⟨hmem, hpass⟩ := State.due_iff.1 hb
    exact find?_least_of_some hsorted h hmem hpass
  · rintro ⟨ha, hleast⟩
    obtain ⟨hmem, hpass⟩ := State.due_iff.1 ha
    exact find?_least hsorted hmem hpass fun b hb hp => hleast b (State.due_iff.2 ⟨hb, hp⟩)

/-! ### Arbitrating on a free segment -/

/-- A free segment that has chosen a call starts it. -/
theorem State.arbitrate_starts {c : Choice} (hp : s.phase = .running) (hf : (s.fsc.get g).activity = .free)
    (hc : s.choose g = c) (hend : c ≠ .endOfPass) : s.arbitrate g = s.start g c := by
  subst hc
  rw [State.arbitrate_free hp hf]
  exact if_neg hend

theorem State.arbitrate_scans {a : Nat} (hp : s.phase = .running) (hf : (s.fsc.get g).activity = .free)
    (hc : s.choose g = s.chooseScan g) (hrun : (s.fsc.get g).passRunning = true) (hn : s.nextScan g = some a) :
    s.arbitrate g = s.scanning g a :=
  (State.arbitrate_starts hp hf (hc.trans (State.chooseScan_some hrun hn)) nofun).trans (s.start_scan g a)

/-- A pass with no call left ends, and the segment chooses again. -/
theorem State.arbitrate_endsPass (hp : s.phase = .running) (hf : (s.fsc.get g).activity = .free)
    (hc : s.choose g = .endOfPass) : s.arbitrate g = (s.endPass g).arbitrate g := by
  have hend : (s.endPass g).choose g ≠ .endOfPass := fun h => by
    obtain ⟨hrun, hnone⟩ := State.choose_endOfPass h
    rcases s.endPass_scan g with hstopped | hdue
    · rw [hrun] at hstopped; cases hstopped
    · rw [hnone] at hdue; cases hdue
  rw [State.arbitrate_free hp hf, if_pos hc, State.arbitrate_starts (c := (s.endPass g).choose g) (by simpa using hp)
    (by rw [State.endPass_activity]; exact hf) rfl hend]

theorem State.mayRead_iff {a : Nat} : (s.mayRead g a = false) ↔
    ¬((s.fsc.get g).passRunning = true → a ∉ (s.fsc.get g).revived) := by
  rw [← State.mayRead_eq_true, Bool.not_eq_true]

theorem exec_readyPauseExpiry {e : Nat} (h : (s.fsc.get g).activity = .pause e) : exec (.readyPauseExpiry g) s =
    .next (State.arbitrate { s with
      now := max s.now e, fsc := s.fsc.modify g fun f => { f with activity := .free } } g).kickPorts := by
  change execReadyPauseExpiry g s = _
  rw [execReadyPauseExpiry, h]
  rfl

/-- Settles O53: each place of the order gives the choice, and the choice gives the call. -/
theorem readyPauseEndsInArbitration : Obligations.ReadyPauseEndsInArbitration := by
  refine ⟨fun s g e h => exec_readyPauseExpiry h, fun s g hp himage hf => ?_⟩
  intro f allowance calls reads counted due scan may scanned scanCall
  have hallowance : ∀ a, retriesFor (s.link g a) = allowance a := fun a => by cases h : s.link g a <;> simp [allowance, h, retriesFor]
  have hreads : ∀ purpose a first more, s.reading g purpose a first more = reads purpose a first more :=
    fun purpose a first more => by
      rw [State.reading, hallowance]
      rfl
  have hscanCall : ∀ a, s.scanning g a = scanCall a := fun a => by
    rw [State.scanning, hreads]
    rfl
  have hscan : ∀ a, scan a → (s.fsc.get g).passRunning = true ∧ s.nextScan g = some a := fun a ⟨hrun, hdue, hleast⟩ =>
    ⟨hrun, State.nextScan_eq_some.2 ⟨hdue, hleast⟩⟩
  have hmay : ∀ a, s.mayRead g a = true ↔ may a := fun a => State.mayRead_eq_true
  have hmust : ∀ a, s.mayRead g a = false ↔ ¬may a := fun a => State.mayRead_iff
  refine ⟨fun j hj => ?_, fun ho => ⟨fun a hstarved ha => ?_, fun hguard => ?_⟩⟩
  · rw [State.arbitrate_starts hp hf (State.choose_owed hj) nofun, State.start_continuation, hallowance]
    rfl
  · obtain ⟨hrun, hn⟩ := hscan a ha
    have hacts : s.guardActs g = true := State.guardActs_iff.2 ⟨hstarved, hrun, by rw [hn]; rfl⟩
    rw [State.arbitrate_scans hp hf (State.choose_guarded ho hacts) hrun hn, hscanCall]
  have hacts : s.guardActs g = false := by
    rw [← Bool.not_eq_true, State.guardActs_iff]
    rintro ⟨hstarved, hrun, hsome⟩
    obtain ⟨a, ha⟩ := Option.isSome_iff_exists.1 hsome
    exact hguard.elim (fun h => Nat.not_lt.2 hstarved h) fun h => h a ⟨hrun, State.nextScan_eq_some.1 ha⟩
  have hchoose := State.choose_unguarded ho hacts
  refine ⟨fun harmed hline => ?_, fun hpoll => ?_⟩
  · rw [State.arbitrate_starts hp hf (hchoose.trans (State.choosePoll_armed harmed hline)) nofun, State.start_poll]
    rfl
  replace hchoose := hchoose.trans (State.choosePoll_rest hpoll)
  refine ⟨fun st hst hatt hst' hleast => ?_, fun hquiet => ?_⟩
  · have hfind : (s.image.get g).find? (fun x => x.attention && s.mayRead g x.addr) = some st :=
      find?_least (himage.ascending g) hst (by rw [hatt, (hmay _).2 hst']; rfl) fun x hx hboth => by
        obtain ⟨hatt, hmayx⟩ := Bool.and_eq_true_iff.1 hboth
        exact hleast x hx hatt ((hmay _).1 hmayx)
    rw [State.arbitrate_starts hp hf (hchoose.trans (State.chooseEvent_first hfind)) nofun, State.start_event, hreads]
    rfl
  replace hchoose := hchoose.trans (State.chooseEvent_rest fun st hst h => hquiet st hst ((hmay _).1 h))
  refine ⟨fun e es hb hroom => ?_, fun hnoWrite => ?_⟩
  · rw [State.arbitrate_starts hp hf (hchoose.trans (State.chooseWrite_head hb hroom)) nofun, State.start_write hb,
      hallowance]
    rfl
  replace hchoose := hchoose.trans (State.chooseWrite_rest hnoWrite)
  refine ⟨fun before e after hq hbefore he => ?_, fun hnoRead => ?_⟩
  · have hread := State.chooseReadThrough_first hq (fun x hx => (hmust _).2 (hbefore x hx)) ((hmay _).2 he)
    rw [State.arbitrate_starts hp hf (hchoose.trans hread) nofun, State.start_readThrough, hreads]
    rfl
  replace hchoose := hchoose.trans (State.chooseReadThrough_rest fun e he => (hmust _).2 (hnoRead e he))
  refine ⟨fun a ha => ?_, fun hstopped => ?_, fun hrun hnone => ?_⟩
  · obtain ⟨hrun, hn⟩ := hscan a ha
    rw [State.arbitrate_scans hp hf hchoose hrun hn, hscanCall]
  · rw [State.arbitrate_starts hp hf (hchoose.trans (State.chooseScan_stopped hstopped)) nofun]
    rfl
  · exact State.arbitrate_endsPass hp hf (hchoose.trans (State.chooseScan_none hrun (State.nextScan_eq_none.2 hnone)))

end

end Sys2Proof.Machine
end

section
/-! What the commands of a segment's timers and its attention line bring, and READ POINT at a free segment. -/

namespace Sys2Proof.Machine

section
variable {s : State} {g : SegId}

/-! ### The attention line and the poll (R39) -/

theorem State.guardActs_congr {f : Fsc → Fsc} (hstarved : ∀ x, (f x).starvation = x.starvation)
    (hrun : ∀ x, (f x).passRunning = x.passRunning) (hpos : ∀ x, (f x).scanPosition = x.scanPosition)
    (hpass : ∀ x, (f x).passNumber = x.passNumber) : (s.modFsc g f).guardActs g = s.guardActs g := by
  have hlost : ∀ a, (s.modFsc g f).isLost g a = s.isLost g a := fun a => rfl
  have hnext : (s.modFsc g f).nextScan g = s.nextScan g := by
    unfold State.nextScan State.dueCall
    simp only [hlost, State.modFsc_fsc, PerSeg.get_modify_self, hpos, hpass]
    rfl
  unfold State.guardActs
  simp only [hnext, State.modFsc_fsc, PerSeg.get_modify_self, hstarved, hrun]

theorem Fsc.lineChange_eq (begun : Prop) [Decidable begun] (asserted : Bool) (f : Fsc) :
    f.lineChange (decide begun) asserted = { f with
      lineAsserted := asserted
      pollArmed := if begun ∧ f.lineAsserted = false ∧ asserted = true then true else f.pollArmed } := by
  unfold Fsc.lineChange
  by_cases hb : begun <;> cases hl : f.lineAsserted <;> cases asserted <;> simp [hb]

/-- An assertion of the line with the poll armed, by it or before, starts the poll where nothing goes before it. -/
theorem State.lineAsserted_polls (hp : s.phase = .running) (hfree : (s.fsc.get g).activity = .free)
    (ho : (s.fsc.get g).owed = none) (hacts : s.guardActs g = false)
    (harmed : (s.fsc.get g).pollArmed = true ∨ (s.fsc.get g).lineAsserted = false) :
    let u := (s.modFsc g (Fsc.lineChange (s.phase == .running) true)).arbitrate g
    (u.fsc.get g).activity = .busy { job := .poll, retries := 0, ends := s.now + 12 } ∧ (u.fsc.get g).pollArmed = false := by
  have hget : ((s.modFsc g (Fsc.lineChange (s.phase == .running) true)).fsc.get g) =
      (s.fsc.get g).lineChange (s.phase == .running) true := by rw [State.modFsc_fsc, PerSeg.get_modify_self]
  have hpoll : ((s.fsc.get g).lineChange (s.phase == .running) true).pollArmed = true := by
    unfold Fsc.lineChange
    rcases harmed with harmed | hreleased
    · simp [harmed]
    · simp [hreleased, hp]
  have hguard : (s.modFsc g (Fsc.lineChange (s.phase == .running) true)).guardActs g = false :=
    (State.guardActs_congr (by exact fun _ => rfl) (by exact fun _ => rfl) (by exact fun _ => rfl)
      (by exact fun _ => rfl)).trans hacts
  have hchoose := (State.choose_unguarded (by rw [hget]; exact ho) hguard).trans
    (State.choosePoll_armed (by rw [hget]; exact hpoll) (by rw [hget]; rfl))
  have harbitrate := State.arbitrate_starts (s := s.modFsc g (Fsc.lineChange (s.phase == .running) true)) hp
    (by rw [hget]; exact hfree) hchoose nofun
  intro u
  rw [show u = _ from harbitrate, State.start_poll, State.calling, PerSeg.get_modify_self]
  exact ⟨rfl, rfl⟩

theorem Station.link_lost_iff (st : Station) : st.link = .lost ↔ st.counter = 0 := by
  unfold Station.link linkFor
  split
  · next h =>
    have : (8 : Nat) ≤ st.counter := h
    exact ⟨nofun, fun h0 => by omega⟩
  · split
    · next h => exact ⟨fun _ => h, fun _ => rfl⟩
    · next h => exact ⟨nofun, fun h0 => absurd h0 h⟩

/-- What a poll leaves of a station's attention. -/
theorem Station.polled (st : Station) (slots : List (Option Byte)) (selected : Bool) :
    (if slotAttention slots st.addr && selected && !(st.link == .lost) then { st with attention := true } else st) =
      { st with attention := st.attention || (slots.getD (st.addr - 1) none == some 0xA1#8 && selected &&
        decide (st.counter ≠ 0)) } := by
  have hlost : (!(st.link == .lost)) = decide (st.counter ≠ 0) := by
    rw [Bool.eq_iff_iff]
    simp [st.link_lost_iff]
  have hcause : (slotAttention slots st.addr && selected && !(st.link == .lost)) =
      (slots.getD (st.addr - 1) none == some 0xA1#8 && selected && decide (st.counter ≠ 0)) := by rw [hlost]; rfl
  rw [hcause]
  cases (slots.getD (st.addr - 1) none == some 0xA1#8 && selected && decide (st.counter ≠ 0)) with
  | true => simp
  | false => simp

/-- Settles O54. -/
theorem attentionPolled : Obligations.AttentionPolled := by
  refine ⟨fun s g asserted => ?_, fun s g retries ends slots hbusy => ?_⟩
  · have hline := funext fun f => Fsc.lineChange_eq (s.phase = .running) asserted f
    refine ⟨s.modFsc g (Fsc.lineChange (s.phase == .running) asserted), rfl, ?_, fun hp hfree ho hacts hon harmed => ?_⟩
    · change s.modFsc g (Fsc.lineChange (decide (s.phase = .running)) asserted) = _
      rw [hline]
      rfl
    · subst hon
      exact State.lineAsserted_polls hp hfree ho hacts harmed
  · refine ⟨((s.advanceTo ends).takePoll g slots).setActivity g .free, ?_, ?_⟩
    · change execAttentionPollEnd g slots s = _
      rw [execAttentionPollEnd, hbusy]
    · have hmark := funext fun st : Station => st.polled slots (s.settings.selects g st.addr)
      exact congrArg (fun mark : Station → Station => { s with
        now := max s.now ends, fsc := s.fsc.modify g fun f => { f with activity := .free }
        image := s.image.modify g (List.map mark) }) hmark

/-! ### The icing-clear and rotation timers (R70, R107) -/

theorem rotate_eq (order : List Nat) : rotate order = order.drop 1 ++ order.take 1 := by
  cases order <;> simp [rotate]

theorem exec_rotationExpiry {l : LoopId} {d : Nat} (h : (s.alloc.get l).rotation = some d) :
    exec (.rotationExpiry l) s = .next { s with
      now := max s.now d
      alloc := s.alloc.modify l fun al => { al with
        order := al.order.drop 1 ++ al.order.take 1
        rotation := if (s.settings.loop.get l).rotation = 0 then none
          else some (max s.now d + (s.settings.loop.get l).rotation * 3600000) } } := by
  change execRotationExpiry l s = _
  rw [execRotationExpiry, h]
  simp only [rotate_eq]
  rfl

/-- A unit's last posted FAN is forgotten with its icing mark. -/
def StationCommands.thawed (units : List UnitFrost) (c : StationCommands) : StationCommands :=
  if units.any (fun x => x.addr == c.addr && x.iced) = true then { c with fan := { c.fan with posted := none } } else c

theorem State.clearIcing_eq (s : State) (l : LoopId) : s.clearIcing l = { s with
    fpb := s.fpb.modify l fun f => { f with units := f.units.map fun x => { x with shortfall := 0, iced := false } }
    alloc := s.alloc.modify l fun al => { al with commands := al.commands.map (StationCommands.thawed (s.fpb.get l).units) } } := by
  have hiced : ∀ c : StationCommands, (((s.fpb.get l).units.filter fun u => u.iced).map UnitFrost.addr).contains c.addr =
      (s.fpb.get l).units.any fun x => x.addr == c.addr && x.iced := fun c => by
    rw [Bool.eq_iff_iff]
    simp only [List.contains_iff_mem, List.mem_map, List.mem_filter, List.any_eq_true, Bool.and_eq_true, beq_iff_eq]
    exact ⟨fun ⟨x, ⟨hx, hi⟩, ha⟩ => ⟨x, hx, ha, hi⟩, fun ⟨x, hx, ha, hi⟩ => ⟨x, ⟨hx, hi⟩, ha⟩⟩
  unfold State.clearIcing State.repostAll
  simp only [hiced]
  rfl

/-- Settles O56. -/
theorem icingAndRotationExpire : Obligations.IcingAndRotationExpire := by
  refine ⟨fun s d h => ?_, fun s l d h => exec_rotationExpiry h⟩
  have hany : ((s.advanceTo d).anyIced .fs0 || (s.advanceTo d).anyIced .fs1) = (s.fpb.s0.units ++ s.fpb.s1.units).any UnitFrost.iced := by
    rw [List.any_append]
    rfl
  change execIcingClearExpiry s = _
  rw [execIcingClearExpiry, h]
  dsimp only
  unfold State.icingExpired
  dsimp only
  rw [hany, State.notifyIf_eq, State.clearIcing_eq, State.clearIcing_eq]
  rfl

/-! ### READ POINT (R36, R141) -/

/-- Nothing stands at a place before the read-throughs, and no pass runs. -/
structure State.Quiet (s : State) (g : SegId) : Prop where
  owed : (s.fsc.get g).owed = none
  poll : (s.fsc.get g).pollArmed = false ∨ (s.fsc.get g).lineAsserted = false
  event : ∀ st ∈ s.image.get g, s.mayRead g st.addr = true → st.attention = false
  write : s.buffer.get g = [] ∨ 15 ≤ (s.settle.get g).length
  pass : (s.fsc.get g).passRunning = false

theorem State.quiet_of_nothing (h : s.choose g = .nothing) : s.Quiet g ∧ (s.fsc.get g).readThroughs = [] := by
  have ho : (s.fsc.get g).owed = none := by
    cases ho : (s.fsc.get g).owed with
    | none => rfl
    | some j => rw [State.choose_owed ho] at h; cases h
  have hscan : s.chooseScan g = .nothing → (s.fsc.get g).passRunning = false := fun h => by
    cases hrun : (s.fsc.get g).passRunning with
    | false => rfl
    | true =>
      cases hn : s.nextScan g with
      | none => rw [State.chooseScan_none hrun hn] at h; cases h
      | some a => rw [State.chooseScan_some hrun hn] at h; cases h
  have hacts : s.guardActs g = false := by
    rw [← Bool.not_eq_true]
    intro hacts
    obtain ⟨_, hrun, _⟩ := State.guardActs_iff.1 hacts
    rw [State.choose_guarded ho hacts] at h
    rw [hscan h] at hrun
    cases hrun
  rw [State.choose_unguarded ho hacts] at h
  have hpoll : (s.fsc.get g).pollArmed = false ∨ (s.fsc.get g).lineAsserted = false := by
    rw [← Bool.not_eq_true, ← Bool.not_eq_true, ← not_and_or]
    rintro ⟨harmed, hline⟩
    rw [State.choosePoll_armed harmed hline] at h
    cases h
  rw [State.choosePoll_rest hpoll] at h
  have hevent : ∀ st ∈ s.image.get g, s.mayRead g st.addr = true → st.attention = false := by
    intro st hst hmay
    cases hfind : (s.image.get g).find? (fun x => x.attention && s.mayRead g x.addr) with
    | none => simpa [hmay] using List.find?_eq_none.1 hfind st hst
    | some x => rw [State.chooseEvent_first hfind] at h; cases h
  rw [State.chooseEvent_rest hevent] at h
  have hwrite : s.buffer.get g = [] ∨ 15 ≤ (s.settle.get g).length := by
    cases hb : s.buffer.get g with
    | nil => exact .inl rfl
    | cons e es =>
      refine .inr (Nat.not_lt.1 fun hroom => ?_)
      rw [State.chooseWrite_head hb hroom] at h
      cases h
  rw [State.chooseWrite_rest hwrite] at h
  have hpass : (s.fsc.get g).passRunning = false := by
    unfold State.chooseReadThrough at h
    split at h
    · cases h
    · exact hscan h
  refine ⟨⟨ho, hpoll, hevent, hwrite, hpass⟩, ?_⟩
  cases hq : (s.fsc.get g).readThroughs with
  | nil => rfl
  | cons e es =>
    have hmay : s.mayRead g e.station = true := State.mayRead_eq_true.2 fun hrun => by rw [hpass] at hrun; cases hrun
    rw [State.chooseReadThrough_first (before := []) hq nofun hmay] at h
    cases h

/-- A quiet segment with a read-through chooses it. -/
theorem State.Quiet.choose {e : ReadThrough} {es : List ReadThrough} (h : s.Quiet g)
    (hq : (s.fsc.get g).readThroughs = e :: es) : s.choose g = .readThrough e := by
  have hacts : s.guardActs g = false := by
    rw [← Bool.not_eq_true, State.guardActs_iff, h.pass]
    exact fun hacts => Bool.false_ne_true hacts.2.1
  have hmay : s.mayRead g e.station = true := State.mayRead_eq_true.2 fun hrun => by rw [h.pass] at hrun; cases hrun
  rw [State.choose_unguarded h.owed hacts, State.choosePoll_rest h.poll, State.chooseEvent_rest h.event,
    State.chooseWrite_rest h.write, State.chooseReadThrough_first (before := []) hq nofun hmay]

variable {p : PortId} {r : Resolved} {fresh : Bool}

theorem State.readsThrough_iff : s.readsThrough r fresh = true ↔ s.isLost r.seg r.station = false ∧
    (fresh = true ∨ ∃ q, r.target = .point q ∧
      ((s.point r.seg r.station q).quality = .stale ∨ (s.point r.seg r.station q).quality = .none)) := by
  have hasks : ∀ q : Quality, q.asksRead = true ↔ q = .stale ∨ q = .none := fun q => by
    cases q <;> simp [Quality.asksRead]
  unfold State.readsThrough
  rw [Bool.and_eq_true, Bool.or_eq_true, Bool.not_eq_true']
  cases r.target with
  | point q => simp [hasks]
  | output o => simp

theorem State.placeReadThrough_quiet (h : s.Quiet r.seg) : (s.placeReadThrough p r).Quiet r.seg := by
  have hget : (s.placeReadThrough p r).fsc.get r.seg = { s.fsc.get r.seg with
      readThroughs := (s.fsc.get r.seg).readThroughs ++
        [{ port := p, station := r.station, target := r.target, address := r.direct, arrived := s.now }] } := by
    rw [State.placeReadThrough, State.modFsc_fsc, PerSeg.get_modify_self]
  have hmay : ∀ a, (s.placeReadThrough p r).mayRead r.seg a = s.mayRead r.seg a := fun a => by
    unfold State.mayRead
    rw [hget]
  exact ⟨by rw [hget]; exact h.owed, by rw [hget]; exact h.poll, fun st hst hread => h.event st hst ((hmay _).symm.trans hread),
    h.write, by rw [hget]; exact h.pass⟩

/-- At a free segment with nothing to choose a read-through is called at once. -/
theorem State.placeReadThrough_called (hp : s.phase = .running) (hfree : (s.fsc.get r.seg).activity = .free)
    (hn : s.choose r.seg = .nothing) : (s.placeReadThrough p r).arbitrate r.seg =
      (s.placeReadThrough p r).reading r.seg (.readThrough p) r.station r.target.number Fsc.counted := by
  obtain ⟨hquiet, hempty⟩ := State.quiet_of_nothing hn
  have hq : ((s.placeReadThrough p r).fsc.get r.seg).readThroughs =
      [{ port := p, station := r.station, target := r.target, address := r.direct, arrived := s.now }] := by
    rw [State.placeReadThrough, State.modFsc_fsc, PerSeg.get_modify_self, hempty]
    rfl
  have hf : ((s.placeReadThrough p r).fsc.get r.seg).activity = .free := by
    rw [State.placeReadThrough, State.modFsc_fsc, PerSeg.get_modify_self]
    exact hfree
  rw [State.arbitrate_starts (s := s.placeReadThrough p r) hp hf ((State.placeReadThrough_quiet hquiet).choose hq) nofun, State.start_readThrough]

theorem State.portWaits_of_mem {e : ReadThrough} (he : e ∈ (s.fsc.get g).readThroughs) (hport : e.port = p) :
    s.portWaits p = true :=
  List.any_eq_true.2 ⟨g, by cases g <;> decide, List.any_eq_true.2 ⟨e, he, beq_iff_eq.2 hport⟩⟩

theorem bodyReadPoint_badFresh {h l f : Byte} (hf : 1 < f.toNat) : bodyReadPoint [h, l, f] = none := by
  have hno : f ≠ 0#8 := by rintro rfl; exact absurd hf (by decide)
  have hyes : f ≠ 1#8 := by rintro rfl; exact absurd hf (by decide)
  rw [bodyReadPoint, if_neg hno, if_neg hyes]

/-- Settles O32. -/
theorem readPointAnswersOrReadsThrough : Obligations.ReadPointAnswersOrReadsThrough := by
  intro s p t h hk
  have hexec := exec_readPoint_ready h hk
  refine ⟨fun hi lo f hb hf => h.onlyAnswers hexec ?_, fun w fresh hb => ?_⟩
  · rw [State.readPoint, hb, bodyReadPoint_badFresh hf]
    rfl
  have hread : s.readPoint p t = match s.resolveRead p w with
      | .found r => s.readResolved p r fresh
      | other => s.unresolved p other := by rw [State.readPoint, hb] <;> rfl
  refine ⟨fun hr => h.onlyAnswers hexec (by rw [hread, hr]; rfl), fun hr => h.onlyAnswers hexec (by rw [hread, hr]; rfl),
    fun m hr => h.onlyAnswers hexec (by rw [hread, hr]; rfl), fun r hr => ?_⟩
  have hresolved : s.readPoint p t = s.readResolved p r fresh := by rw [hread, hr]
  rw [hresolved] at hexec
  intro asks
  refine ⟨fun hno => h.onlyAnswers hexec (if_neg fun hc => hno (State.readsThrough_iff.1 hc)), fun hasks hbusy => ?_,
    fun hasks hfree hn => ?_⟩
  · have hheld : (s.placeReadThrough p r).arbitrate r.seg = s.placeReadThrough p r :=
      State.arbitrate_held fun _ => by
        rw [State.placeReadThrough, State.modFsc_fsc, PerSeg.get_modify_self]
        exact hbusy
    rw [hexec, State.readResolved, if_pos (State.readsThrough_iff.2 hasks), hheld, State.kickPorts_running (by exact h.1)]
    rfl
  · rw [State.readResolved, if_pos (State.readsThrough_iff.2 hasks), State.placeReadThrough_called h.1 hfree hn,
      State.kickPorts_running (by exact h.1)] at hexec
    refine ⟨_, hexec, ?_, ?_, ?_, rfl, fun g hg => ?_⟩
    · rw [State.callOnSegment, State.reading, State.calling, PerSeg.get_modify_self]
      rfl
    · refine State.portWaits_of_mem (g := r.seg) (e := ⟨p, r.station, r.target, r.direct, s.now⟩) ?_ rfl
      rw [State.reading, State.calling, PerSeg.get_modify_self, State.placeReadThrough, State.modFsc_fsc,
        PerSeg.get_modify_self]
      exact List.mem_append_right _ (List.mem_singleton.2 rfl)
    · rw [PerPort.get_map]
      exact (Port.kick_queue _ _).1
    · rw [State.reading, State.calling, PerSeg.get_modify_other _ _ hg, State.placeReadThrough, State.modFsc_fsc,
        PerSeg.get_modify_other _ _ hg]

end

end Sys2Proof.Machine
end

section
/-! The receiver (R152, R154) and the transmitter (R156, R158, R151). -/

namespace Sys2Proof.Machine

/-! ### A frame heard (12.2) -/

theorem PerPort.modify_modify {α : Type} (t : PerPort α) (p : PortId) (f k : α → α) :
    (t.modify p f).modify p k = t.modify p fun x => k (f x) := by cases p <;> rfl

theorem checked_withCheck (bytes : List Byte) : checked (withCheck bytes) = some bytes := by
  have hlen : (withCheck bytes).length = bytes.length + 2 := by rw [withCheck, List.length_append, be16_length]
  have htake : (withCheck bytes).take bytes.length = bytes := List.take_left
  have hdrop : (withCheck bytes).drop bytes.length = be16 (crc bytes) := List.drop_left
  unfold checked
  dsimp only
  rw [hlen, Nat.add_sub_cancel, htake, hdrop, if_pos ⟨by omega, rfl⟩]

section
variable {s : State} {p : PortId}

theorem State.receiveInto_self (h : (s.ports.get p).receiving = none) : s.receiveInto p none = s := by
  have hsame : s.ports.modify p (fun port => { port with receiving := none }) = s.ports := by
    refine PerPort.ext_get fun q => ?_
    rw [PerPort.get_modify]
    split
    · next hq => subst hq; rw [← h]
    · rfl
  exact congrArg (fun ports => { s with ports := ports }) hsame

theorem State.receiveInto_receiveInto (r r' : Option (List Byte)) :
    (s.receiveInto p r).receiveInto p r' = s.receiveInto p r' :=
  congrArg (fun ports => { s with ports := ports }) (PerPort.modify_modify s.ports p (fun port => { port with receiving := r })
    fun port => { port with receiving := r' })

theorem State.receiveInto_receiving (r : Option (List Byte)) : ((s.receiveInto p r).ports.get p).receiving = r := by
  unfold State.receiveInto State.modPort
  rw [PerPort.get_modify_self]

/-- The receiver in the middle of a frame hears the rest of it. -/
theorem State.receive_rest {len : Byte} {more : List Byte} (cs : List Byte) (hne : cs ≠ [])
    (hlen : more.length + cs.length = len.toNat + 2) :
    (s.receiveInto p (some (len :: more))).receive p cs = (s.receiveInto p none).frameEnds p (len :: (more ++ cs)) := by
  induction cs generalizing more with
  | nil => exact absurd rfl hne
  | cons c cs ih =>
    rw [List.length_cons] at hlen
    rw [State.receive, State.receiveChar, State.receiveInto_receiving]
    dsimp only
    cases cs with
    | nil =>
      rw [if_pos (by rw [List.length_cons, List.length_append, List.length_singleton]; exact congrArg (· + 1) hlen),
        State.receiveInto_receiveInto]
      rfl
    | cons d ds =>
      rw [if_neg (by simp only [List.length_cons, List.length_append, List.length_nil] at hlen ⊢; omega),
        State.receiveInto_receiveInto, ih nofun (by simp only [List.length_cons, List.length_append, List.length_nil] at hlen ⊢; omega),
        List.append_assoc]
      rfl

/-- A hunting receiver takes the start byte. -/
theorem State.receive_start (h : (s.ports.get p).receiving = none) (cs : List Byte) :
    s.receive p (0xA5#8 :: cs) = (s.receiveInto p (some [])).receive p cs := by
  rw [State.receive, State.receiveChar, h]
  rfl

/-- A frame heard whole is judged by its check. -/
theorem State.receive_frame_whole (h : (s.ports.get p).receiving = none) {len : Byte} {more : List Byte} (hlow : 2 ≤ len.toNat)
    (hhigh : len.toNat ≤ 50) (hlen : more.length = len.toNat + 2) :
    s.receive p (0xA5#8 :: len :: more) = s.frameEnds p (len :: more) := by
  have hne : more ≠ [] := fun he => by rw [he] at hlen; cases hlen
  rw [State.receive_start h, State.receive, State.receiveChar, State.receiveInto_receiving]
  dsimp only
  rw [if_pos ⟨hlow, hhigh⟩, State.receiveInto_receiveInto, State.receive_rest more hne (by simpa using hlen),
    State.receiveInto_self h]
  rfl

/-- A length byte no supervisor's frame has ends the frame. -/
theorem State.receive_badLength (h : (s.ports.get p).receiving = none) {len : Byte} (hlen : len.toNat < 2 ∨ 50 < len.toNat) :
    s.receive p [0xA5#8, len] = s.setFault (.frameError p) := by
  rw [State.receive_start h, State.receive, State.receiveChar, State.receiveInto_receiving]
  dsimp only
  rw [if_neg (by omega), State.receiveInto_receiveInto, State.receiveInto_self h]
  rfl

theorem State.takeTelegram_room {t : Telegram} (h : (s.ports.get p).queue.length < 16) :
    s.takeTelegram p t = s.modPort p (Port.take t) := if_pos h

theorem State.takeTelegram_full {t : Telegram} (h : 16 ≤ (s.ports.get p).queue.length) :
    s.takeTelegram p t = s.setFault (.queueOverrun p) := if_neg (Nat.not_lt.2 h)

theorem State.frameEnds_right {bytes : List Byte} {len sequence kind : Byte} {body : List Byte}
    (h : checked bytes = some (len :: sequence :: kind :: body)) :
    s.frameEnds p bytes = s.takeTelegram p { sequence := sequence, kind := kind, body := body } := by
  rw [State.frameEnds, h]

/-- A right frame is a telegram taken. -/
theorem State.receive_frameBytes (h : (s.ports.get p).receiving = none) (t : Telegram) (hb : t.body.length ≤ 48) :
    s.receive p (frameBytes t.sequence t.kind t.body) = s.takeTelegram p t := by
  have hlen : (byteOf (t.body.length + 2)).toNat = t.body.length + 2 := by
    rw [byteOf, BitVec.toNat_ofNat, Nat.mod_eq_of_lt (by omega)]
  have hcheck := checked_withCheck (byteOf (t.body.length + 2) :: t.sequence :: t.kind :: t.body)
  have hwhole := State.receive_frame_whole h (len := byteOf (t.body.length + 2))
    (more := t.sequence :: t.kind :: t.body ++ be16 (crc (byteOf (t.body.length + 2) :: t.sequence :: t.kind :: t.body)))
    (by omega) (by omega) (by rw [hlen]; simp [be16_length])
  exact hwhole.trans (State.frameEnds_right hcheck)

theorem exec_takeFrame (hp : s.phase = .running) (chars : List Byte) :
    exec (.takeFrame p chars) s = .next (s.receive p chars).kickPorts := by
  change execTakeFrame p chars s = _
  rw [execTakeFrame, hp]

end

/-- Settles O25. -/
theorem takeFrameQueuesTelegram : Obligations.TakeFrameQueuesTelegram := by
  rintro s p t port hp rfl hr hroom hb
  rw [exec_takeFrame hp, State.receive_frameBytes hr t hb, State.takeTelegram_room hroom,
    State.kickPorts_running (by exact hp)]
  have htake : (s.ports.get p).take t = if (s.ports.get p).queue.length = 11 ∧ (s.ports.get p).paused = false then
      { s.ports.get p with queue := (s.ports.get p).queue ++ [t], paused := true, flow := (s.ports.get p).flow ++ [.pause] }
    else { s.ports.get p with queue := (s.ports.get p).queue ++ [t] } := by
    unfold Port.take
    simp only [Config.pauseAt, Nat.reduceEqDiff]
  rw [← htake]
  rfl

/-- Settles O26. -/
theorem takeFrameDiscards : Obligations.TakeFrameDiscards := by
  refine fun s p => ⟨fun hr => ?_, fun hr => ?_, fun hp hr => ⟨fun t hb hfull => ?_, fun len more hlow hhigh hlen hbad => ?_,
    fun len hlen => ?_⟩⟩
  · obtain ⟨bytes, hbytes⟩ := Option.ne_none_iff_exists'.1 hr
    change execFrameGapTimeout p s = _
    rw [execFrameGapTimeout, hbytes]
    rfl
  · change execFrameGapTimeout p s = _
    rw [execFrameGapTimeout, hr]
  · rw [exec_takeFrame hp, State.receive_frameBytes hr t hb, State.takeTelegram_full hfull]
  · rw [exec_takeFrame hp, State.receive_frame_whole hr hlow hhigh hlen, State.frameEnds, hbad]
  · rw [exec_takeFrame hp, State.receive_badLength hr hlen]

/-! ### The transmitter -/

section
variable {s : State} {p : PortId}

/-- Starting a frame changes what the transmitter sends and has ready alone. -/
theorem Port.start_frame (port : Port) (now : Nat) : (port.start now).rate = port.rate ∧
    (port.start now).newRate = port.newRate ∧ (port.start now).queue = port.queue ∧ (port.start now).paused = port.paused ∧
      (port.start now).receiving = port.receiving := by
  unfold Port.start
  split
  · exact ⟨rfl, rfl, rfl, rfl, rfl⟩
  · exact ⟨rfl, rfl, rfl, rfl, rfl⟩
  · split <;> exact ⟨rfl, rfl, rfl, rfl, rfl⟩

/-- An idle port with a written rate takes it, and starts what is ready. -/
theorem Port.kick_newRate {port : Port} {r : LineRate} (now : Nat) (hidle : port.sending = none) (hr : port.newRate = some r) :
    (port.kick now).rate = r ∧ (port.kick now).newRate = none ∧ (port.kick now).queue = port.queue ∧
      (port.kick now).paused = port.paused ∧ (r ≠ port.rate → (port.kick now).receiving = none) := by
  have hkick : port.kick now = port.applyRate.start now := by rw [Port.kick, hidle]
  obtain ⟨hrate, hnew, hqueue, hpaused, hreceiving⟩ := port.applyRate.start_frame now
  rw [hkick, hrate, hnew, hqueue, hpaused, hreceiving, Port.applyRate, hr]
  dsimp only
  split
  · next hsame => exact ⟨hsame.symm, rfl, rfl, rfl, fun hne => absurd hsame hne⟩
  · exact ⟨rfl, rfl, rfl, rfl, fun _ => rfl⟩

/-- The port with the rate it is to take in force. -/
theorem Port.applyRate_eq (port : Port) : port.applyRate = match port.newRate with
    | some r => { port with
      rate := r, newRate := none
      receiving := if r = port.rate then port.receiving else none }
    | none => port := by
  unfold Port.applyRate
  cases port.newRate with
  | none => rfl
  | some r =>
    dsimp only
    split
    · next h => rw [h]
    · rfl

theorem Port.applyRate_freed (port : Port) :
    ({ port with sending := none } : Port).applyRate = { port.applyRate with sending := none } := by
  unfold Port.applyRate
  dsimp only
  split
  · split <;> rfl
  · rfl

/-- What a transmitter without a frame starts. -/
theorem Port.start_freed (port : Port) (now : Nat) : ({ port with sending := none } : Port).start now =
    match port.flow, port.replies with
    | .pause :: rest, _ => { port with
      sending := some { sequence := 0#8, kind := 0x71#8, body := [], effect := .none }, flow := rest }
    | .resume :: rest, _ => { port with
      sending := some { sequence := 0#8, kind := 0x72#8, body := [], effect := .none }, flow := rest }
    | [], r :: rest => { port with sending := some r, replies := rest }
    | [], [] => if port.notices ≠ 0#8 ∧ port.spacing = none then { port with
        sending := some { sequence := 0#8, kind := 0x70#8, body := [port.notices], effect := .none }
        notices := 0#8, spacing := some (now + 200) }
      else { port with sending := none } := by
  obtain ⟨receiving, queue, paused, flow, replies, sending, notices, spacing, rate, newRate⟩ := port
  match flow, replies with
  | .pause :: rest, _ => rfl
  | .resume :: rest, _ => rfl
  | [], r :: rest => rfl
  | [], [] => rfl

/-- An idle transmitter with a notice bit, its spacing run out and nothing before it sends a NOTICE. -/
theorem Port.kick_notice {port : Port} (now : Nat) (hidle : port.sending = none) (hflow : port.flow = [])
    (hreplies : port.replies = []) (hrate : port.newRate = none) (hnotices : port.notices ≠ 0#8) (hspacing : port.spacing = none) :
    port.kick now = { port with
      sending := some { sequence := 0#8, kind := 0x70#8, body := [port.notices], effect := .none }
      notices := 0#8, spacing := some (now + 200) } := by
  obtain ⟨receiving, queue, paused, flow, replies, sending, notices, spacing, rate, newRate⟩ := port
  dsimp only at hidle hflow hreplies hrate hnotices hspacing
  subst hidle hflow hreplies hrate hspacing
  exact if_pos ⟨hnotices, rfl⟩

/-- The port's transmitter has ended its frame. -/
def State.freed (s : State) (p : PortId) : State := s.modPort p fun port => { port with sending := none }

theorem State.freed_self : (s.freed p).ports.get p = { s.ports.get p with sending := none } := PerPort.get_modify_self ..

theorem State.freed_other {q : PortId} (h : q ≠ p) : (s.freed p).ports.get q = s.ports.get q :=
  PerPort.get_modify_other _ _ h

theorem State.frameLeft_target (q : PortId) (r : LineRate) :
    (s.frameLeft (.lineRate q r)).ports.get q = { s.ports.get q with newRate := some r } := PerPort.get_modify_self ..

theorem exec_transmitterFrameDone {f : Frame} (h : (s.ports.get p).sending = some f) : exec (.transmitterFrameDone p) s =
    .next ((s.freed p).frameLeft f.effect).kickPorts := by
  change execTransmitterFrameDone p s = _
  rw [execTransmitterFrameDone, h]
  rfl

theorem exec_noticeSpacingExpiry {d : Nat} (h : (s.ports.get p).spacing = some d) : exec (.noticeSpacingExpiry p) s =
    .next ((s.advanceTo d).modPort p fun port => { port with spacing := none }).kickPorts := by
  change execNoticeSpacingExpiry p s = _
  rw [execNoticeSpacingExpiry, h]

/-- Settles O46. -/
theorem transmitterStartsNext : Obligations.TransmitterStartsNext := by
  refine fun s p hp => ⟨fun f hf => ⟨fun he => ?_, fun q r he hidle => ?_, fun q r he hq hbusy => ?_, fun he => ?_⟩,
    fun d port hport hd => ?_⟩
  · have hexec := exec_transmitterFrameDone hf
    rw [he] at hexec
    refine ⟨s.beginStartUp, hexec, rfl, rfl, rfl, fun q => ?_⟩
    rw [State.beginStartUp, State.fresh_port]
    exact ⟨rfl, rfl⟩
  · have hexec := exec_transmitterFrameDone hf
    rw [he, State.kickPorts_running (by exact hp)] at hexec
    refine ⟨_, hexec, rfl, ?_⟩
    have hfreed : (s.freed p).ports.get q = { s.ports.get q with sending := none } := by
      by_cases hq : q = p
      · subst hq
        exact State.freed_self
      · rw [State.freed_other hq, ← hidle.resolve_left hq]
    rw [PerPort.get_map, State.frameLeft_target, hfreed]
    exact Port.kick_newRate _ rfl rfl
  · have hexec := exec_transmitterFrameDone hf
    rw [he, State.kickPorts_running (by exact hp)] at hexec
    refine ⟨_, hexec, rfl, ?_⟩
    obtain ⟨sent, hsent⟩ := Option.ne_none_iff_exists'.1 hbusy
    rw [PerPort.get_map, State.frameLeft_target, State.freed_other hq, Port.kick, hsent]
  · have hexec := exec_transmitterFrameDone hf
    rw [he, State.kickPorts_running (by exact hp)] at hexec
    refine ⟨_, hexec, rfl, ?_⟩
    intro port
    rw [PerPort.get_map, show ((s.freed p).frameLeft .none).ports.get p = _ from State.freed_self, Port.kick,
      Port.applyRate_freed]
    refine (Port.start_freed _ _).trans ?_
    rw [show (s.ports.get p).applyRate = port from Port.applyRate_eq _]
    rfl
  · subst hport
    have hexec := exec_noticeSpacingExpiry hd
    rw [State.kickPorts_running (by exact hp)] at hexec
    have hport : (((s.advanceTo d).modPort p fun port => { port with spacing := none }).ports.get p) =
        { s.ports.get p with spacing := none } := PerPort.get_modify_self ..
    refine ⟨_, hexec, rfl, fun hbusy => ?_, fun hidle hflow hreplies hrate hnotices => ?_⟩
    · obtain ⟨sent, hsent⟩ := Option.ne_none_iff_exists'.1 hbusy
      rw [PerPort.get_map, hport]
      exact Port.kick_sending (port := { s.ports.get p with spacing := none }) hsent _
    · rw [PerPort.get_map, hport]
      exact Port.kick_notice _ hidle hflow hreplies hrate hnotices rfl

end

end Sys2Proof.Machine
end

section
/-! Passes (R28 to R32): ageing, the start of a pass, its end, and the pass timer. -/

namespace Sys2Proof.Machine

/-! ### Ageing (R5) -/

theorem Point.age_stored (limit : Nat) (pass : Word) (q : Point) : (q.age limit pass).stored = q.stored := by
  unfold Point.age
  dsimp only
  split <;> rfl

/-- A point that is STALE or NONE does not age. -/
theorem Point.age_old {q : Point} (h : q.quality = .stale ∨ q.quality = .none) (limit : Nat) (pass : Word) :
    q.age limit pass = q := by
  obtain ⟨stored, quality⟩ := q
  rcases h with h | h
  all_goals
    dsimp only at h
    subst h
    rfl

/-- A GOOD or HELD point is HELD, or STALE once more passes than the limit have gone since its stamp. -/
theorem Point.age_held {q : Point} {v : Stored} (hv : q.stored = some v) (h : q.quality = .good ∨ q.quality = .held)
    (limit : Nat) (pass : Word) : (q.age limit pass).quality = if limit < (pass - v.stamp).toNat then .stale else .held := by
  obtain ⟨stored, quality⟩ := q
  dsimp only at h hv
  subst hv
  rcases h with h | h
  all_goals
    subst h
    rfl

section
variable {s : State} {g : SegId}

/-! ### The start of a pass (R28, R30) -/

theorem State.openPass_link (a : Nat) : (s.openPass g).link g a = s.link g a := by
  have hstation : (s.openPass g).station? g a =
      (s.station? g a).map (Station.age s.settings.holdLimit ((s.fsc.get g).passNumber + 1#16)) :=
    State.station?_modImage_map (F := Station.age s.settings.holdLimit ((s.fsc.get g).passNumber + 1#16)) (fun _ => rfl) _ g a
  unfold State.link
  rw [hstation]
  cases s.station? g a <;> rfl

theorem State.openPass_isLost (a : Nat) : (s.openPass g).isLost g a = s.isLost g a := by
  unfold State.isLost
  rw [State.openPass_link]

/-- The record of a segment whose pass has just begun. -/
theorem State.openPass_fsc : (s.openPass g).fsc.get g = { s.fsc.get g with
    passNumber := (s.fsc.get g).passNumber + 1#16, passTimer := some (s.now + s.settings.passInterval), passRunning := true
    startDue := false, pollArmed := true, starvation := 0, scanPosition := (s.settings.population g).headD 13
    revived := [] } := PerSeg.get_modify_self ..

/-- What a pass timer held is gone with the pass that starts. -/
theorem State.openPass_timer : (s.modFsc g fun f => { f with passTimer := none }).openPass g = s.openPass g := by
  have hpass : ((s.modFsc g fun f => { f with passTimer := none }).fsc.get g).passNumber = (s.fsc.get g).passNumber := by
    rw [State.modFsc_fsc, PerSeg.get_modify_self]
  unfold State.openPass
  dsimp only
  rw [hpass, State.modFsc_modFsc]
  rfl

theorem addresses_headD_le {set : Word} {a : Nat} (h : a ∈ addresses set) : (addresses set).headD 13 ≤ a := by
  have hsorted := addresses_ascending set
  cases hxs : addresses set with
  | nil => rw [hxs] at h; cases h
  | cons x xs =>
    rw [hxs] at h hsorted
    rcases List.mem_cons.1 h with rfl | h
    · exact Nat.le_refl _
    · exact Nat.le_of_lt ((List.pairwise_cons.1 hsorted).1 a h)

/-- The stations due a call as a pass begins: those that answer and, in a pass that probes, every one. -/
theorem State.openPass_due {a : Nat} : (s.openPass g).Due g a ↔ a ∈ s.settings.population g ∧
    (s.isLost g a = false ∨ ((s.fsc.get g).passNumber + 1#16).toNat % 10 = 0) := by
  unfold State.Due
  rw [State.openPass_fsc, State.openPass_isLost]
  exact ⟨fun ⟨hmem, _, hcall⟩ => ⟨hmem, hcall⟩, fun ⟨hmem, hcall⟩ => ⟨hmem, addresses_headD_le hmem, hcall⟩⟩

/-- A pass with a station due a call goes on. -/
theorem State.startPass_called (h : (∃ a ∈ s.settings.population g, s.isLost g a = false) ∨
    (((s.fsc.get g).passNumber + 1#16).toNat % 10 = 0 ∧ s.settings.population g ≠ [])) : s.startPass g = s.openPass g := by
  have hdue : ∃ a, (s.openPass g).Due g a := by
    rcases h with ⟨a, ha, hanswers⟩ | ⟨hprobes, hne⟩
    · exact ⟨a, State.openPass_due.2 ⟨ha, .inl hanswers⟩⟩
    · obtain ⟨a, ha⟩ := List.exists_mem_of_ne_nil _ hne
      exact ⟨a, State.openPass_due.2 ⟨ha, .inr hprobes⟩⟩
  refine if_pos (Option.isSome_iff_ne_none.2 fun hnone => ?_)
  obtain ⟨a, ha⟩ := hdue
  exact State.nextScan_eq_none.1 hnone a ha

/-- A pass with no station due a call ends at once. -/
theorem State.startPass_uncalled (hlost : ∀ a ∈ s.settings.population g, s.isLost g a = true)
    (h : ((s.fsc.get g).passNumber + 1#16).toNat % 10 ≠ 0 ∨ s.settings.population g = []) :
    s.startPass g = (s.openPass g).closePass g := by
  have hnone : (s.openPass g).nextScan g = none := State.nextScan_eq_none.2 fun a ha => by
    obtain ⟨hmem, hcall⟩ := State.openPass_due.1 ha
    rw [hlost a hmem] at hcall
    rcases h with h | h
    · exact hcall.elim nofun h
    · rw [h] at hmem; cases hmem
  exact if_neg (by rw [hnone]; exact Bool.false_ne_true)

/-! ### The end of a pass (R31) -/

theorem State.endPass_notDue (h : (s.fsc.get g).startDue = false) : s.endPass g = s.closePass g :=
  if_neg (by rw [h]; exact Bool.false_ne_true)

theorem State.endPass_due (h : (s.fsc.get g).startDue = true) : s.endPass g = (s.closePass g).startPass g := if_pos h

theorem State.closePass_fsc : (s.closePass g).fsc.get g = { s.fsc.get g with passRunning := false } := by
  simp [State.closePass]

theorem State.closePass_isLost (a : Nat) : (s.closePass g).isLost g a = s.isLost g a := by
  unfold State.isLost
  rw [State.link_congr (s := s) (State.station?_congr (by simp) a)]

end

theorem exec_passTimerExpiry {s : State} {g : SegId} {d : Nat} (h : (s.fsc.get g).passTimer = some d) :
    exec (.passTimerExpiry g) s = .next (((s.advanceTo d).passTimerExpired g).arbitrate g).kickPorts := by
  change execPassTimerExpiry g s = _
  rw [execPassTimerExpiry, h]

/-- Settles O47. -/
theorem passTimerStartsPass : Obligations.PassTimerStartsPass := by
  refine ⟨fun limit pass q => ⟨q.age_stored limit pass, fun h => Point.age_old h limit pass,
    fun v hv h => Point.age_held hv h limit pass⟩, ?_⟩
  intro pass opened called uncalled
  refine ⟨fun s g d hd => ?_, fun s g => ⟨State.endPass_notDue, fun hdue => ⟨fun hcalled => ?_, fun huncalled => ?_⟩⟩⟩
  · intro v
    have hexec := exec_passTimerExpiry hd
    refine ⟨fun hrun => ?_, fun hstopped => ?_⟩
    · rw [hexec, State.passTimerExpired, if_pos (by exact hrun), State.setFault_noticed, State.modFsc_modFsc]
      rfl
    · have hget : ((v.modFsc g fun f => { f with passTimer := none }).fsc.get g).passNumber = (s.fsc.get g).passNumber := by
        rw [State.modFsc_fsc, PerSeg.get_modify_self]
      have hstart : (s.advanceTo d).passTimerExpired g = (v.modFsc g fun f => { f with passTimer := none }).startPass g :=
        if_neg (by rw [show ((s.advanceTo d).fsc.get g).passRunning = false from hstopped]; exact Bool.false_ne_true)
      refine ⟨fun hcalled => ?_, fun ⟨hlost, hquiet⟩ => ?_⟩
      · rw [hexec, hstart, State.startPass_called (by rw [hget]; exact hcalled), State.openPass_timer]
        rfl
      · rw [hexec, hstart, State.startPass_uncalled (by exact hlost) (by rw [hget]; exact hquiet), State.openPass_timer]
        rfl
  · rw [State.endPass_due hdue]
    refine (State.startPass_called ?_).trans rfl
    have hsettings : (s.closePass g).settings = s.settings := by simp
    rw [State.closePass_fsc, hsettings]
    simpa only [State.closePass_isLost] using hcalled
  · obtain ⟨hlost, hquiet⟩ := huncalled
    rw [State.endPass_due hdue]
    refine (State.startPass_uncalled (fun a ha => ?_) ?_).trans rfl
    · rw [State.closePass_isLost]
      exact hlost a (by simpa using ha)
    · have hsettings : (s.closePass g).settings = s.settings := by simp
      rw [State.closePass_fsc, hsettings]
      exact hquiet

end Sys2Proof.Machine
end

section
/-! The full run and the end of pass (chapter 6): which units it serves, what it posts, and what an end of pass brings. -/

namespace Sys2Proof.Machine

/-! ### The command records (R102) -/

theorem find?_map_of_addr {F : StationCommands → StationCommands} (hF : ∀ c, (F c).addr = c.addr) (cs : List StationCommands)
    (a : Nat) : (cs.map F).find? (fun c => c.addr == a) = (cs.find? fun c => c.addr == a).map F := by
  rw [List.find?_map]
  congr 1
  exact congrArg (cs.find? ·) (funext fun c => by simp [hF])

section
variable {s : State} {l : LoopId}

theorem State.commands?_addr {a : Nat} {c : StationCommands} (h : s.commands? l a = some c) : c.addr = a := by
  have hfound := List.find?_some (p := fun c : StationCommands => c.addr == a) h
  exact beq_iff_eq.1 hfound

/-- A configured station with outputs has a command record. -/
theorem State.commands?_of_mem (hcs : (s.alloc.get l).commands.map StationCommands.addr = outputStations (s.settings.population l))
    {a : Nat} (ha : a ∈ outputStations (s.settings.population l)) :
    ∃ c, s.commands? l a = some c ∧ s.commands l a = c ∧ c.addr = a := by
  obtain ⟨c, hc, haddr⟩ := List.mem_map.1 (hcs ▸ ha)
  cases hfind : s.commands? l a with
  | none => exact absurd (beq_iff_eq.2 haddr) (List.find?_eq_none.1 hfind c hc)
  | some d => exact ⟨d, rfl, by rw [State.commands, hfind]; rfl, State.commands?_addr hfind⟩

theorem mem_outputStations {as : List Nat} {a : Nat} (ha : a ∈ as) (hk : kindOf a ≠ .ambient) : a ∈ outputStations as :=
  List.mem_filter.2 ⟨ha, by simpa using hk⟩

/-! ### Eligible units (R96) -/

theorem State.answers_iff {a : Nat} : s.answers l a = true ↔
    ∃ st, s.station? l a = some st ∧ st.counter ≠ 0 ∧ st.mode = .auto := by
  unfold State.answers
  cases s.station? l a with
  | none => simp
  | some st => simp [st.link_lost_iff]

theorem State.mem_eligible {a : Nat} : a ∈ s.eligible l ↔ a ∈ s.settings.population l ∧ kindOf a = .unit ∧
    ∃ st, s.station? l a = some st ∧ st.counter ≠ 0 ∧ st.mode = .auto := by
  rw [State.eligible, List.mem_filter, unitsOf, List.mem_filter, State.answers_iff, beq_iff_eq, and_assoc]

theorem State.heldInService_iff {a : Nat} : s.heldInService l a = true ↔
    ∃ x, s.unit? l a = some x ∧ (x.frost = .protect ∨ (x.frost = .guard ∧ s.validPoint l a 3 ≠ some 1)) := by
  unfold State.heldInService
  cases s.unit? l a with
  | none => simp
  | some x => cases hf : x.frost <;> simp [hf, valveClosedCode]

theorem State.mem_serviceSet {a k : Nat} (ha : a ∈ s.eligible l) : a ∈ s.serviceSet l k ↔
    a ∈ ((s.alloc.get l).order.filter fun b => decide (b ∈ s.eligible l)).take k ∨
      ∃ x, s.unit? l a = some x ∧ (x.frost = .protect ∨ (x.frost = .guard ∧ s.validPoint l a 3 ≠ some 1)) := by
  have hcontains : (fun b => (s.eligible l).contains b) = fun b => decide (b ∈ s.eligible l) :=
    funext fun b => List.contains_eq_mem b _
  unfold State.serviceSet
  dsimp only
  rw [List.mem_append, List.mem_filter, hcontains, State.heldInService_iff]
  exact or_congr_right ⟨fun h => h.2, fun h => ⟨ha, h⟩⟩

/-! ### What the full run wishes (R97 to R101) -/

/-- The ladder of a full run. -/
def State.run (s : State) (l : LoopId) : LastRun :=
  ladder (s.alloc.get l).demand (s.eligible l).length
    (if (s.fpb.get l).permitted = true then min (s.settings.loop.get l).minService (s.eligible l).length
      else (s.eligible l).length) (s.settings.loop.get l).smin (s.fpb.get l).bmax

theorem State.fullStages_eq (s : State) (l : LoopId) : s.fullStages l = s.modAlloc l fun al => { al with
    lastRun := some (s.run l)
    commands := al.commands.map (runValues (s.eligible l) (s.serviceSet l (s.run l).k) (s.run l)) } := rfl

theorem State.run_k_le : (s.run l).k ≤ (s.eligible l).length := (ladder_k_bounds (by split <;> omega)).2

theorem runValues_addr (el serving : List Nat) (run : LastRun) (c : StationCommands) :
    (runValues el serving run c).addr = c.addr := by
  unfold runValues
  split
  · split <;> rfl
  · rfl
  · rfl

theorem runValues_other {el serving : List Nat} {run : LastRun} {c : StationCommands} (hk : kindOf c.addr = .unit)
    (h : c.addr ∉ el) : runValues el serving run c = c := by
  unfold runValues
  rw [hk]
  exact if_neg (by rw [List.contains_iff_mem]; exact h)

theorem State.fullStages_commands (a : Nat) : (s.fullStages l).commands l a =
    ((s.commands? l a).map (runValues (s.eligible l) (s.serviceSet l (s.run l).k) (s.run l))).getD (StationCommands.fresh a) := by
  unfold State.commands State.commands?
  rw [State.fullStages_eq, State.modAlloc_alloc, PerSeg.get_modify_self, find?_map_of_addr (runValues_addr _ _ _)]

/-- A unit that is not eligible keeps its wish. -/
theorem State.fullStages_other {a : Nat} (ha : a ∉ s.eligible l) (hk : kindOf a = .unit) :
    (s.fullStages l).commands l a = s.commands l a := by
  rw [State.fullStages_commands, State.commands]
  cases hfind : s.commands? l a with
  | none => rfl
  | some c =>
    have haddr : c.addr = a := State.commands?_addr hfind
    exact runValues_other (by rw [haddr]; exact hk) (by rw [haddr]; exact ha)

variable (hcs : (s.alloc.get l).commands.map StationCommands.addr = outputStations (s.settings.population l))
include hcs

/-- An eligible unit's wish: VALVE OPEN and the common speed in service, VALVE CLOSE and FAN 0 out of it. -/
theorem State.fullStages_unit {a : Nat} (ha : a ∈ s.eligible l) :
    ((s.fullStages l).commands l a).fan.allocator = some (if a ∈ s.serviceSet l (s.run l).k then (s.run l).speed else 0) ∧
      ((s.fullStages l).commands l a).valve.allocator =
        some (if a ∈ s.serviceSet l (s.run l).k then .toOpen else .toClose) := by
  obtain ⟨hmem, hk, -⟩ := State.mem_eligible.1 ha
  obtain ⟨c, hc, -, rfl⟩ := State.commands?_of_mem hcs (mem_outputStations hmem (by rw [hk]; nofun))
  rw [State.fullStages_commands, hc]
  unfold runValues
  rw [Option.map_some, hk]
  dsimp only
  rw [if_pos (List.contains_iff_mem.2 ha)]
  simp

theorem State.fullStages_open {a : Nat} (ha : a ∈ s.eligible l) :
    ((s.fullStages l).commands l a).valve.allocator = some .toOpen ↔ a ∈ s.serviceSet l (s.run l).k := by
  rw [(State.fullStages_unit hcs ha).2]
  by_cases h : a ∈ s.serviceSet l (s.run l).k <;> simp [h]

theorem State.fullStages_bypass (h : 12 ∈ s.settings.population l) :
    ((s.fullStages l).commands l 12).bypass.allocator = some (s.run l).bypass := by
  obtain ⟨c, hc, -, haddr⟩ := State.commands?_of_mem hcs (mem_outputStations h (by decide))
  rw [State.fullStages_commands, hc]
  unfold runValues
  rw [Option.map_some, haddr]
  rfl

omit hcs

/-- The service order lists every eligible unit. -/
theorem State.eligible_inOrder (ho : s.OrdersComplete) :
    ((s.alloc.get l).order.filter fun b => decide (b ∈ s.eligible l)).length = (s.eligible l).length := by
  have hperm := (ho l).filter fun b => decide (b ∈ s.eligible l)
  rw [hperm.length_eq]
  have hsame : (unitsOf (s.settings.population l)).filter (fun b => decide (b ∈ s.eligible l)) = s.eligible l :=
    List.filter_congr fun b hb => by
      rw [Bool.eq_iff_iff, decide_eq_true_eq, State.eligible, List.mem_filter]
      exact ⟨fun h => h.2, fun h => ⟨hb, h⟩⟩
  rw [hsame]

theorem addresses_nodup (set : Word) : (addresses set).Nodup := (addresses_ascending set).imp Nat.ne_of_lt

/-- The full run serves at least as many as the ladder asks for. -/
theorem State.fullStages_serves (ho : s.OrdersComplete)
    (hcs : (s.alloc.get l).commands.map StationCommands.addr = outputStations (s.settings.population l)) :
    (s.run l).k ≤ ((s.eligible l).filter fun a => ((s.fullStages l).commands l a).valve.allocator == some .toOpen).length := by
  have hlength : (((s.alloc.get l).order.filter fun b => decide (b ∈ s.eligible l)).take (s.run l).k).length = (s.run l).k := by
    rw [List.length_take, State.eligible_inOrder ho, Nat.min_eq_left State.run_k_le]
  have hnodup : (((s.alloc.get l).order.filter fun b => decide (b ∈ s.eligible l)).take (s.run l).k).Nodup :=
    (((ho l).nodup_iff.2 ((addresses_nodup _).filter _)).filter _).sublist (List.take_sublist ..)
  have hsub : ((s.alloc.get l).order.filter fun b => decide (b ∈ s.eligible l)).take (s.run l).k ⊆
      (s.eligible l).filter fun a => ((s.fullStages l).commands l a).valve.allocator == some .toOpen := fun a ha => by
    have hel : a ∈ s.eligible l := of_decide_eq_true (List.mem_filter.1 (List.mem_of_mem_take ha)).2
    refine List.mem_filter.2 ⟨hel, beq_iff_eq.2 ((State.fullStages_open hcs hel).2 ?_)⟩
    exact (State.mem_serviceSet hel).2 (.inl ha)
  exact hlength ▸ (hnodup.subperm hsub).length_le

end

/-! ### The posts of a run and of the waiting records (R103, R131) -/

/-- Changing each element by one of several rules in turn is changing it by all of them. -/
theorem foldl_map_swap {α β : Type} (f : β → α → α) (cs : List β) (xs : List α) :
    cs.foldl (fun xs c => xs.map (f c)) xs = xs.map fun x => cs.foldl (fun x c => f c x) x := by
  induction cs generalizing xs with
  | nil => simp
  | cons c cs ih => rw [List.foldl_cons, ih, List.map_map]; rfl

theorem StationCommands.recordPost_none (c : StationCommands) {f : Fields} (h : f.isEmpty = true) : c.recordPost f = c := by
  obtain ⟨fan, valve, bypass⟩ := f
  cases fan <;> cases valve <;> cases bypass <;> first | rfl | cases h

/-- The command records after the posts of some of them, one after another. -/
def recordAll (w : StationCommands → Fields) (cs xs : List StationCommands) : List StationCommands :=
  cs.foldl (fun xs c => xs.map fun x => if x.addr = c.addr then x.recordPost (w c) else x) xs

/-- Each record posted once, by its own fields, in a list of records of different stations. -/
theorem recordPosts_eq {w : StationCommands → Fields} {cs : List StationCommands} (h : (cs.map StationCommands.addr).Nodup) :
    recordAll w cs cs = cs.map fun c => c.recordPost (w c) := by
  have hskip : ∀ (ds : List StationCommands) (x : StationCommands), x.addr ∉ ds.map StationCommands.addr →
      ds.foldl (fun x c => if x.addr = c.addr then x.recordPost (w c) else x) x = x := by
    intro ds
    induction ds with
    | nil => exact fun _ _ => rfl
    | cons d ds ih =>
      intro x hx
      rw [List.map_cons, List.mem_cons, not_or] at hx
      rw [List.foldl_cons, if_neg hx.1]
      exact ih x hx.2
  rw [recordAll, foldl_map_swap]
  refine List.map_congr_left fun c hc => ?_
  obtain ⟨before, after, rfl⟩ := List.append_of_mem hc
  rw [List.map_append, List.map_cons, List.nodup_append] at h
  obtain ⟨_, hafter, hapart⟩ := h
  have hbefore : c.addr ∉ before.map StationCommands.addr := fun hm => hapart _ hm _ (List.mem_cons_self ..) rfl
  rw [List.foldl_append, hskip before c hbefore, List.foldl_cons, if_pos rfl]
  exact hskip after _ (List.nodup_cons.1 hafter).1

/-- Some posts to the stations of a segment, one after another. -/
def postAll (posts : List (Nat × Fields × Option PortId)) (es : List Entry) : List Entry :=
  posts.foldl (fun es x => mergePost x.1 x.2.1 x.2.2 es) es

theorem postAll_append (ps qs : List (Nat × Fields × Option PortId)) (es : List Entry) :
    postAll (ps ++ qs) es = postAll qs (postAll ps es) := List.foldl_append

/-- The posts of some command records with the fields each is to carry. -/
def recordPosts (w : StationCommands → Fields) (cs : List StationCommands) : List (Nat × Fields × Option PortId) :=
  (cs.filter fun c => !(w c).isEmpty).map fun c => (c.addr, w c, none)

section
variable {s : State} {l : LoopId}

theorem State.runPosts_fold {w : StationCommands → Fields} (cs : List StationCommands) (t : State)
    (hw : ∀ u : State, u.image = t.image → u.overrides = t.overrides → ∀ c, u.wanted l c = w c) :
    cs.foldl (fun t c => t.runPost l c) t = { t with
      buffer := t.buffer.modify l (postAll (recordPosts w cs))
      alloc := t.alloc.modify l fun al => { al with commands := recordAll w cs al.commands } } := by
  induction cs generalizing t with
  | nil =>
    have hbuffer : t.buffer.modify l (postAll (recordPosts w [])) = t.buffer := PerSeg.modify_eq_self rfl
    have halloc : (t.alloc.modify l fun al => { al with commands := recordAll w [] al.commands }) = t.alloc :=
      PerSeg.modify_eq_self rfl
    rw [hbuffer, halloc]
    rfl
  | cons c cs ih =>
    have hstep : t.runPost l c = { t with
        buffer := t.buffer.modify l (postAll (recordPosts w [c]))
        alloc := t.alloc.modify l fun al => { al with commands := recordAll w [c] al.commands } } := by
      unfold State.runPost
      dsimp only
      rw [hw t rfl rfl c]
      by_cases hempty : (w c).isEmpty = true
      · have hposts : recordPosts w [c] = [] := by simp [recordPosts, hempty]
        have hrecords : ∀ xs, recordAll w [c] xs = xs := fun xs => by
          have hsame : (fun x : StationCommands => if x.addr = c.addr then x.recordPost (w c) else x) = id :=
            funext fun x => by rw [x.recordPost_none hempty]; exact ite_self _
          rw [recordAll, List.foldl_cons, List.foldl_nil, hsame, List.map_id]
        have hbuffer : t.buffer.modify l (postAll []) = t.buffer := PerSeg.modify_eq_self rfl
        have halloc : (t.alloc.modify l fun al => { al with commands := recordAll w [c] al.commands }) = t.alloc :=
          PerSeg.modify_eq_self (by rw [hrecords])
        rw [if_pos hempty, hposts, hbuffer, halloc]
      · have hposts : recordPosts w [c] = [(c.addr, w c, none)] := by simp [recordPosts, hempty]
        rw [if_neg hempty, hposts]
        rfl
    rw [List.foldl_cons, ih (t.runPost l c) fun u hi ho => hw u (hi.trans (by simp)) (ho.trans (by simp)), hstep]
    dsimp only
    rw [PerSeg.modify_modify, PerSeg.modify_modify]
    have hposts : recordPosts w (c :: cs) = recordPosts w [c] ++ recordPosts w cs := by
      rw [recordPosts, recordPosts, recordPosts, ← List.map_append, ← List.filter_append]
      rfl
    have hbuffer : (fun es => postAll (recordPosts w cs) (postAll (recordPosts w [c]) es)) =
        postAll (recordPosts w (c :: cs)) := funext fun es => by rw [hposts, postAll_append]
    rw [hbuffer]
    rfl

theorem State.answers_congr {u t : State} (h : u.image = t.image) (a : Nat) : u.answers l a = t.answers l a := by
  unfold State.answers
  rw [State.station?_congr (s := t) (u := u) (by rw [h])]

theorem State.wanted_congr {u t : State} (hi : u.image = t.image) (ho : u.overrides = t.overrides) (c : StationCommands) :
    u.wanted l c = t.wanted l c := by
  unfold State.wanted State.overridden State.override?
  rw [State.answers_congr hi, ho]

/-- The posts of a full run. -/
theorem State.runPosts_eq {w : StationCommands → Fields} (hnodup : ((s.alloc.get l).commands.map StationCommands.addr).Nodup)
    (hw : ∀ c, s.wanted l c = w c) : s.runPosts l = { s with
      buffer := s.buffer.modify l (postAll (recordPosts w (s.alloc.get l).commands))
      alloc := s.alloc.modify l fun al => { al with commands := al.commands.map fun c => c.recordPost (w c) } } := by
  have hrecords : (s.alloc.modify l fun al => { al with commands := recordAll w (s.alloc.get l).commands al.commands }) =
      s.alloc.modify l fun al => { al with commands := al.commands.map fun c => c.recordPost (w c) } := by
    refine PerSeg.ext_get fun k => ?_
    rw [PerSeg.get_modify, PerSeg.get_modify]
    split
    · next hk => rw [hk, recordPosts_eq hnodup]
    · rfl
  rw [State.runPosts, State.runPosts_fold _ _ fun u hi ho c => (State.wanted_congr hi ho c).trans (hw c), hrecords]

theorem State.postRecords_fold {rs : List OverrideRecord} (h : ∀ r ∈ rs, r.seg = l) (t : State) :
    rs.foldl State.postRecord t = { t with
      buffer := t.buffer.modify l (postAll (rs.map fun r => (r.station, r.value.fields, some r.owner))) } := by
  induction rs generalizing t with
  | nil =>
    have hbuffer : t.buffer.modify l (postAll []) = t.buffer := PerSeg.modify_eq_self rfl
    rw [List.map_nil, hbuffer]
    rfl
  | cons r rs ih =>
    rw [List.foldl_cons, ih fun x hx => h x (List.mem_cons_of_mem _ hx), State.postRecord, h r (List.mem_cons_self ..)]
    exact congrArg (fun b => { t with buffer := b }) (PerSeg.modify_modify t.buffer l (mergePost _ _ _) (postAll _))

/-- The posts of the records that wait, at an end of pass (R131). -/
theorem State.deliverWaiting_eq (s : State) (l : LoopId) : s.deliverWaiting l = { s with
    buffer := s.buffer.modify l (postAll ((s.overrides.filter (s.deliverable l)).map fun r =>
      (r.station, r.value.fields, some r.owner)))
    overrides := s.overrides.map fun r => if s.deliverable l r then { r with delivery := .posted } else r } := by
  have hseg : ∀ r ∈ s.overrides.filter (s.deliverable l), r.seg = l := fun r hr =>
    (State.deliverable_iff.1 (List.mem_filter.1 hr).2).1
  unfold State.deliverWaiting
  dsimp only
  rw [State.postRecords_fold hseg]
  rfl

/-- What a run posts of a station's records (R103). -/
theorem State.wanted_eq (c : StationCommands) : s.wanted l c = if s.answers l c.addr = true then
    { fan := if s.override? l c.addr .fan = none ∧ c.fan.allocator ≠ c.fan.posted then c.fan.allocator else none
      valve := if s.override? l c.addr .valve = none ∧ c.valve.allocator ≠ c.valve.posted then c.valve.allocator else none
      bypass := if s.override? l c.addr .bypass = none ∧ c.bypass.allocator ≠ c.bypass.posted then
          c.bypass.allocator else none }
    else { fan := none, valve := none, bypass := none } := by
  have hdue : ∀ {α : Type} [DecidableEq α] (c : CommandRecord α) (o : Option OverrideRecord),
      (if o.isSome then none else c.due) = if o = none ∧ c.allocator ≠ c.posted then c.allocator else none := by
    intro α _ c o
    unfold CommandRecord.due
    cases o with
    | none => by_cases h : c.allocator = c.posted <;> simp [h]
    | some r => simp
  unfold State.wanted State.overridden
  rw [hdue, hdue, hdue]
  rfl

theorem StationCommands.recordPost_eq (c : StationCommands) (f : Fields) : c.recordPost f = { c with
    fan := { c.fan with posted := if f.fan = none then c.fan.posted else f.fan }
    valve := { c.valve with posted := if f.valve = none then c.valve.posted else f.valve }
    bypass := { c.bypass with posted := if f.bypass = none then c.bypass.posted else f.bypass } } := by
  have hpost : ∀ {α : Type} [DecidableEq (Option α)] (r : CommandRecord α) (v : Option α),
      r.post v = { r with posted := if v = none then r.posted else v } := by
    intro α _ r v
    cases v <;> simp [CommandRecord.post]
  rw [StationCommands.recordPost, hpost, hpost, hpost]

/-! ### The demand stage (R93 to R95) -/

theorem demandError_eq (supply target : Int) : demandError supply target = max (-200) (min 200 (supply - target)) :=
  clamp_eq_max_min (by omega) _


/-- What the demand stage leaves of an allocator, with a supply temperature or without. -/
def Allocator.afterDemand (st : LoopSettings) (target : Int) (supply : Option Int) (warmUp : Bool) (al : Allocator) : Allocator :=
  match supply with
  | some ts => { al with
    ePrev := demandError ts target, lastSupply := some ts, supplyValid := true
    demand := if warmUp then al.demand
      else demandNext al.demand (increment st.kp st.ki (demandError ts target) al.ePrev) }
  | none => { al with supplyValid := false }

/-- The demand stage, after the run is counted. -/
theorem State.demandStage_eq (s : State) (l : LoopId) (warmUp : Bool) {faults : BitVec 24}
    (hfaults : faults = if s.validPoint l 12 0 = none then s.faults ||| (FaultFlag.supplyLost l).mask else s.faults) :
    s.demandStage l warmUp = { s with
      alloc := s.alloc.modify l
        (Allocator.afterDemand (s.settings.loop.get l) (s.merge.get l).target (s.validPoint l 12 0) warmUp)
      faults := faults, ports := s.noticed fun _ => if faults = s.faults then 0#8 else 0x20#8 } := by
  unfold State.demandStage
  change (match s.validPoint l 12 0 with | some _ => _ | none => _) = _
  cases hsupply : s.validPoint l 12 0 with
  | some ts =>
    rw [hsupply] at hfaults
    have hsame : faults = s.faults := hfaults
    subst hsame
    simp only [if_true, State.noticed_none]
    rfl
  | none =>
    rw [hsupply] at hfaults
    have hset : faults = if true = true then s.faults ||| (FaultFlag.supplyLost l).mask else s.faults := hfaults
    exact State.setFaultIf_noticed (s := s.modAlloc l fun al => { al with supplyValid := false }) (cause := true) hset

end

end Sys2Proof.Machine
end

section
/-! The end of pass, whole (R30, R90, R131). -/

namespace Sys2Proof.Machine

theorem PerSeg.modify_congr {α : Type} {t : PerSeg α} {g : SegId} {f k : α → α} (h : f (t.get g) = k (t.get g)) :
    t.modify g f = t.modify g k := congrArg (fun v => t.set v g) h

section
variable {s : State} {l : LoopId}

/-- A run counted, and its demand stage taken with a supply temperature, if there is one. -/
def Allocator.demanded (st : LoopSettings) (target : Int) (supply : Option Int) (al : Allocator) : Allocator :=
  match supply with
  | some ts => { al with
    passes := min 2 (al.passes + 1), ePrev := max (-200) (min 200 (ts - target)), lastSupply := some ts, supplyValid := true
    demand := if al.passes = 0 then al.demand
      else demandNext al.demand (st.kp * (max (-200) (min 200 (ts - target)) - al.ePrev) +
        st.ki * max (-200) (min 200 (ts - target))) }
  | none => { al with passes := min 2 (al.passes + 1), supplyValid := false }

/-- The flags after the demand stage. -/
def State.demandFaults (s : State) (l : LoopId) : BitVec 24 :=
  if s.validPoint l 12 0 = none then s.faults ||| (FaultFlag.supplyLost l).mask else s.faults

/-- The state after the demand stage of an end of pass. -/
def State.demanded (s : State) (l : LoopId) : State := { s with
  fsc := s.fsc.modify l fun f => { f with passRunning := false }
  alloc := s.alloc.modify l (Allocator.demanded (s.settings.loop.get l) (s.merge.get l).target (s.validPoint l 12 0))
  faults := s.demandFaults l, ports := s.noticed fun _ => if s.demandFaults l = s.faults then 0#8 else 0x20#8 }

theorem State.demandStage_demanded : ((s.modFsc l fun f => { f with passRunning := false }).modAlloc l fun al =>
    { al with passes := min 2 (al.passes + 1) }).demandStage l ((s.alloc.get l).passes == 0) = s.demanded l := by
  refine (State.demandStage_eq (faults := s.demandFaults l) _ l _ (by exact rfl)).trans ?_
  refine congrArg (fun a => { s with
    fsc := s.fsc.modify l fun f => { f with passRunning := false }, alloc := a, faults := s.demandFaults l
    ports := s.noticed fun _ => if s.demandFaults l = s.faults then 0#8 else 0x20#8 }) ?_
  refine (PerSeg.modify_modify s.alloc l (fun al => { al with passes := min 2 (al.passes + 1) }) (Allocator.afterDemand
    (s.settings.loop.get l) (s.merge.get l).target (s.validPoint l 12 0) ((s.alloc.get l).passes == 0))).trans
      (PerSeg.modify_congr ?_)
  cases s.validPoint l 12 0 with
  | none => rfl
  | some ts =>
    simp only [Allocator.demanded, Allocator.afterDemand, ← demandError_eq, beq_iff_eq]
    rfl

theorem State.demanded_commands : ((s.demanded l).alloc.get l).commands = (s.alloc.get l).commands := by
  unfold State.demanded
  rw [PerSeg.get_modify_self]
  unfold Allocator.demanded
  split <;> rfl

/-- The state after the stages of an end of pass that post nothing. -/
def State.ranAtEnd (s : State) (l : LoopId) : State :=
  if (s.alloc.get l).passes = 0 then s.demanded l else (s.demanded l).fullStages l

/-- What an end of pass posts of a station's records: nothing at the warm-up. -/
def State.sentAtEnd (s : State) (l : LoopId) (c : StationCommands) : Fields :=
  if (s.alloc.get l).passes ≠ 0 ∧ s.answers l c.addr = true then
    { fan := if s.override? l c.addr .fan = none ∧ c.fan.allocator ≠ c.fan.posted then c.fan.allocator else none
      valve := if s.override? l c.addr .valve = none ∧ c.valve.allocator ≠ c.valve.posted then c.valve.allocator
        else none
      bypass := if s.override? l c.addr .bypass = none ∧ c.bypass.allocator ≠ c.bypass.posted then
          c.bypass.allocator else none }
  else { fan := none, valve := none, bypass := none }

theorem State.ranAtEnd_addrs : ((s.ranAtEnd l).alloc.get l).commands.map StationCommands.addr =
    (s.alloc.get l).commands.map StationCommands.addr := by
  unfold State.ranAtEnd
  split
  · rw [State.demanded_commands]
  · rw [State.fullStages_eq, State.modAlloc_alloc, PerSeg.get_modify_self, State.demanded_commands, List.map_map]
    exact List.map_congr_left fun c _ => runValues_addr _ _ _ c

/-- The run of an end of pass, warm-up or full. -/
theorem State.allocationRun_stages : (s.modFsc l fun f => { f with passRunning := false }).allocationRun l =
    if (s.alloc.get l).passes = 0 then s.demanded l else ((s.demanded l).fullStages l).runPosts l := by
  unfold State.allocationRun
  dsimp only
  rw [← State.demandStage_demanded]
  simp only [beq_iff_eq]
  rfl

/-- The run of an end of pass, with its posts. -/
theorem State.allocationRun_atEnd (hnodup : ((s.alloc.get l).commands.map StationCommands.addr).Nodup) :
    (s.modFsc l fun f => { f with passRunning := false }).allocationRun l = { s.ranAtEnd l with
      buffer := s.buffer.modify l (postAll (recordPosts (s.sentAtEnd l) ((s.ranAtEnd l).alloc.get l).commands))
      alloc := (s.ranAtEnd l).alloc.modify l fun al => { al with
        commands := al.commands.map fun c => c.recordPost (s.sentAtEnd l c) } } := by
  rw [State.allocationRun_stages]
  by_cases hwarm : (s.alloc.get l).passes = 0
  · have hran : s.ranAtEnd l = s.demanded l := if_pos hwarm
    have hsent : ∀ c, s.sentAtEnd l c = { fan := none, valve := none, bypass := none } := fun c => if_neg fun h => h.1 hwarm
    have hposts : recordPosts (s.sentAtEnd l) ((s.demanded l).alloc.get l).commands = [] := by
      rw [recordPosts, List.filter_eq_nil_iff.2 fun c _ => by rw [hsent]; exact Bool.false_ne_true]
      rfl
    have hbuffer : s.buffer.modify l (postAll []) = s.buffer := PerSeg.modify_eq_self rfl
    have halloc : ((s.demanded l).alloc.modify l fun al => { al with
        commands := al.commands.map fun c => c.recordPost (s.sentAtEnd l c) }) = (s.demanded l).alloc := by
      refine PerSeg.modify_eq_self ?_
      have hsame : (fun c : StationCommands => c.recordPost (s.sentAtEnd l c)) = id := funext fun c =>
        c.recordPost_none (by rw [hsent]; rfl)
      rw [hsame, List.map_id]
    rw [if_pos hwarm, hran, hposts, hbuffer, halloc]
    rfl
  · have hran : s.ranAtEnd l = (s.demanded l).fullStages l := if_neg hwarm
    have hwanted : ∀ c, ((s.demanded l).fullStages l).wanted l c = s.sentAtEnd l c := fun c => by
      rw [State.wanted_congr (t := s) (by simp [State.demanded]) (by simp [State.demanded]), State.wanted_eq,
        State.sentAtEnd]
      by_cases h : s.answers l c.addr = true
      · exact (if_pos h).trans (if_pos ⟨hwarm, h⟩).symm
      · exact (if_neg h).trans (if_neg fun hc => h hc.2).symm
    rw [if_neg hwarm, State.runPosts_eq (by rw [← hran, State.ranAtEnd_addrs]; exact hnodup) hwanted, hran]
    rfl

end

/-- Settles O60. -/
theorem fullRunServes : Obligations.FullRunServes := by
  refine ⟨fun s l ho hcs => ?_, fun s l hcs => ?_⟩
  · intro u n
    have hopen := fun a (ha : a ∈ s.eligible l) => (State.fullStages_open hcs ha)
    refine ⟨s.run l, ?_, rfl, fun a => State.mem_eligible, fun a ha x hx hheld => ?_, fun a ha => ?_, fun a ha _ => ?_,
      State.fullStages_serves ho hcs, fun a ha hk => State.fullStages_other ha hk, fun h => State.fullStages_bypass hcs h⟩
    · change ((s.fullStages l).alloc.get l).lastRun = _
      rw [State.fullStages_eq, State.modAlloc_alloc, PerSeg.get_modify_self]
    · have hserves : a ∈ s.serviceSet l (s.run l).k := (State.mem_serviceSet ha).2 (.inr ⟨x, hx, hheld⟩)
      obtain ⟨hfan, hvalve⟩ := State.fullStages_unit hcs ha
      rw [if_pos hserves] at hfan hvalve
      exact ⟨hvalve, hfan⟩
    · exact (hopen a ha).trans (State.mem_serviceSet ha)
    · obtain ⟨hfan, hvalve⟩ := State.fullStages_unit hcs ha
      by_cases hserves : a ∈ s.serviceSet l (s.run l).k
      · rw [if_pos hserves] at hfan hvalve
        exact .inl ⟨hvalve, hfan⟩
      · rw [if_neg hserves] at hfan hvalve
        exact .inr ⟨hvalve, hfan⟩
  · intro st old e faults demanded ran sent due posts
    have hnodup : ((s.alloc.get l).commands.map StationCommands.addr).Nodup := by
      rw [hcs]
      exact (addresses_nodup _).filter _
    have hdemanded : s.demanded l = demanded := by
      have halloc : s.alloc.modify l (Allocator.demanded st (s.merge.get l).target (s.validPoint l 12 0)) = demanded.alloc :=
        PerSeg.modify_congr (by
          cases s.validPoint l 12 0 <;> rfl)
      exact congrArg (fun a => { demanded with alloc := a }) halloc
    have hran : s.ranAtEnd l = ran := by rw [State.ranAtEnd, hdemanded]
    have hdue : ((s.modFsc l fun f => { f with passRunning := false }).allocationRun l).deliverable l = fun r => decide (due r) :=
      funext fun r => by
        rw [Bool.eq_iff_iff, State.deliverable_iff, State.answers_congr (t := s) (by simp), decide_eq_true_iff]
    have hoverrides : ((s.modFsc l fun f => { f with passRunning := false }).allocationRun l).overrides = s.overrides := by simp
    have hkept : (s.overrides.map fun r => if decide (due r) = true then { r with delivery := .posted } else r) =
        s.overrides.map fun r => if due r then { r with delivery := .posted } else r :=
      List.map_congr_left fun r _ => by simp only [decide_eq_true_eq]
    have hposted : (fun c : StationCommands => c.recordPost (s.sentAtEnd l c)) = fun c => _ :=
      funext fun c => c.recordPost_eq (s.sentAtEnd l c)
    have hbuffer := PerSeg.modify_modify s.buffer l (postAll (recordPosts (s.sentAtEnd l) ((s.ranAtEnd l).alloc.get l).commands))
      (postAll ((s.overrides.filter fun r => decide (due r)).map fun r => (r.station, r.value.fields, some r.owner)))
    simp only [← postAll_append] at hbuffer
    rw [State.closePass, State.deliverWaiting_eq, hdue, hoverrides, hkept, State.allocationRun_atEnd hnodup, hbuffer, hposted, hran]
    rfl

end Sys2Proof.Machine
end

section
/-! The settings and their image (11.1, 11.2, 12.7): what a written item reads back as, what it leaves of the others, and what
an image holds. -/

namespace Sys2Proof.Machine

/-! ### Codes and ranges -/

theorem wordOf_toNat (v : Word) : wordOf v.toNat = v := by simp [wordOf]

theorem signedWord_toInt (v : Word) : signedWord v.toInt = v := by simp [signedWord]

theorem PortClass.code_ofCode {n : Nat} {x : PortClass} (h : PortClass.ofCode n = some x) : x.code = n := by
  unfold PortClass.ofCode at h
  split at h <;> cases h <;> rfl

theorem LineRate.code_ofCode {n : Nat} {x : LineRate} (h : LineRate.ofCode n = some x) : x.code = n := by
  unfold LineRate.ofCode at h
  split at h <;> cases h <;> rfl

theorem addressSet_eq_some {v x : Word} : addressSet v = some x ↔ x = v ∧ v &&& 0xE001#16 = 0#16 := by
  unfold addressSet
  split
  · next h => simp only [Option.some.injEq]; exact ⟨fun e => ⟨e.symm, h⟩, fun e => e.1.symm⟩
  · next h => simp only [reduceCtorEq, false_iff]; exact fun e => h e.2

section
variable {st new : Settings} {i j : Item} {v : Word}

/-! ### A written item reads back (11.3) -/

/-- The freeze table has the entry an item names. -/
def Item.InTable (st : Settings) (i : Item) : Prop := ∀ n, i = .freeze n → n < st.freezeTable.length

theorem wordOf_inRange {lo hi x : Nat} (h : inRange v lo hi = some x) : wordOf x = v := by
  rw [(inRange_eq_some.1 h).1, wordOf_toNat]

theorem signedWord_inRange {lo hi x : Int} (h : inSignedRange v lo hi = some x) : signedWord x = v := by
  rw [(inSignedRange_eq_some.1 h).1, signedWord_toInt]

theorem wordOf_flag {x : Nat} (h : inRange v 0 1 = some x) : wordOf (x == 1).toNat = v := by
  obtain ⟨rfl, -, hle⟩ := inRange_eq_some.1 h
  have hflag : (v.toNat == 1).toNat = v.toNat := by
    rcases Nat.le_one_iff_eq_zero_or_eq_one.1 hle with h0 | h1
    · rw [h0]; rfl
    · rw [h1]; rfl
  rw [hflag, wordOf_toNat]

theorem Settings.read_setPort_self (p : PortId) (f : PortSettings → PortSettings) : (st.setPort p f).port.get p = f (st.port.get p) :=
  PerPort.get_modify_self ..

theorem Settings.read_setSeg_self (g : SegId) (f : SegSettings → SegSettings) : (st.setSeg g f).seg.get g = f (st.seg.get g) :=
  PerSeg.get_modify_self ..

theorem Settings.read_setLoop_self (l : LoopId) (f : LoopSettings → LoopSettings) :
    (st.setLoop l f).loop.get l = f (st.loop.get l) := PerSeg.get_modify_self ..

theorem Settings.write_read_same (h : st.write i v = some new) (hi : i.InTable st) : new.read i = v := by
  cases i with
  | cls p =>
    obtain ⟨x, hx, rfl⟩ := Option.map_eq_some_iff.1 h
    rw [Settings.read, Settings.read_setPort_self, PortClass.code_ofCode hx, wordOf_toNat]
  | rate p =>
    obtain ⟨x, hx, rfl⟩ := Option.map_eq_some_iff.1 h
    rw [Settings.read, Settings.read_setPort_self, LineRate.code_ofCode hx, wordOf_toNat]
  | notices p =>
    obtain ⟨x, hx, rfl⟩ := Option.map_eq_some_iff.1 h
    rw [Settings.read, Settings.read_setPort_self]
    exact wordOf_flag hx
  | population g | mask g =>
    obtain ⟨x, hx, rfl⟩ := Option.map_eq_some_iff.1 h
    rw [Settings.read, Settings.read_setSeg_self]
    exact (addressSet_eq_some.1 hx).1
  | passInterval =>
    obtain ⟨x, hx, rfl⟩ := Option.map_eq_some_iff.1 (Option.ite_none_right_eq_some.1 h).2
    exact wordOf_inRange hx
  | holdLimit | settleTimeout | icingInterval =>
    obtain ⟨x, hx, rfl⟩ := Option.map_eq_some_iff.1 h
    exact wordOf_inRange hx
  | nominal l | minFlow l | kp l | ki l | smin l | guardCap l | minService l | rotation l =>
    obtain ⟨x, hx, rfl⟩ := Option.map_eq_some_iff.1 h
    rw [Settings.read, Settings.read_setLoop_self]
    exact wordOf_inRange hx
  | fbTarget l | fbFloor l | fbCeiling l =>
    obtain ⟨x, hx, rfl⟩ := Option.map_eq_some_iff.1 h
    rw [Settings.read, Settings.read_setLoop_self]
    exact signedWord_inRange hx
  | freeze n =>
    obtain ⟨x, hx, rfl⟩ := Option.map_eq_some_iff.1 h
    have hn : n < (st.freezeTable.set n x).length := by rw [List.length_set]; exact hi n rfl
    rw [Settings.read, List.getD_eq_getElem _ _ hn, List.getElem_set_self]
    exact signedWord_inRange hx
  | guardBand | designMin =>
    obtain ⟨x, hx, rfl⟩ := Option.map_eq_some_iff.1 h
    exact signedWord_inRange hx
  | block b =>
    cases b <;>
      obtain ⟨_, hnew⟩ := Option.ite_none_right_eq_some.1 h <;> cases hnew <;> exact wordOf_toNat v

/-! ### A written item leaves the others -/

/-- A field of a loop's settings that a write keeps is read as before, and one of another loop too. -/
theorem PerSeg.read_modify {α β : Type} {t : PerSeg α} {g k : SegId} {f : α → α} {r : α → β}
    (h : k = g → ∀ x, r (f x) = r x) : r ((t.modify g f).get k) = r (t.get k) := by
  by_cases hk : k = g
  · subst hk
    rw [PerSeg.get_modify_self, h rfl]
  · rw [PerSeg.get_modify_other _ _ hk]

theorem PerPort.read_modify {α β : Type} {t : PerPort α} {p q : PortId} {f : α → α} {r : α → β}
    (h : q = p → ∀ x, r (f x) = r x) : r ((t.modify p f).get q) = r (t.get q) := by
  by_cases hq : q = p
  · subst hq
    rw [PerPort.get_modify_self, h rfl]
  · rw [PerPort.get_modify_other _ _ hq]

/-- What an item reads of a loop's settings, if it reads any. -/
def Item.loopField : Item → Option (LoopId × (LoopSettings → Word))
  | .nominal l => some (l, fun s => wordOf s.nominal)
  | .minFlow l => some (l, fun s => wordOf s.minFlow)
  | .fbTarget l => some (l, fun s => signedWord s.fbTarget)
  | .fbFloor l => some (l, fun s => signedWord s.fbFloor)
  | .fbCeiling l => some (l, fun s => signedWord s.fbCeiling)
  | .kp l => some (l, fun s => wordOf s.kp)
  | .ki l => some (l, fun s => wordOf s.ki)
  | .smin l => some (l, fun s => wordOf s.smin)
  | .guardCap l => some (l, fun s => wordOf s.guardCap)
  | .minService l => some (l, fun s => wordOf s.minService)
  | .rotation l => some (l, fun s => wordOf s.rotation)
  | _ => none

theorem Settings.read_loopField {l : LoopId} {r : LoopSettings → Word} (h : j.loopField = some (l, r)) :
    st.read j = r (st.loop.get l) := by
  cases j <;> cases h <;> rfl

/-- A change of one loop's settings reaches only the items that read what it changes. -/
theorem Settings.read_setLoop {l : LoopId} {f : LoopSettings → LoopSettings}
    (h : ∀ r, j.loopField = some (l, r) → ∀ x, r (f x) = r x) : (st.setLoop l f).read j = st.read j := by
  cases hj : j.loopField with
  | some field =>
    obtain ⟨k, r⟩ := field
    rw [Settings.read_loopField hj, Settings.read_loopField hj]
    exact PerSeg.read_modify (fun hk => h r (by rw [hj, hk]))
  | none => cases j <;> first | rfl | cases hj

/-- What an item reads of a port's settings, if it reads any. -/
def Item.portField : Item → Option (PortId × (PortSettings → Word))
  | .cls p => some (p, fun s => wordOf s.cls.code)
  | .rate p => some (p, fun s => wordOf s.rate.code)
  | .notices p => some (p, fun s => wordOf s.notices.toNat)
  | _ => none

theorem Settings.read_portField {p : PortId} {r : PortSettings → Word} (h : j.portField = some (p, r)) :
    st.read j = r (st.port.get p) := by
  cases j <;> cases h <;> rfl

/-- A change of one port's settings reaches only the items that read what it changes. -/
theorem Settings.read_setPort {p : PortId} {f : PortSettings → PortSettings}
    (h : ∀ r, j.portField = some (p, r) → ∀ x, r (f x) = r x) : (st.setPort p f).read j = st.read j := by
  cases hj : j.portField with
  | some field =>
    obtain ⟨q, r⟩ := field
    rw [Settings.read_portField hj, Settings.read_portField hj]
    exact PerPort.read_modify (fun hq => h r (by rw [hj, hq]))
  | none => cases j <;> first | rfl | cases hj

theorem Settings.read_setSeg {g : SegId} {f : SegSettings → SegSettings}
    (hpop : j = .population g → ∀ x, (f x).population = x.population) (hmask : j = .mask g → ∀ x, (f x).mask = x.mask) :
    (st.setSeg g f).read j = st.read j := by
  cases j with
  | population k => exact PerSeg.read_modify (r := SegSettings.population) fun hk => hpop (by rw [hk])
  | mask k => exact PerSeg.read_modify (r := SegSettings.mask) fun hk => hmask (by rw [hk])
  | _ => rfl

theorem Settings.write_read_other (h : st.write i v = some new) (hj : j ≠ i) : new.read j = st.read j := by
  cases i with
  | cls p | rate p | notices p =>
    obtain ⟨x, -, rfl⟩ := Option.map_eq_some_iff.1 h
    refine Settings.read_setPort fun r hr s => ?_
    cases j <;> cases hr <;> first | rfl | exact absurd rfl hj
  | population g | mask g =>
    obtain ⟨x, -, rfl⟩ := Option.map_eq_some_iff.1 h
    exact Settings.read_setSeg (fun hc => by first | exact absurd hc hj | exact fun _ => rfl)
      (fun hc => by first | exact absurd hc hj | exact fun _ => rfl)
  | passInterval =>
    obtain ⟨x, -, rfl⟩ := Option.map_eq_some_iff.1 (Option.ite_none_right_eq_some.1 h).2
    cases j <;> first | rfl | exact absurd rfl hj
  | holdLimit | settleTimeout | icingInterval | guardBand | designMin =>
    obtain ⟨x, -, rfl⟩ := Option.map_eq_some_iff.1 h
    cases j <;> first | rfl | exact absurd rfl hj
  | nominal l | minFlow l | kp l | ki l | smin l | guardCap l | minService l | rotation l | fbTarget l | fbFloor l
  | fbCeiling l =>
    obtain ⟨x, -, rfl⟩ := Option.map_eq_some_iff.1 h
    refine Settings.read_setLoop fun r hr s => ?_
    cases j <;> cases hr <;> first | rfl | exact absurd rfl hj
  | freeze n =>
    obtain ⟨x, -, rfl⟩ := Option.map_eq_some_iff.1 h
    cases j with
    | freeze m =>
      have hne : n ≠ m := fun hc => hj (by rw [hc])
      simp [Settings.read, List.getD_eq_getElem?_getD, List.getElem?_set_ne hne]
    | _ => rfl
  | block b =>
    cases j with
    | block c =>
      cases b <;> cases c <;> obtain ⟨_, hnew⟩ := Option.ite_none_right_eq_some.1 h <;> cases hnew <;>
        first | rfl | exact absurd rfl hj
    | _ => cases b <;> obtain ⟨_, hnew⟩ := Option.ite_none_right_eq_some.1 h <;> cases hnew <;> rfl

theorem Item.ofCode_inTable {code q : Nat} (h : Item.ofCode code q = some i) (hlength : st.freezeTable.length = 13) :
    i.InTable st := by
  rintro n rfl
  rw [hlength]
  unfold Item.ofCode at h
  split at h <;> try simp only [forPort, forSeg, forAll, Option.map_eq_some_iff, Option.ite_none_right_eq_some, reduceCtorEq,
    and_false, exists_false, Option.some.injEq, Item.freeze.injEq] at h
  · omega
  · split at h <;> cases h

/-- Settles O9. -/
theorem writeSettingThenRead : Obligations.WriteSettingThenRead := by
  intro st new code q i j v hlength hcode h
  have hwrite := (Settings.accept_eq_some.1 h).1
  exact ⟨Settings.write_read_same hwrite (Item.ofCode_inTable hcode hlength), Settings.write_read_other hwrite⟩

end

end Sys2Proof.Machine
end

section
/-! The settings image (11.2, 12.7): the bytes of an item, the settings an image is made from, and the load. -/

namespace Sys2Proof.Machine

/-! ### Settings whose every item is in its range (11.1) -/

/-- The settings of a loop, each in its range. -/
structure LoopSettings.Ranged (s : LoopSettings) : Prop where
  nominal : s.nominal ≤ 600
  minFlow : s.minFlow ≤ 500
  fbTarget : -100 ≤ s.fbTarget ∧ s.fbTarget ≤ 450
  fbFloor : -100 ≤ s.fbFloor ∧ s.fbFloor ≤ 450
  fbCeiling : -100 ≤ s.fbCeiling ∧ s.fbCeiling ≤ 450
  kp : s.kp ≤ 255
  ki : s.ki ≤ 255
  smin : 50 ≤ s.smin ∧ s.smin ≤ 500
  guardCap : 100 ≤ s.guardCap ∧ s.guardCap ≤ 1000
  minService : 1 ≤ s.minService ∧ s.minService ≤ 10
  rotation : s.rotation ≤ 1000

def SegSettings.Ranged (s : SegSettings) : Prop := s.population &&& 0xE001#16 = 0#16 ∧ s.mask &&& 0xE001#16 = 0#16

structure Settings.Ranged (st : Settings) : Prop where
  seg : ∀ g, (st.seg.get g).Ranged
  passInterval : st.passInterval % 100 = 0 ∧ 500 ≤ st.passInterval ∧ st.passInterval ≤ 5000
  holdLimit : 1 ≤ st.holdLimit ∧ st.holdLimit ≤ 20
  loop : ∀ l, (st.loop.get l).Ranged
  length : st.freezeTable.length = 13
  table : ∀ x ∈ st.freezeTable, -600 ≤ x ∧ x ≤ 0
  guardBand : 20 ≤ st.guardBand ∧ st.guardBand ≤ 150
  designMin : -600 ≤ st.designMin ∧ st.designMin ≤ 0
  settleTimeout : 30 ≤ st.settleTimeout ∧ st.settleTimeout ≤ 600
  icingInterval : 5 ≤ st.icingInterval ∧ st.icingInterval ≤ 240
  blockLow : st.blockLow ∈ [1, 4, 16, 64]
  blockHigh : st.blockHigh ∈ [1, 4, 16, 64]

theorem Settings.default_ranged : Settings.default.Ranged where
  seg g := by cases g <;> exact ⟨by decide, by decide⟩
  passInterval := by decide
  holdLimit := by decide
  loop l := by cases l <;> exact ⟨by decide, by decide, by decide, by decide, by decide, by decide, by decide, by decide,
    by decide, by decide, by decide⟩
  length := by decide
  table := by decide
  guardBand := by decide
  designMin := by decide
  settleTimeout := by decide
  icingInterval := by decide
  blockLow := by decide
  blockHigh := by decide

theorem PerSeg.forall_modify {α : Type} {P : α → Prop} {t : PerSeg α} {g : SegId} {f : α → α} (h : ∀ k, P (t.get k))
    (hf : P (f (t.get g))) (k : SegId) : P ((t.modify g f).get k) := by
  rw [PerSeg.get_modify]
  split
  · next hk => rw [hk]; exact hf
  · exact h k

section
variable {st new : Settings} {i : Item} {v : Word}

theorem Settings.Ranged.setLoop (h : st.Ranged) {l : LoopId} {f : LoopSettings → LoopSettings}
    (hf : (f (st.loop.get l)).Ranged) : (st.setLoop l f).Ranged :=
  { h with loop := PerSeg.forall_modify h.loop hf }

theorem inRange_bounds {lo hi x : Nat} (h : inRange v lo hi = some x) : lo ≤ x ∧ x ≤ hi := (inRange_eq_some.1 h).2

theorem inSignedRange_bounds {lo hi x : Int} (h : inSignedRange v lo hi = some x) : lo ≤ x ∧ x ≤ hi :=
  (inSignedRange_eq_some.1 h).2

/-- An accepted item leaves every item in its range. -/
theorem Settings.Ranged.write (h : st.Ranged) (hw : st.write i v = some new) : new.Ranged := by
  cases i with
  | cls p | rate p | notices p =>
    obtain ⟨x, -, rfl⟩ := Option.map_eq_some_iff.1 hw
    exact { h with }
  | population g =>
    obtain ⟨x, hx, rfl⟩ := Option.map_eq_some_iff.1 hw
    obtain ⟨rfl, hset⟩ := addressSet_eq_some.1 hx
    exact { h with seg := PerSeg.forall_modify (P := SegSettings.Ranged) h.seg ⟨hset, (h.seg g).2⟩ }
  | mask g =>
    obtain ⟨x, hx, rfl⟩ := Option.map_eq_some_iff.1 hw
    obtain ⟨rfl, hset⟩ := addressSet_eq_some.1 hx
    exact { h with seg := PerSeg.forall_modify (P := SegSettings.Ranged) h.seg ⟨(h.seg g).1, hset⟩ }
  | passInterval =>
    obtain ⟨hround, hmap⟩ := Option.ite_none_right_eq_some.1 hw
    obtain ⟨x, hx, rfl⟩ := Option.map_eq_some_iff.1 hmap
    obtain ⟨rfl, hrange⟩ := inRange_eq_some.1 hx
    exact { h with passInterval := ⟨hround, hrange⟩ }
  | holdLimit =>
    obtain ⟨x, hx, rfl⟩ := Option.map_eq_some_iff.1 hw
    exact { h with holdLimit := inRange_bounds hx }
  | settleTimeout =>
    obtain ⟨x, hx, rfl⟩ := Option.map_eq_some_iff.1 hw
    exact { h with settleTimeout := inRange_bounds hx }
  | icingInterval =>
    obtain ⟨x, hx, rfl⟩ := Option.map_eq_some_iff.1 hw
    exact { h with icingInterval := inRange_bounds hx }
  | guardBand =>
    obtain ⟨x, hx, rfl⟩ := Option.map_eq_some_iff.1 hw
    exact { h with guardBand := inSignedRange_bounds hx }
  | designMin =>
    obtain ⟨x, hx, rfl⟩ := Option.map_eq_some_iff.1 hw
    exact { h with designMin := inSignedRange_bounds hx }
  | nominal l =>
    obtain ⟨x, hx, rfl⟩ := Option.map_eq_some_iff.1 hw
    exact h.setLoop { h.loop l with nominal := (inRange_bounds hx).2 }
  | minFlow l =>
    obtain ⟨x, hx, rfl⟩ := Option.map_eq_some_iff.1 hw
    exact h.setLoop { h.loop l with minFlow := (inRange_bounds hx).2 }
  | kp l =>
    obtain ⟨x, hx, rfl⟩ := Option.map_eq_some_iff.1 hw
    exact h.setLoop { h.loop l with kp := (inRange_bounds hx).2 }
  | ki l =>
    obtain ⟨x, hx, rfl⟩ := Option.map_eq_some_iff.1 hw
    exact h.setLoop { h.loop l with ki := (inRange_bounds hx).2 }
  | smin l =>
    obtain ⟨x, hx, rfl⟩ := Option.map_eq_some_iff.1 hw
    exact h.setLoop { h.loop l with smin := inRange_bounds hx }
  | guardCap l =>
    obtain ⟨x, hx, rfl⟩ := Option.map_eq_some_iff.1 hw
    exact h.setLoop { h.loop l with guardCap := inRange_bounds hx }
  | minService l =>
    obtain ⟨x, hx, rfl⟩ := Option.map_eq_some_iff.1 hw
    exact h.setLoop { h.loop l with minService := inRange_bounds hx }
  | rotation l =>
    obtain ⟨x, hx, rfl⟩ := Option.map_eq_some_iff.1 hw
    exact h.setLoop { h.loop l with rotation := (inRange_bounds hx).2 }
  | fbTarget l =>
    obtain ⟨x, hx, rfl⟩ := Option.map_eq_some_iff.1 hw
    exact h.setLoop { h.loop l with fbTarget := inSignedRange_bounds hx }
  | fbFloor l =>
    obtain ⟨x, hx, rfl⟩ := Option.map_eq_some_iff.1 hw
    exact h.setLoop { h.loop l with fbFloor := inSignedRange_bounds hx }
  | fbCeiling l =>
    obtain ⟨x, hx, rfl⟩ := Option.map_eq_some_iff.1 hw
    exact h.setLoop { h.loop l with fbCeiling := inSignedRange_bounds hx }
  | freeze n =>
    obtain ⟨x, hx, rfl⟩ := Option.map_eq_some_iff.1 hw
    refine { h with length := by rw [List.length_set]; exact h.length, table := fun y hy => ?_ }
    rcases List.mem_or_eq_of_mem_set hy with hy | rfl
    · exact h.table y hy
    · exact inSignedRange_bounds hx
  | block b =>
    cases b with
    | low =>
      obtain ⟨hmem, hnew⟩ := Option.ite_none_right_eq_some.1 hw
      cases hnew
      exact { h with blockLow := hmem }
    | high =>
      obtain ⟨hmem, hnew⟩ := Option.ite_none_right_eq_some.1 hw
      cases hnew
      exact { h with blockHigh := hmem }

/-! ### A setting in its range is accepted as it stands -/

theorem inRange_wordOf {lo hi x : Nat} (hlow : lo ≤ x) (hhigh : x ≤ hi) (hword : hi < 65536 := by omega) :
    inRange (wordOf x) lo hi = some x := by
  have hx : (wordOf x).toNat = x := by rw [wordOf, BitVec.toNat_ofNat, Nat.mod_eq_of_lt (by omega)]
  exact inRange_eq_some.2 ⟨hx.symm, hlow, hhigh⟩

theorem inSignedRange_signedWord {lo hi x : Int} (h : lo ≤ x ∧ x ≤ hi) (hword : -32768 ≤ lo ∧ hi < 32768 := by omega) :
    inSignedRange (signedWord x) lo hi = some x := by
  have hx : (signedWord x).toInt = x :=
    BitVec.toInt_ofInt_eq_self (by decide) (by simp; omega) (by simp; omega)
  exact inSignedRange_eq_some.2 ⟨hx.symm, h⟩

theorem PortClass.ofCode_code (x : PortClass) : PortClass.ofCode (wordOf x.code).toNat = some x := by cases x <;> rfl

theorem LineRate.ofCode_code (x : LineRate) : LineRate.ofCode (wordOf x.code).toNat = some x := by cases x <;> rfl

theorem Settings.setPort_self {p : PortId} {f : PortSettings → PortSettings} (h : f (st.port.get p) = st.port.get p) :
    st.setPort p f = st := by
  have hsame : st.port.modify p f = st.port := PerPort.ext_get fun q => by
    rw [PerPort.get_modify]
    split
    · next hq => rw [hq, h]
    · rfl
  exact congrArg (fun x => { st with port := x }) hsame

theorem Settings.setSeg_self {g : SegId} {f : SegSettings → SegSettings} (h : f (st.seg.get g) = st.seg.get g) :
    st.setSeg g f = st := congrArg (fun x => { st with seg := x }) (PerSeg.modify_eq_self h)

theorem Settings.setLoop_self {l : LoopId} {f : LoopSettings → LoopSettings} (h : f (st.loop.get l) = st.loop.get l) :
    st.setLoop l f = st := congrArg (fun x => { st with loop := x }) (PerSeg.modify_eq_self h)

theorem Option.map_some_self {α : Type} {o : Option α} {x : α} {f : α → Settings} (ho : o = some x) (hf : f x = st) :
    o.map f = some st := by rw [ho, Option.map_some, hf]

/-- Writing what is read changes nothing. -/
theorem Settings.Ranged.write_read (h : st.Ranged) (hi : i.InTable st) : st.write i (st.read i) = some st := by
  cases i with
  | cls p => exact Option.map_some_self (x := (st.port.get p).cls) (PortClass.ofCode_code _) (Settings.setPort_self rfl)
  | rate p => exact Option.map_some_self (x := (st.port.get p).rate) (LineRate.ofCode_code _) (Settings.setPort_self rfl)
  | notices p =>
    refine Option.map_some_self (x := (st.port.get p).notices.toNat) (inRange_wordOf (Nat.zero_le _) (Bool.toNat_le _)) ?_
    refine Settings.setPort_self ?_
    have hflag : ((st.port.get p).notices.toNat == 1) = (st.port.get p).notices := by cases (st.port.get p).notices <;> rfl
    rw [hflag]
  | population g => exact Option.map_some_self (addressSet_eq_some.2 ⟨rfl, (h.seg g).1⟩) (Settings.setSeg_self rfl)
  | mask g => exact Option.map_some_self (addressSet_eq_some.2 ⟨rfl, (h.seg g).2⟩) (Settings.setSeg_self rfl)
  | passInterval =>
    obtain ⟨hround, hlow, hhigh⟩ := h.passInterval
    have hx := inRange_wordOf hlow hhigh
    have hword : (wordOf st.passInterval).toNat = st.passInterval := (inRange_eq_some.1 hx).1.symm
    exact (if_pos (by rw [Settings.read, hword]; exact hround)).trans (Option.map_some_self hx rfl)
  | holdLimit => exact Option.map_some_self (inRange_wordOf h.holdLimit.1 h.holdLimit.2) rfl
  | settleTimeout => exact Option.map_some_self (inRange_wordOf h.settleTimeout.1 h.settleTimeout.2) rfl
  | icingInterval => exact Option.map_some_self (inRange_wordOf h.icingInterval.1 h.icingInterval.2) rfl
  | guardBand => exact Option.map_some_self (inSignedRange_signedWord h.guardBand) rfl
  | designMin => exact Option.map_some_self (inSignedRange_signedWord h.designMin) rfl
  | nominal l => exact Option.map_some_self (inRange_wordOf (Nat.zero_le _) (h.loop l).nominal) (Settings.setLoop_self rfl)
  | minFlow l => exact Option.map_some_self (inRange_wordOf (Nat.zero_le _) (h.loop l).minFlow) (Settings.setLoop_self rfl)
  | kp l => exact Option.map_some_self (inRange_wordOf (Nat.zero_le _) (h.loop l).kp) (Settings.setLoop_self rfl)
  | ki l => exact Option.map_some_self (inRange_wordOf (Nat.zero_le _) (h.loop l).ki) (Settings.setLoop_self rfl)
  | smin l => exact Option.map_some_self (inRange_wordOf (h.loop l).smin.1 (h.loop l).smin.2) (Settings.setLoop_self rfl)
  | guardCap l => exact Option.map_some_self (inRange_wordOf (h.loop l).guardCap.1 (h.loop l).guardCap.2) (Settings.setLoop_self rfl)
  | minService l => exact Option.map_some_self (inRange_wordOf (h.loop l).minService.1 (h.loop l).minService.2) (Settings.setLoop_self rfl)
  | rotation l => exact Option.map_some_self (inRange_wordOf (Nat.zero_le _) (h.loop l).rotation) (Settings.setLoop_self rfl)
  | fbTarget l => exact Option.map_some_self (inSignedRange_signedWord (h.loop l).fbTarget) (Settings.setLoop_self rfl)
  | fbFloor l => exact Option.map_some_self (inSignedRange_signedWord (h.loop l).fbFloor) (Settings.setLoop_self rfl)
  | fbCeiling l => exact Option.map_some_self (inSignedRange_signedWord (h.loop l).fbCeiling) (Settings.setLoop_self rfl)
  | freeze n =>
    have hn := hi n rfl
    have hread : st.freezeTable.getD n 0 = st.freezeTable[n] := List.getD_eq_getElem _ _ hn
    refine Option.map_some_self (x := st.freezeTable[n]) ?_ (by rw [List.set_getElem_self])
    rw [Settings.read, hread]
    exact inSignedRange_signedWord (h.table _ (List.getElem_mem hn))
  | block b =>
    have hword : ∀ x, x ∈ [1, 4, 16, 64] → (wordOf x).toNat = x := by decide
    cases b with
    | low =>
      have hlow := hword _ h.blockLow
      refine (if_pos (by rw [Settings.read]; rw [show st.blockSize .low = st.blockLow from rfl, hlow]; exact h.blockLow)).trans ?_
      exact congrArg (fun x => some { st with blockLow := x }) hlow
    | high =>
      have hhigh := hword _ h.blockHigh
      refine (if_pos (by rw [Settings.read]; rw [show st.blockSize .high = st.blockHigh from rfl, hhigh]; exact h.blockHigh)).trans ?_
      exact congrArg (fun x => some { st with blockHigh := x }) hhigh

end

end Sys2Proof.Machine
end

section
/-! The bytes of the settings image (12.7), its load, and the round trip. -/

namespace Sys2Proof.Machine

/-! ### The bytes of an item -/

theorem word16_split (v : Word) : word16 ((v >>> 8).setWidth 8) (v.setWidth 8) = v := by
  apply BitVec.eq_of_getLsbD_eq
  intro n hn
  unfold word16
  simp only [BitVec.getLsbD_or, BitVec.getLsbD_shiftLeft, BitVec.getLsbD_setWidth, BitVec.getLsbD_ushiftRight]
  by_cases h : n < 8
  · simp [h, hn]
  · have h8 : 8 + (n - 8) = n := by omega
    simp [h, hn, h8, show n - 8 < 8 by omega, show n - 8 < 16 by omega]

theorem be16_word16 (hi lo : Byte) : be16 (word16 hi lo) = [hi, lo] := by
  have hhigh : ((word16 hi lo) >>> 8).setWidth 8 = hi := by
    apply BitVec.eq_of_getLsbD_eq
    intro n hn
    unfold word16
    simp only [BitVec.getLsbD_or, BitVec.getLsbD_shiftLeft, BitVec.getLsbD_setWidth, BitVec.getLsbD_ushiftRight]
    simp [hn, show 8 + n < 16 by omega, show n < 16 by omega]
  have hlow : (word16 hi lo).setWidth 8 = lo := by
    apply BitVec.eq_of_getLsbD_eq
    intro n hn
    unfold word16
    simp only [BitVec.getLsbD_or, BitVec.getLsbD_shiftLeft, BitVec.getLsbD_setWidth]
    simp [hn, show n < 16 by omega]
  rw [be16, hhigh, hlow]

theorem setWidth_small {v : Word} (h : v.toNat < 256) : (v.setWidth 8 : Byte).setWidth 16 = v := by
  apply BitVec.eq_of_toNat_eq
  rw [BitVec.toNat_setWidth, BitVec.toNat_setWidth]
  omega

theorem setWidth_byte (b : Byte) : (b.setWidth 16 : Word).setWidth 8 = b := by
  apply BitVec.eq_of_toNat_eq
  rw [BitVec.toNat_setWidth, BitVec.toNat_setWidth]
  omega

/-- The bytes of an item's value. -/
def Item.bytes (i : Item) (v : Word) : List Byte := if i.oneByte then [v.setWidth 8] else be16 v

def Item.size (i : Item) : Nat := if i.oneByte = true then 1 else 2

section
variable {st new : Settings} {i : Item} {v : Word}

theorem Item.bytes_length (i : Item) (v : Word) : (i.bytes v).length = i.size := by
  unfold Item.bytes Item.size
  split <;> rfl

/-- The value of an accepted item of one byte fits its byte. -/
theorem Settings.write_small (h : st.write i v = some new) (hone : i.oneByte = true) : v.toNat < 256 := by
  cases i with
  | cls p =>
    obtain ⟨x, hx, -⟩ := Option.map_eq_some_iff.1 h
    rw [← PortClass.code_ofCode hx]
    cases x <;> decide
  | rate p =>
    obtain ⟨x, hx, -⟩ := Option.map_eq_some_iff.1 h
    rw [← LineRate.code_ofCode hx]
    cases x <;> decide
  | notices p | holdLimit | kp l | ki l | minService l | icingInterval =>
    obtain ⟨x, hx, -⟩ := Option.map_eq_some_iff.1 h
    obtain ⟨rfl, -, hle⟩ := inRange_eq_some.1 hx
    omega
  | block b =>
    have hsmall : ∀ n ∈ [1, 4, 16, 64], n < 256 := by decide
    cases b <;> exact hsmall _ (Option.ite_none_right_eq_some.1 h).1
  | _ => cases hone

/-- Reading an item takes its bytes and writes its value. -/
theorem readItems_cons {rest : List Item} {bytes : List Byte} {res : Settings} : readItems (i :: rest) bytes st = some res ↔
    ∃ v more new, bytes = i.bytes v ++ more ∧ st.write i v = some new ∧ readItems rest more new = some res := by
  constructor
  · intro h
    unfold readItems at h
    split at h
    · next hone =>
      split at h
      · next b more =>
        split at h
        · next new hw =>
          refine ⟨_, more, new, ?_, hw, h⟩
          rw [Item.bytes, if_pos hone, setWidth_byte]
          rfl
        · cases h
      · cases h
    · next htwo =>
      split at h
      · next hi lo more =>
        split at h
        · next new hw =>
          refine ⟨_, more, new, ?_, hw, h⟩
          rw [Item.bytes, if_neg htwo, be16_word16]
          rfl
        · cases h
      · cases h
  · rintro ⟨v, more, new, rfl, hw, h⟩
    unfold readItems Item.bytes
    split
    · next hone =>
      rw [List.singleton_append]
      dsimp only
      rw [setWidth_small (Settings.write_small hw hone), hw]
      exact h
    · rw [be16, List.cons_append, List.singleton_append]
      dsimp only
      rw [word16_split, hw]
      exact h

theorem readItems_nil {bytes : List Byte} {res : Settings} :
    readItems [] bytes st = some res ↔ bytes = [] ∧ res = st := by
  unfold readItems
  rw [Option.ite_none_right_eq_some, List.isEmpty_iff, Option.some.injEq, eq_comm (a := st)]

/-- A read image is the bytes of the settings it gives, and gives no more than its items. -/
theorem readItems_bytes {items : List Item} {bytes : List Byte} {res : Settings} (h : readItems items bytes st = some res)
    (hst : st.Ranged) (hnodup : items.Nodup) (htable : ∀ i ∈ items, i.InTable Settings.default) :
    bytes = items.flatMap res.itemBytes ∧ ∀ j ∉ items, res.read j = st.read j := by
  induction items generalizing bytes st with
  | nil =>
    obtain ⟨rfl, rfl⟩ := readItems_nil.1 h
    exact ⟨rfl, fun _ _ => rfl⟩
  | cons i rest ih =>
    obtain ⟨v, more, new, rfl, hw, hrest⟩ := readItems_cons.1 h
    obtain ⟨hi, hnodup⟩ := List.nodup_cons.1 hnodup
    obtain ⟨hbytes, hread⟩ := ih hrest (hst.write hw) hnodup fun j hj => htable j (List.mem_cons_of_mem _ hj)
    have hin : i.InTable st := fun n hn => by
      rw [hst.length]
      exact htable i (List.mem_cons_self ..) n hn
    have hv : res.read i = v := (hread i hi).trans (Settings.write_read_same hw hin)
    refine ⟨?_, fun j hj => ?_⟩
    · rw [List.flatMap_cons, ← hbytes, Settings.itemBytes, hv]
      rfl
    · rw [List.mem_cons, not_or] at hj
      exact (hread j hj.2).trans (Settings.write_read_other hw hj.1)

/-! ### The items of an image -/

theorem imageItems_nodup : imageItems.Nodup := by decide

def Item.isFreeze : Item → Bool
  | .freeze _ => true
  | _ => false

theorem imageItems_inTable : ∀ i ∈ imageItems, i.InTable Settings.default := by
  have hall : ∀ i ∈ imageItems, i ∈ (List.range 13).map Item.freeze ∨ ¬i.isFreeze := by decide
  rintro i hi n rfl
  rcases hall _ hi with hmem | hother
  · obtain ⟨m, hm, heq⟩ := List.mem_map.1 hmem
    cases heq
    exact List.mem_range.1 hm
  · exact absurd rfl hother

/-! ### An image read over any settings -/

/-- One item taken over from some settings. -/
def Settings.copy (src : Settings) (i : Item) (dst : Settings) : Settings :=
  match i with
  | .cls p => dst.setPort p fun s => { s with cls := (src.port.get p).cls }
  | .rate p => dst.setPort p fun s => { s with rate := (src.port.get p).rate }
  | .notices p => dst.setPort p fun s => { s with notices := (src.port.get p).notices }
  | .population g => dst.setSeg g fun s => { s with population := (src.seg.get g).population }
  | .mask g => dst.setSeg g fun s => { s with mask := (src.seg.get g).mask }
  | .passInterval => { dst with passInterval := src.passInterval }
  | .holdLimit => { dst with holdLimit := src.holdLimit }
  | .nominal l => dst.setLoop l fun s => { s with nominal := (src.loop.get l).nominal }
  | .minFlow l => dst.setLoop l fun s => { s with minFlow := (src.loop.get l).minFlow }
  | .fbTarget l => dst.setLoop l fun s => { s with fbTarget := (src.loop.get l).fbTarget }
  | .fbFloor l => dst.setLoop l fun s => { s with fbFloor := (src.loop.get l).fbFloor }
  | .fbCeiling l => dst.setLoop l fun s => { s with fbCeiling := (src.loop.get l).fbCeiling }
  | .kp l => dst.setLoop l fun s => { s with kp := (src.loop.get l).kp }
  | .ki l => dst.setLoop l fun s => { s with ki := (src.loop.get l).ki }
  | .smin l => dst.setLoop l fun s => { s with smin := (src.loop.get l).smin }
  | .guardCap l => dst.setLoop l fun s => { s with guardCap := (src.loop.get l).guardCap }
  | .minService l => dst.setLoop l fun s => { s with minService := (src.loop.get l).minService }
  | .rotation l => dst.setLoop l fun s => { s with rotation := (src.loop.get l).rotation }
  | .freeze n => { dst with freezeTable := dst.freezeTable.set n (src.freezeTable.getD n 0) }
  | .guardBand => { dst with guardBand := src.guardBand }
  | .designMin => { dst with designMin := src.designMin }
  | .settleTimeout => { dst with settleTimeout := src.settleTimeout }
  | .icingInterval => { dst with icingInterval := src.icingInterval }
  | .block .low => { dst with blockLow := src.blockLow }
  | .block .high => { dst with blockHigh := src.blockHigh }

/-- A decoded value is the field of the settings it was written into. -/
theorem map_field {α : Type} {o : Option α} {f : α → Settings} (h : o.map f = some new) {field : Settings → α}
    (hf : ∀ x, field (f x) = x) (k : α → Settings) : o.map k = some (k (field new)) := by
  obtain ⟨x, rfl, rfl⟩ := Option.map_eq_some_iff.1 h
  rw [hf, Option.map_some]

/-- A value some settings accept, others accept too, and take the field it left. -/
theorem Settings.write_copy (h : st.write i v = some new) (hi : i.InTable st) (dst : Settings) :
    dst.write i v = some (new.copy i dst) := by
  have hport : ∀ (p : PortId) (f : PortSettings → PortSettings), (st.setPort p f).port.get p = f (st.port.get p) :=
    fun p f => Settings.read_setPort_self p f
  have hseg : ∀ (g : SegId) (f : SegSettings → SegSettings), (st.setSeg g f).seg.get g = f (st.seg.get g) :=
    fun g f => Settings.read_setSeg_self g f
  have hloop : ∀ (l : LoopId) (f : LoopSettings → LoopSettings), (st.setLoop l f).loop.get l = f (st.loop.get l) :=
    fun l f => Settings.read_setLoop_self l f
  cases i with
  | cls p => exact map_field h (field := fun s => (s.port.get p).cls) (fun x => by rw [hport]) _
  | rate p => exact map_field h (field := fun s => (s.port.get p).rate) (fun x => by rw [hport]) _
  | notices p =>
    obtain ⟨x, hx, rfl⟩ := Option.map_eq_some_iff.1 h
    rw [Settings.copy, hport]
    exact congrArg (Option.map fun x => dst.setPort p fun s => { s with notices := x == 1 }) hx
  | population g => exact map_field h (field := fun s => (s.seg.get g).population) (fun x => by rw [hseg]) _
  | mask g => exact map_field h (field := fun s => (s.seg.get g).mask) (fun x => by rw [hseg]) _
  | passInterval =>
    obtain ⟨hround, hmap⟩ := Option.ite_none_right_eq_some.1 h
    exact (if_pos hround).trans (map_field hmap (field := Settings.passInterval) (fun _ => rfl) _)
  | holdLimit => exact map_field h (field := Settings.holdLimit) (fun _ => rfl) _
  | settleTimeout => exact map_field h (field := Settings.settleTimeout) (fun _ => rfl) _
  | icingInterval => exact map_field h (field := Settings.icingInterval) (fun _ => rfl) _
  | guardBand => exact map_field h (field := Settings.guardBand) (fun _ => rfl) _
  | designMin => exact map_field h (field := Settings.designMin) (fun _ => rfl) _
  | nominal l => exact map_field h (field := fun s => (s.loop.get l).nominal) (fun x => by rw [hloop]) _
  | minFlow l => exact map_field h (field := fun s => (s.loop.get l).minFlow) (fun x => by rw [hloop]) _
  | fbTarget l => exact map_field h (field := fun s => (s.loop.get l).fbTarget) (fun x => by rw [hloop]) _
  | fbFloor l => exact map_field h (field := fun s => (s.loop.get l).fbFloor) (fun x => by rw [hloop]) _
  | fbCeiling l => exact map_field h (field := fun s => (s.loop.get l).fbCeiling) (fun x => by rw [hloop]) _
  | kp l => exact map_field h (field := fun s => (s.loop.get l).kp) (fun x => by rw [hloop]) _
  | ki l => exact map_field h (field := fun s => (s.loop.get l).ki) (fun x => by rw [hloop]) _
  | smin l => exact map_field h (field := fun s => (s.loop.get l).smin) (fun x => by rw [hloop]) _
  | guardCap l => exact map_field h (field := fun s => (s.loop.get l).guardCap) (fun x => by rw [hloop]) _
  | minService l => exact map_field h (field := fun s => (s.loop.get l).minService) (fun x => by rw [hloop]) _
  | rotation l => exact map_field h (field := fun s => (s.loop.get l).rotation) (fun x => by rw [hloop]) _
  | freeze n =>
    refine map_field h (field := fun s => s.freezeTable.getD n 0) (fun x => ?_) _
    have hn : n < (st.freezeTable.set n x).length := by rw [List.length_set]; exact hi n rfl
    rw [List.getD_eq_getElem _ _ hn, List.getElem_set_self]
  | block b =>
    cases b with
    | low =>
      obtain ⟨hmem, hnew⟩ := Option.ite_none_right_eq_some.1 h
      cases hnew
      exact if_pos hmem
    | high =>
      obtain ⟨hmem, hnew⟩ := Option.ite_none_right_eq_some.1 h
      cases hnew
      exact if_pos hmem

/-- The bytes of accepted items, read over any settings, take the items over. -/
theorem readItems_copies {items : List Item} (h : ∀ i ∈ items, st.write i (st.read i) = some st ∧ i.InTable st) (dst : Settings) :
    readItems items (items.flatMap st.itemBytes) dst = some (items.foldl (fun d i => st.copy i d) dst) := by
  induction items generalizing dst with
  | nil => rfl
  | cons i rest ih =>
    obtain ⟨hw, hin⟩ := h i (List.mem_cons_self ..)
    exact readItems_cons.2 ⟨st.read i, _, st.copy i dst, rfl, Settings.write_copy hw hin dst,
      ih (fun j hj => h j (List.mem_cons_of_mem _ hj)) _⟩

theorem exists_table {table : List Int} (h : table.length = 13) :
    ∃ a b c d e f g h i j k l m, table = [a, b, c, d, e, f, g, h, i, j, k, l, m] := by
  match table, h with
  | [a, b, c, d, e, f, g, h, i, j, k, l, m], _ => exact ⟨a, b, c, d, e, f, g, h, i, j, k, l, m, rfl⟩

/-- The items of each part of the settings. -/
def portItems : List Item := perPortItem Item.cls ++ perPortItem Item.rate ++ perPortItem Item.notices

def segItems : List Item := perLoopItem Item.population ++ perLoopItem Item.mask ++ [Item.passInterval, Item.holdLimit]

def loopItems : List Item :=
  perLoopItem Item.nominal ++ perLoopItem Item.minFlow ++ perLoopItem Item.fbTarget ++ perLoopItem Item.fbFloor ++
    perLoopItem Item.fbCeiling ++ perLoopItem Item.kp ++ perLoopItem Item.ki ++ perLoopItem Item.smin ++
    perLoopItem Item.guardCap ++ perLoopItem Item.minService ++ perLoopItem Item.rotation

def tableItems : List Item := (List.range 13).map Item.freeze

def restItems : List Item :=
  [Item.guardBand, Item.designMin, Item.settleTimeout, Item.icingInterval, Item.block Bank.low, Item.block Bank.high]

theorem imageItems_eq : imageItems = portItems ++ segItems ++ loopItems ++ tableItems ++ restItems := by decide

theorem copy_portItems (st dst : Settings) : portItems.foldl (fun d i => st.copy i d) dst = { dst with port := st.port } := rfl

theorem copy_segItems (st dst : Settings) : segItems.foldl (fun d i => st.copy i d) dst =
    { dst with seg := st.seg, passInterval := st.passInterval, holdLimit := st.holdLimit } := rfl

theorem Settings.setLoop_both (dst : Settings) (f k : LoopSettings → LoopSettings) : (dst.setLoop .fs0 f).setLoop .fs1 k =
    { dst with loop := { s0 := f dst.loop.s0, s1 := k dst.loop.s1 } } := rfl

theorem copy_loopItems (st dst : Settings) : loopItems.foldl (fun d i => st.copy i d) dst = { dst with loop := st.loop } := by
  simp only [loopItems, perLoopItem, List.cons_append, List.nil_append, List.foldl_cons, List.foldl_nil, Settings.copy,
    Settings.setLoop_both]
  rfl

theorem copy_tableItems {st dst : Settings} (h : st.freezeTable.length = 13) (hdst : dst.freezeTable.length = 13) :
    tableItems.foldl (fun d i => st.copy i d) dst = { dst with freezeTable := st.freezeTable } := by
  obtain ⟨port, seg, pass, hold, loop, table, band, dmin, settle, icing, low, high⟩ := st
  obtain ⟨_, _, _, _, _, table', _, _, _, _, _, _⟩ := dst
  obtain ⟨a, b, c, d, e, f, g, h, i, j, k, l, m, rfl⟩ := exists_table h
  obtain ⟨_, _, _, _, _, _, _, _, _, _, _, _, _, rfl⟩ := exists_table hdst
  rfl

theorem copy_restItems (st dst : Settings) : restItems.foldl (fun d i => st.copy i d) dst = { dst with
    guardBand := st.guardBand, designMin := st.designMin, settleTimeout := st.settleTimeout, icingInterval := st.icingInterval
    blockLow := st.blockLow, blockHigh := st.blockHigh } := rfl

/-- All the items are all the settings. -/
theorem copyAll {st dst : Settings} (h : st.freezeTable.length = 13) (hdst : dst.freezeTable.length = 13) :
    imageItems.foldl (fun d i => st.copy i d) dst = st := by
  rw [imageItems_eq, List.foldl_append, List.foldl_append, List.foldl_append, List.foldl_append, copy_portItems, copy_segItems,
    copy_loopItems, copy_tableItems h (by exact hdst), copy_restItems]

end

end Sys2Proof.Machine
end

section
/-! The load of a settings image (R161). -/

namespace Sys2Proof.Machine

/-- The format word and the length of an image. -/
def imageHead : List Byte := be16 0x5C21#16 ++ be16 96#16

theorem checked_eq_some {b body : List Byte} : checked b = some body ↔ b = withCheck body := by
  refine ⟨fun h => ?_, fun h => h ▸ checked_withCheck body⟩
  obtain ⟨⟨_, hcheck⟩, hbody⟩ := Option.ite_none_right_eq_some.1 h
  cases hbody
  rw [withCheck, ← hcheck, List.take_append_drop]

section
variable {b : List Byte} {st : Settings}

/-- What an image that loads is. -/
theorem loadImage_eq_some : loadImage b = some st ↔ ∃ items, b = withCheck (imageHead ++ items) ∧
    readItems imageItems items Settings.default = some st ∧ st.allAgree = true := by
  unfold loadImage
  constructor
  · intro h
    split at h
    · next body hbody =>
      split at h
      · next hhead =>
        split at h
        · next new hread =>
          obtain ⟨hagree, hnew⟩ := Option.ite_none_right_eq_some.1 h
          cases hnew
          refine ⟨body.drop 4, ?_, hread, hagree⟩
          rw [checked_eq_some.1 hbody, ← List.take_append_drop 4 body, hhead]
          simp [imageHead]
          rfl
        · cases h
      · cases h
    · cases h
  · rintro ⟨items, rfl, hread, hagree⟩
    rw [checked_withCheck]
    dsimp only
    rw [if_pos (by rfl), show (imageHead ++ items).drop 4 = items from rfl, hread]
    exact if_pos hagree

theorem loadSettings_of_load (h : loadImage b = some st) : loadSettings (some b) = (st, false) := by
  rw [loadSettings, Option.bind_some, h]

theorem loadSettings_wrong (h : ∀ st, loadImage b ≠ some st) : loadSettings (some b) = (Settings.default, true) := by
  have hnone : loadImage b = none := Option.eq_none_iff_forall_ne_some.2 h
  rw [loadSettings, Option.bind_some, hnone]

/-- The settings an image gives are those it is the image of, each item in its range and accepted as it stands. -/
theorem loadImage_image (h : loadImage b = some st) : st.image = b ∧ st.freezeTable.length = 13 ∧
    ∀ i ∈ imageItems, st.accept i (st.read i) = some st := by
  obtain ⟨items, rfl, hread, hagree⟩ := loadImage_eq_some.1 h
  have hranged : st.Ranged := readItems_keeps Settings.Ranged.write Settings.default_ranged hread
  have hbytes := (readItems_bytes hread Settings.default_ranged imageItems_nodup imageItems_inTable).1
  refine ⟨by rw [hbytes]; rfl, hranged.length, fun i hi => Settings.accept_eq_some.2 ⟨?_, List.all_eq_true.1 hagree i hi⟩⟩
  refine hranged.write_read fun n hn => ?_
  rw [hranged.length]
  exact imageItems_inTable i hi n hn

theorem imageBytes_length (st : Settings) : (imageItems.flatMap st.itemBytes).length = 96 := by
  have hsize : ∀ i, (st.itemBytes i).length = i.size := fun i => i.bytes_length _
  rw [List.length_flatMap, List.map_congr_left fun i _ => hsize i]
  decide

/-- An image that loads has its size, its head and its check. -/
theorem loadImage_form (h : loadImage b = some st) :
    b.length = 102 ∧ b.take 4 = imageHead ∧ b.drop 100 = be16 (crc (b.take 100)) := by
  obtain ⟨himage, -, -⟩ := loadImage_image h
  have hlength : (imageHead ++ imageItems.flatMap st.itemBytes).length = 100 := by
    rw [List.length_append, imageBytes_length]
    rfl
  have hb : b = (imageHead ++ imageItems.flatMap st.itemBytes) ++ be16 (crc (imageHead ++ imageItems.flatMap st.itemBytes)) :=
    himage.symm
  refine ⟨by rw [hb, List.length_append, hlength, be16_length], ?_, ?_⟩
  · rw [hb, List.append_assoc]
    rfl
  · rw [hb, ← hlength, List.drop_left, List.take_left]

/-! ### An item out of its range -/

/-- Reading reaches each item with its bytes where the bytes of the items before it end, and accepts its value. -/
theorem readItems_at {before after : List Item} {i : Item} {bytes : List Byte} {dst res : Settings} (hdst : dst.Ranged)
    (h : readItems (before ++ i :: after) bytes dst = some res) :
    ∃ (pre : List Byte) (v : Word) (more : List Byte) (new mid : Settings), bytes = pre ++ (i.bytes v ++ more) ∧
      pre.length = (before.map Item.size).sum ∧ mid.Ranged ∧ mid.write i v = some new := by
  induction before generalizing bytes dst with
  | nil =>
    obtain ⟨v, more, new, rfl, hw, -⟩ := readItems_cons.1 h
    exact ⟨[], v, more, new, dst, rfl, rfl, hdst, hw⟩
  | cons j before ih =>
    obtain ⟨w, more, mid, rfl, hw, hrest⟩ := readItems_cons.1 h
    obtain ⟨pre, v, more', new, mid', rfl, hpre, hmid', hw'⟩ := ih (hdst.write hw) hrest
    refine ⟨j.bytes w ++ pre, v, more', new, mid', by rw [List.append_assoc], ?_, hmid', hw'⟩
    rw [List.length_append, hpre, Item.bytes_length, List.map_cons, List.sum_cons]

/-- The value the bytes at an item's place give. -/
theorem Item.value_at {i : Item} {pre more : List Byte} {v : Word} (hsmall : i.oneByte = true → v.toNat < 256) :
    (if i.oneByte = true then ((pre ++ (i.bytes v ++ more)).getD pre.length 0#8).setWidth 16
      else word16 ((pre ++ (i.bytes v ++ more)).getD pre.length 0#8) ((pre ++ (i.bytes v ++ more)).getD (pre.length + 1) 0#8)) = v := by
  unfold Item.bytes
  split
  · next hone =>
    simp [List.getD_eq_getElem?_getD, setWidth_small (hsmall hone)]
  · simp [List.getD_eq_getElem?_getD, be16, word16_split]

theorem loadImage_item {before after : List Item} {i : Item} (hitems : imageItems = before ++ i :: after)
    (hbad : Settings.default.write i
      (if i.oneByte = true then (b.getD (4 + (before.map Item.size).sum) 0#8).setWidth 16
        else word16 (b.getD (4 + (before.map Item.size).sum) 0#8) (b.getD (4 + (before.map Item.size).sum + 1) 0#8)) = none) :
    loadImage b ≠ some st := by
  intro h
  obtain ⟨items, rfl, hread, -⟩ := loadImage_eq_some.1 h
  rw [hitems] at hread
  obtain ⟨pre, v, more, new, mid, rfl, hpre, hmid, hw⟩ := readItems_at Settings.default_ranged hread
  have hin : i.InTable mid := fun n hn => by
    rw [hmid.length]
    exact imageItems_inTable i (hitems ▸ List.mem_append_right _ (List.mem_cons_self ..)) n hn
  have hplace : (imageHead ++ pre).length = 4 + (before.map Item.size).sum := by
    rw [List.length_append, hpre]
    rfl
  have hbytes : ∀ crc, imageHead ++ (pre ++ (i.bytes v ++ more)) ++ crc = (imageHead ++ pre) ++ (i.bytes v ++ (more ++ crc)) :=
    fun crc => by simp only [List.append_assoc]
  rw [withCheck, hbytes, ← hplace, Item.value_at (Settings.write_small hw), Settings.write_copy hw hin] at hbad
  cases hbad

end

/-- Settles O7. -/
theorem settingsImageRoundTrip : Obligations.SettingsImageRoundTrip := by
  intro st hlength haccept
  have hwrite : ∀ i ∈ imageItems, st.write i (st.read i) = some st ∧ i.InTable st := fun i hi => by
    refine ⟨(Settings.accept_eq_some.1 (haccept i hi)).1, fun n hn => ?_⟩
    rw [hlength]
    exact imageItems_inTable i hi n hn
  have hread : readItems imageItems (imageItems.flatMap st.itemBytes) Settings.default = some st :=
    (readItems_copies hwrite _).trans (congrArg some (copyAll hlength (by decide)))
  have hagree : st.allAgree = true :=
    List.all_eq_true.2 fun i hi => (Settings.accept_eq_some.1 (haccept i hi)).2
  exact loadSettings_of_load (loadImage_eq_some.2 ⟨_, rfl, hread, hagree⟩)

/-- Settles O8. -/
theorem wrongImageLoadsDefaults : Obligations.WrongImageLoadsDefaults := by
  refine ⟨rfl, fun b hb => loadSettings_wrong fun st h => ?_, fun b before after i hitems => ?_,
    fun b hb => loadSettings_wrong fun st h => ?_, fun image => ?_⟩
  · obtain ⟨hlength, hhead, hcheck⟩ := loadImage_form h
    exact hb.elim (fun hb => hb hlength) fun hb => hb.elim (fun hb => hb hhead) fun hb => hb hcheck
  · intro at_ v hbad
    exact loadSettings_wrong fun st => loadImage_item hitems hbad
  · obtain ⟨himage, hlength, haccept⟩ := loadImage_image h
    exact hb st hlength haccept himage
  · unfold loadSettings
    split
    · next st hst =>
      obtain ⟨b, -, hload⟩ := Option.bind_eq_some_iff.1 hst
      obtain ⟨-, -, -, hagree⟩ := loadImage_eq_some.1 hload
      exact ⟨hagree, nofun⟩
    · exact ⟨by decide, fun _ => rfl⟩

end Sys2Proof.Machine
end

section
/-! The beginning of discovery (R35, R162): its first call, or the first pass of a segment with no station; and the state a
start-up leaves. -/

namespace Sys2Proof.Machine

/-! ### A segment with no station -/

section
variable {s : State} {g : SegId}

/-- The first pass of a segment with no station begins and ends at once. -/
def Fsc.emptyPass (now interval : Nat) (f : Fsc) : Fsc := { f with
  activity := .free, passNumber := f.passNumber + 1#16, passTimer := some (now + interval), passRunning := false
  startDue := false, pollArmed := true, starvation := 0, scanPosition := 13, revived := [] }

/-- What discovery does to the controller: the first call, or the first pass where there is no station. -/
def Fsc.discovering (pop : List Nat) (now interval : Nat) (f : Fsc) : Fsc :=
  match pop with
  | [] => f.emptyPass now interval
  | a :: _ => { f with activity := .busy { job := .discovery a, retries := 2, ends := now + 4 } }

/-- The warm-up run of a loop with no station finds no supply temperature. -/
def Allocator.discovering (pop : List Nat) (al : Allocator) : Allocator :=
  match pop with
  | [] => { al with passes := 1, supplyValid := false }
  | _ :: _ => al

def lostSupply (pop : List Nat) (g : SegId) : BitVec 24 := if pop = [] then (FaultFlag.supplyLost g).mask else 0#24

theorem State.validPoint_empty (himage : s.image.get g = []) (a q : Nat) : s.validPoint g a q = none := by
  unfold State.validPoint State.point State.station?
  rw [himage]
  rfl

theorem State.closePass_empty (himage : s.image.get g = []) (hpasses : (s.alloc.get g).passes = 0) :
    s.closePass g = { s with
      fsc := s.fsc.modify g fun f => { f with passRunning := false }
      alloc := s.alloc.modify g fun al => { al with passes := 1, supplyValid := false }
      faults := s.faults ||| (FaultFlag.supplyLost g).mask
      ports := s.noticed fun _ => if s.faults ||| (FaultFlag.supplyLost g).mask = s.faults then 0#8 else 0x20#8 } := by
  have hvalid := State.validPoint_empty himage 12 0
  have hno : ∀ r, ((s.modFsc g fun f => { f with passRunning := false }).allocationRun g).deliverable g r = false := by
    intro r
    rw [← Bool.not_eq_true, State.deliverable_iff, State.answers_congr (t := s) (by simp)]
    rintro ⟨-, -, hanswers⟩
    obtain ⟨x, hx, -⟩ := State.answers_station hanswers
    rw [himage] at hx
    cases hx
  have hdelivers : ∀ t : State, (∀ r, t.deliverable g r = false) → t.deliverWaiting g = t := by
    intro t ht
    have hnone : t.overrides.filter (t.deliverable g) = [] := List.filter_eq_nil_iff.2 fun r _ => by rw [ht r]; exact Bool.false_ne_true
    have hsame : (fun r : OverrideRecord => if t.deliverable g r then { r with delivery := .posted } else r) = id :=
      funext fun r => if_neg (by rw [ht r]; exact Bool.false_ne_true)
    have hbuffer : t.buffer.modify g (postAll []) = t.buffer := PerSeg.modify_eq_self rfl
    rw [State.deliverWaiting_eq, hnone, hsame, List.map_nil, hbuffer, List.map_id]
  have halloc : s.alloc.modify g (Allocator.demanded (s.settings.loop.get g) (s.merge.get g).target none) =
      s.alloc.modify g fun al => { al with passes := 1, supplyValid := false } :=
    PerSeg.modify_congr (by rw [Allocator.demanded, hpasses] <;> rfl)
  rw [State.closePass, hdelivers _ hno, State.allocationRun_stages, if_pos hpasses, State.demanded, State.demandFaults, hvalid,
    if_pos rfl, halloc]

theorem State.openPass_fsc_other {k : SegId} (hk : k ≠ g) : (s.openPass g).fsc.get k = s.fsc.get k :=
  PerSeg.get_modify_other _ _ hk

theorem State.startPass_empty (hpop : s.settings.population g = []) (himage : s.image.get g = [])
    (hpasses : (s.alloc.get g).passes = 0) : (s.setActivity g .free).startPass g = { s with
      fsc := s.fsc.modify g (Fsc.emptyPass s.now s.settings.passInterval)
      alloc := s.alloc.modify g fun al => { al with passes := 1, supplyValid := false }
      faults := s.faults ||| (FaultFlag.supplyLost g).mask
      ports := s.noticed fun _ => if s.faults ||| (FaultFlag.supplyLost g).mask = s.faults then 0#8 else 0x20#8 } := by
  have hopened : ((s.setActivity g .free).openPass g).image = s.image := by
    change s.image.modify g _ = s.image
    exact PerSeg.modify_eq_self (by rw [himage]; rfl)
  have huncalled := State.startPass_uncalled (s := s.setActivity g .free) (g := g) (by rw [show (s.setActivity g .free).settings.population g = [] from hpop]; nofun)
    (.inr hpop)
  rw [huncalled, State.closePass_empty (by rw [hopened]; exact himage) (by simpa using hpasses)]
  have hfsc : ((s.setActivity g .free).openPass g).fsc.modify g (fun f => { f with passRunning := false }) =
      s.fsc.modify g (Fsc.emptyPass s.now s.settings.passInterval) := by
    refine PerSeg.ext_get fun k => ?_
    by_cases hk : k = g
    · subst hk
      rw [PerSeg.get_modify_self, PerSeg.get_modify_self, State.openPass_fsc, State.setActivity, State.modFsc_fsc,
        PerSeg.get_modify_self, show (s.modFsc k _).settings.population k = [] from hpop]
      rfl
    · rw [PerSeg.get_modify_other _ _ hk, PerSeg.get_modify_other _ _ hk, State.openPass_fsc_other hk, State.setActivity,
        State.modFsc_fsc, PerSeg.get_modify_other _ _ hk]
  rw [hfsc, hopened]
  rfl

/-- Discovery begins with the lowest configured address, or, with none, ends with the first pass. -/
theorem State.beginDiscovery_eq (hempty : s.settings.population g = [] → s.image.get g = [] ∧ (s.alloc.get g).passes = 0) :
    s.beginDiscovery g = { s with
      fsc := s.fsc.modify g (Fsc.discovering (s.settings.population g) s.now s.settings.passInterval)
      alloc := s.alloc.modify g (Allocator.discovering (s.settings.population g))
      faults := s.faults ||| lostSupply (s.settings.population g) g
      ports := s.noticed fun _ => if s.faults ||| lostSupply (s.settings.population g) g = s.faults then 0#8 else 0x20#8 } := by
  cases hpop : s.settings.population g with
  | nil =>
    obtain ⟨himage, hpasses⟩ := hempty hpop
    have hdiscover : s.beginDiscovery g = (s.setActivity g .free).startPass g := by
      rw [State.beginDiscovery, State.discoverFrom, hpop]
      rfl
    rw [hdiscover, State.startPass_empty hpop himage hpasses, lostSupply, if_pos rfl]
    rfl
  | cons a rest =>
    have ha : 0 < a := (addresses_bounds (set := (s.settings.seg.get g).population) (by
      rw [show addresses _ = _ from hpop]; exact List.mem_cons_self ..)).1
    have hdiscover : s.beginDiscovery g = s.identify g a := by
      rw [State.beginDiscovery, State.discoverFrom, hpop, List.find?_cons_of_pos (p := fun b => decide (0 < b)) (decide_eq_true ha)]
    have halloc : s.alloc.modify g (Allocator.discovering (a :: rest)) = s.alloc := PerSeg.modify_eq_self rfl
    have hfault : s.faults ||| lostSupply (a :: rest) g = s.faults := by simp [lostSupply]
    rw [hdiscover, halloc, hfault]
    simp only [if_true, State.noticed_none]
    rfl

/-! ### What a segment chooses where no pass runs and no write waits -/

theorem State.start_quiet {c : Choice} (hwrite : ∀ a, c ≠ .write a) : s.start g c = { s with fsc := (s.start g c).fsc } := by
  cases c with
  | write a => exact absurd rfl (hwrite a)
  | scan a =>
    unfold State.start
    dsimp only
    split <;> rfl
  | _ => rfl

theorem State.calling_get (s : State) (g : SegId) (job : Job) (retries time : Nat) (more : Fsc → Fsc) :
    (s.calling g job retries time more).fsc.get g =
      { more (s.fsc.get g) with activity := .busy { job := job, retries := retries, ends := s.now + time } } :=
  PerSeg.get_modify_self ..

/-- A call that starts leaves the pass number and the pass timer. -/
theorem State.start_pass (c : Choice) : ((s.start g c).fsc.get g).passNumber = (s.fsc.get g).passNumber ∧
    ((s.start g c).fsc.get g).passTimer = (s.fsc.get g).passTimer := by
  cases c with
  | continuation j => rw [State.start_continuation, State.calling_get]; exact ⟨rfl, rfl⟩
  | poll => rw [State.start_poll, State.calling_get]; exact ⟨rfl, rfl⟩
  | event a => rw [State.start_event, State.reading, State.calling_get]; exact ⟨rfl, rfl⟩
  | readThrough e => rw [State.start_readThrough, State.reading, State.calling_get]; exact ⟨rfl, rfl⟩
  | scan a =>
    rw [State.start_scan, State.scanning]
    split
    · rw [State.calling_get]; exact ⟨rfl, rfl⟩
    · rw [State.reading, State.calling_get]; exact ⟨rfl, rfl⟩
  | write a =>
    have hfsc : (((s.starve g).flyHead g).startJob g (.write a) (retriesFor (s.link g a))
        Config.responseWindow).fsc = (s.calling g (.write a) (retriesFor (s.link g a)) Config.responseWindow Fsc.counted).fsc := by
      rw [← s.startJob_calling]
      rfl
    rw [State.start, hfsc, State.calling_get]
    exact ⟨rfl, rfl⟩
  | endOfPass => exact ⟨rfl, rfl⟩
  | nothing => exact ⟨rfl, rfl⟩

/-- With no pass running and no write waiting, choosing changes the segment's own record alone, and not its pass. -/
theorem State.arbitrate_quiet (hrun : (s.fsc.get g).passRunning = false) (hb : s.buffer.get g = []) :
    s.arbitrate g = { s with fsc := (s.arbitrate g).fsc } ∧
      ((s.arbitrate g).fsc.get g).passNumber = (s.fsc.get g).passNumber ∧
      ((s.arbitrate g).fsc.get g).passTimer = (s.fsc.get g).passTimer := by
  by_cases hacts : s.phase = .running ∧ (s.fsc.get g).activity = .free
  · obtain ⟨hp, hf⟩ := hacts
    have hend : s.choose g ≠ .endOfPass := fun h => by
      rw [(State.choose_endOfPass h).1] at hrun
      cases hrun
    rw [State.arbitrate_starts hp hf rfl hend]
    have hwrite : ∀ a, s.choose g ≠ .write a := fun a h => by
      obtain ⟨e, es, hes, -⟩ := State.choose_write h
      rw [hb] at hes
      cases hes
    exact ⟨State.start_quiet hwrite, State.start_pass _⟩
  · rw [State.arbitrate_held fun hp hf => hacts ⟨hp, hf⟩]
    exact ⟨rfl, rfl, rfl⟩

theorem State.arbitrate_other {k : SegId} (hk : k ≠ g) : (s.arbitrate g).fsc.get k = s.fsc.get k :=
  ((Event.arbitrate (gs := [g]) (List.mem_singleton.2 rfl)).segments k (by simpa using hk)).fsc

end

end Sys2Proof.Machine
end

section
/-! The state a start-up leaves (R162). -/

namespace Sys2Proof.Machine

section
variable (s : State) (st : Settings) (defaulted : Bool)

/-- Both segments have begun their discovery. -/
def State.discovered : State := ((s.runWith st defaulted).beginDiscovery .fs0).beginDiscovery .fs1

/-- The flags a start-up sets before a pass has run. -/
def loadFaults (defaulted : Bool) : BitVec 24 := if defaulted = true then FaultFlag.configDefaulted.mask else 0#24

/-- The notice of a supply that is lost at once. -/
def lostNotice : Byte := if st.population .fs0 = [] ∨ st.population .fs1 = [] then 0x20#8 else 0#8

variable {s st defaulted}

theorem lostNotice_eq : (if loadFaults defaulted ||| lostSupply (st.population .fs0) .fs0 = loadFaults defaulted then 0#8 else 0x20#8) |||
    (if loadFaults defaulted ||| lostSupply (st.population .fs0) .fs0 ||| lostSupply (st.population .fs1) .fs1 =
      loadFaults defaulted ||| lostSupply (st.population .fs0) .fs0 then 0#8 else 0x20#8) = lostNotice st := by
  unfold lostNotice lostSupply
  cases defaulted <;> by_cases h0 : st.population .fs0 = [] <;> by_cases h1 : st.population .fs1 = [] <;>
    simp only [h0, h1, if_true, if_false, or_true, or_false] <;> decide

theorem State.runWith_station (g : SegId) (h : st.population g = []) :
    (s.runWith st defaulted).image.get g = [] ∧ ((s.runWith st defaulted).alloc.get g).passes = 0 := by
  rw [State.runWith_frame]
  dsimp only
  rw [State.fresh_image, h, PerSeg.get_map, State.fresh_alloc]
  exact ⟨rfl, rfl⟩

theorem State.beginDiscovery_of {u : State} {g : SegId} {pop : List Nat} {now interval : Nat} (hpop : u.settings.population g = pop)
    (hnow : u.now = now) (hinterval : u.settings.passInterval = interval)
    (hempty : pop = [] → u.image.get g = [] ∧ (u.alloc.get g).passes = 0) : u.beginDiscovery g = { u with
      fsc := u.fsc.modify g (Fsc.discovering pop now interval)
      alloc := u.alloc.modify g (Allocator.discovering pop)
      faults := u.faults ||| lostSupply pop g
      ports := u.noticed fun _ => if u.faults ||| lostSupply pop g = u.faults then 0#8 else 0x20#8 } := by
  subst hpop hnow hinterval
  exact State.beginDiscovery_eq hempty

/-- The part with both segments' discovery begun, block by block. -/
theorem State.discovered_eq : s.discovered st defaulted = { s.runWith st defaulted with
    fsc := (s.runWith st defaulted).fsc.map fun g => Fsc.discovering (st.population g) s.now st.passInterval
    alloc := (s.runWith st defaulted).alloc.map fun g => Allocator.discovering (st.population g)
    faults := loadFaults defaulted ||| lostSupply (st.population .fs0) .fs0 ||| lostSupply (st.population .fs1) .fs1
    ports := (s.runWith st defaulted).noticed fun _ => lostNotice st } := by
  have hsettings : (s.runWith st defaulted).settings = st := by rw [State.runWith_frame]; rfl
  have hfaults : (s.runWith st defaulted).faults = loadFaults defaulted := by rw [State.runWith_frame]; rfl
  have hnow : (s.runWith st defaulted).now = s.now := by rw [State.runWith_frame]; rfl
  have hpop : ∀ g, (s.runWith st defaulted).settings.population g = st.population g := fun g => by rw [hsettings]
  have hinterval : (s.runWith st defaulted).settings.passInterval = st.passInterval := by rw [hsettings]
  have h0 := State.beginDiscovery_of (u := s.runWith st defaulted) (hpop .fs0) hnow hinterval (State.runWith_station .fs0)
  rw [hfaults] at h0
  have h1 := State.beginDiscovery_of (u := (s.runWith st defaulted).beginDiscovery .fs0) (g := .fs1)
    (pop := st.population .fs1) (now := s.now) (interval := st.passInterval) (by rw [h0]; exact hpop .fs1)
    (by rw [h0]; exact hnow) (by rw [h0]; exact hinterval) (by rw [h0]; exact State.runWith_station .fs1)
  rw [State.discovered, h1, h0]
  have hnotices := State.noticed_noticed (s.runWith st defaulted)
    (fun _ => if loadFaults defaulted ||| lostSupply (st.population .fs0) .fs0 = loadFaults defaulted then 0#8 else 0x20#8)
    fun _ => if loadFaults defaulted ||| lostSupply (st.population .fs0) .fs0 ||| lostSupply (st.population .fs1) .fs1 =
      loadFaults defaulted ||| lostSupply (st.population .fs0) .fs0 then 0#8 else 0x20#8
  simp only [lostNotice_eq] at hnotices
  rw [← hnotices]
  rfl

theorem State.discovered_fsc (g : SegId) : (s.discovered st defaulted).fsc.get g =
    Fsc.discovering (st.population g) s.now st.passInterval (Fsc.fresh (s.lines.get g)) := by
  rw [State.discovered_eq, PerSeg.get_map, State.runWith_frame]
  dsimp only
  rw [State.fresh_fsc]

theorem State.discovered_alloc (g : SegId) : (s.discovered st defaulted).alloc.get g =
    Allocator.discovering (st.population g)
      { Allocator.fresh st g with rotation := rotationEnd s.now (st.loop.get g).rotation } := by
  rw [State.discovered_eq, PerSeg.get_map, State.runWith_frame]
  dsimp only
  rw [PerSeg.get_map, State.fresh_alloc]

theorem State.discovered_port (p : PortId) : (s.discovered st defaulted).ports.get p =
    if (st.port.get p).notices then { Port.fresh (st.port.get p) with notices := lostNotice st } else Port.fresh (st.port.get p) := by
  have hsettings : (s.runWith st defaulted).settings = st := by rw [State.runWith_frame]; rfl
  have hport : (s.runWith st defaulted).ports.get p = Port.fresh (st.port.get p) := by
    rw [State.runWith_frame]
    exact State.fresh_port (now := s.now) (pending := s.pending) (line := s.lines) p
  rw [State.discovered_eq]
  dsimp only
  rw [State.noticed_get, hsettings, hport]
  simp [Port.fresh]

theorem Fsc.discovering_stopped (pop : List Nat) (now interval : Nat) (line : Bool) :
    ((Fsc.fresh line).discovering pop now interval).passRunning = false := by
  unfold Fsc.discovering
  split <;> rfl

/-- The state a start-up leaves is the discovered one, with what the segments choose and the transmitters start. -/
theorem State.startUp_eq : ∃ fsc : PerSeg Fsc, s.startUp st defaulted = { s.discovered st defaulted with
      fsc := fsc, ports := (s.discovered st defaulted).ports.map fun _ port => port.kick s.now } ∧
    ∀ g, (fsc.get g).passNumber = ((s.discovered st defaulted).fsc.get g).passNumber ∧
      (fsc.get g).passTimer = ((s.discovered st defaulted).fsc.get g).passTimer ∧
      (((s.discovered st defaulted).fsc.get g).activity ≠ .free → fsc.get g = (s.discovered st defaulted).fsc.get g) := by
  have hbuffer : ∀ g, (s.discovered st defaulted).buffer.get g = [] := fun g => by
    rw [State.discovered_eq, State.runWith_frame]
    exact (State.fresh_outputs (st := st) (now := s.now) (pending := s.pending) (line := s.lines) g).1
  have hrun : ∀ g, ((s.discovered st defaulted).fsc.get g).passRunning = false := fun g => by
    rw [State.discovered_fsc, Fsc.discovering_stopped]
  obtain ⟨h0, hnumber0, htimer0⟩ := State.arbitrate_quiet (hrun .fs0) (hbuffer .fs0)
  have hother : ((s.discovered st defaulted).arbitrate .fs0).fsc.get .fs1 = (s.discovered st defaulted).fsc.get .fs1 :=
    State.arbitrate_other (by decide)
  obtain ⟨h1, hnumber1, htimer1⟩ := State.arbitrate_quiet (s := (s.discovered st defaulted).arbitrate .fs0) (g := .fs1)
    (by rw [hother]; exact hrun .fs1) (by rw [h0]; exact hbuffer .fs1)
  have hback : (((s.discovered st defaulted).arbitrate .fs0).arbitrate .fs1).fsc.get .fs0 =
      ((s.discovered st defaulted).arbitrate .fs0).fsc.get .fs0 := State.arbitrate_other (by decide)
  refine ⟨(((s.discovered st defaulted).arbitrate .fs0).arbitrate .fs1).fsc, ?_, fun g => ?_⟩
  · have hboth : ((s.discovered st defaulted).arbitrate .fs0).arbitrate .fs1 =
        { s.discovered st defaulted with fsc := (((s.discovered st defaulted).arbitrate .fs0).arbitrate .fs1).fsc } :=
      h1.trans (congrArg (fun u => { u with fsc := (((s.discovered st defaulted).arbitrate .fs0).arbitrate .fs1).fsc }) h0)
    have hfields : (s.discovered st defaulted).phase = .running ∧ (s.discovered st defaulted).now = s.now := by
      rw [State.discovered_eq, State.runWith_frame]
      exact ⟨rfl, rfl⟩
    change (((s.discovered st defaulted).arbitrate .fs0).arbitrate .fs1).kickPorts = _
    rw [hboth]
    refine (State.kickPorts_running (by exact hfields.1)).trans ?_
    rw [← hfields.2]
  · cases g with
    | fs0 =>
      rw [hback]
      refine ⟨hnumber0, htimer0, fun hbusy => ?_⟩
      rw [State.arbitrate_held fun _ => hbusy]
    | fs1 =>
      rw [hnumber1, htimer1, hother]
      refine ⟨rfl, rfl, fun hbusy => ?_⟩
      rw [State.arbitrate_held fun _ => by rw [hother]; exact hbusy, hother]

theorem State.startUp_port (p : PortId) : ((s.discovered st defaulted).ports.map fun _ port => port.kick s.now).get p =
    if (st.population .fs0 = [] ∨ st.population .fs1 = []) ∧ (st.port.get p).notices = true then
      { Port.fresh (st.port.get p) with
        sending := some { sequence := 0#8, kind := 0x70#8, body := [0x20#8], effect := .none }
        spacing := some (s.now + 200) }
    else Port.fresh (st.port.get p) := by
  rw [PerPort.get_map, State.discovered_port]
  by_cases hnotices : (st.port.get p).notices = true
  · by_cases hlost : st.population .fs0 = [] ∨ st.population .fs1 = []
    · rw [if_pos hnotices, if_pos ⟨hlost, hnotices⟩, lostNotice, if_pos hlost, Port.kick_notice s.now rfl rfl rfl rfl (show (0x20#8 : Byte) ≠ 0#8 by decide) rfl]
      rfl
    · rw [if_pos hnotices, if_neg fun h => hlost h.1, lostNotice, if_neg hlost]
      rfl
  · rw [if_neg hnotices, if_neg fun h => hnotices h.2]
    rfl

theorem loadFaults_configDefaulted :
    (loadFaults defaulted ||| lostSupply (st.population .fs0) .fs0 ||| lostSupply (st.population .fs1) .fs1).getLsbD
      FaultFlag.configDefaulted.bit = defaulted := by
  unfold lostSupply
  cases defaulted <;> by_cases h0 : st.population .fs0 = [] <;> by_cases h1 : st.population .fs1 = [] <;>
    simp only [h0, h1, if_true, if_false] <;> decide

theorem bypassCap_guard (units : List UnitFrost) (h : ∀ u ∈ units, u.frost = .guard) :
    bypassCap units = if units = [] then 1000 else 500 := by
  unfold bypassCap
  have hprotect : units.any (fun u => u.frost == .protect) = false := by
    rw [List.any_eq_false]
    intro u hu
    rw [h u hu]
    decide
  rw [hprotect, if_neg Bool.false_ne_true]
  cases units with
  | nil => rfl
  | cons u us =>
    have hguard : (u :: us).any (fun u => u.frost == .guard) = true :=
      List.any_eq_true.2 ⟨u, List.mem_cons_self .., by rw [h u (List.mem_cons_self ..)]; decide⟩
    rw [hguard, if_pos rfl, if_neg nofun]

theorem Fpb.fresh_bmax (st : Settings) (l : LoopId) :
    (Fpb.fresh st l).bmax = if unitsOf (st.population l) = [] then 1000 else 500 := by
  refine (bypassCap_guard (Fpb.fresh st l).units fun u hu => ?_).trans (by simp only [Fpb.fresh, List.map_eq_nil_iff])
  obtain ⟨a, -, rfl⟩ := List.mem_map.1 hu
  rfl

/-- Discovery leaves all of a fresh allocator but the warm-up count. -/
theorem Allocator.discovering_eq (pop : List Nat) (al : Allocator) (hpasses : al.passes = 0) (hvalid : al.supplyValid = false) :
    al.discovering pop = { al with passes := if pop = [] then 1 else 0 } := by
  obtain ⟨demand, ePrev, passes, order, rotation, commands, lastRun, lastSupply, supplyValid⟩ := al
  dsimp only at hpasses hvalid
  subst hpasses hvalid
  cases pop <;> rfl

theorem State.discovered_segment (g : SegId) :
    (s.discovered st defaulted).image.get g = (st.population g).map Station.fresh ∧
    (s.discovered st defaulted).buffer.get g = [] ∧ (s.discovered st defaulted).settle.get g = [] ∧
    (s.discovered st defaulted).merge.get g = Merge.fallback (st.loop.get g) ∧
    (s.discovered st defaulted).fpb.get g = Fpb.fresh st g ∧
    ∀ p, ((s.discovered st defaulted).fences.get p).get g = .none ∧ ((s.discovered st defaulted).slots.get p).get g = none := by
  rw [State.discovered_eq, State.runWith_frame]
  obtain ⟨hbuffer, hsettle, hports⟩ := State.fresh_outputs (st := st) (now := s.now) (pending := s.pending) (line := s.lines) g
  exact ⟨State.fresh_image (now := s.now) (pending := s.pending) (line := s.lines) g, hbuffer, hsettle,
    State.fresh_merge (now := s.now) (pending := s.pending) (line := s.lines) g,
    State.fresh_fpb (now := s.now) (pending := s.pending) (line := s.lines) g, hports⟩

/-- Settles O6: the fresh state, its discovery, and the notices that an empty segment's first pass brings. -/
theorem startUpState : Obligations.StartUpState := by
  unfold Obligations.StartUpState
  rintro s image st hload rfl
  obtain ⟨fsc, hstart, hpass⟩ := State.startUp_eq (s := s) (st := (loadSettings image).1) (defaulted := (loadSettings image).2)
  have hexec : exec (.settingsLoadEnd image) s = .next (s.startUp (loadSettings image).1 (loadSettings image).2) := by
    change execSettingsLoadEnd image s = _
    rw [execSettingsLoadEnd, hload]
  generalize (loadSettings image).1 = st at *
  generalize (loadSettings image).2 = defaulted at *
  refine ⟨s.startUp st defaulted, hexec, ?_⟩
  rw [hstart]
  have hframe := State.discovered_eq (s := s) (st := st) (defaulted := defaulted)
  rw [State.runWith_frame] at hframe
  refine ⟨by rw [hframe], by rw [hframe]; rfl, by rw [hframe]; rfl, by rw [hframe]; rfl, ?_, by rw [hframe]; rfl, ?_,
    by rw [hframe]; rfl, by rw [hframe]; rfl, by rw [hframe]; rfl, fun p => ?_, fun p l => ?_, fun g => ?_⟩
  · rw [hframe]
    exact loadFaults_configDefaulted
  · rw [hframe]
    exact BitVec.or_assoc ..
  · dsimp only
    rw [State.startUp_port]
    split
    · exact ⟨rfl, rfl, rfl, rfl, rfl, rfl, rfl, rfl, rfl⟩
    · exact ⟨rfl, rfl, rfl, rfl, rfl, rfl, rfl, rfl, rfl⟩
  · obtain ⟨-, -, -, -, -, hports⟩ := State.discovered_segment (s := s) (st := st) (defaulted := defaulted) l
    exact ⟨(hports p).2, (hports p).1⟩
  · obtain ⟨himage, hbuffer, hsettle, hmerge, hfpb, -⟩ :=
      State.discovered_segment (s := s) (st := st) (defaulted := defaulted) g
    obtain ⟨hnumber, htimer, hkept⟩ := hpass g
    have hfsc := State.discovered_fsc (s := s) (st := st) (defaulted := defaulted) g
    have halloc := State.discovered_alloc (s := s) (st := st) (defaulted := defaulted) g
    rw [Allocator.discovering_eq _ _ rfl rfl] at halloc
    dsimp only
    rw [himage, hbuffer, hsettle, hmerge, hfpb, halloc, hnumber, htimer, hfsc]
    refine ⟨rfl, rfl, rfl, rfl, rfl, rfl, rfl, rfl, rfl, Fpb.fresh_bmax st g, rfl, rfl, rfl, rfl, rfl, ?_, ?_, rfl, rfl, rfl,
      rfl, fun hpop => ?_, fun a rest hpop => ?_⟩
    · exact (List.map_map ..).trans (List.map_id _)
    · intro c hc o
      obtain ⟨a, -, rfl⟩ := List.mem_map.1 hc
      cases o <;> exact ⟨rfl, rfl, rfl⟩
    · rw [hpop]
      exact ⟨rfl, rfl⟩
    · rw [hpop] at hfsc ⊢
      refine ⟨?_, rfl, rfl⟩
      have hactivity : (fsc.get g).activity = .busy { job := .discovery a, retries := 2, ends := s.now + 4 } := by
        rw [hkept (by rw [hfsc]; nofun), hfsc]
        rfl
      rw [State.callOnSegment]
      dsimp only
      rw [hactivity]
      rfl

end

end Sys2Proof.Machine
end

section
/-! Marks that fail (R122, R123), and the deadline of a settle item (R119). -/

namespace Sys2Proof.Machine

section
variable {s : State} {g : SegId} {marks : PortSet} {p : PortId}

/-- Failing marks and completing the fences changes the segment's fences, with the FENCE bit of those that end. -/
theorem State.failMarks_completeFences_eq : (s.failMarks g marks).completeFences g = { s with
    fences := ((s.failMarks g marks).completeFences g).fences
    ports := s.noticed fun p => if ((s.fences.get p).get g).isPending = true ∧ s.marked g p = false then 0x10#8 else 0#8 } := by
  have hdone : ∀ p, ((s.failMarks g marks).fencesDone g).get p = true ↔
      ((s.fences.get p).get g).isPending = true ∧ s.marked g p = false := by
    intro p
    rw [State.fencesDone_get, State.failMarks_get, Bool.and_eq_true, Bool.not_eq_true',
      State.marked_congr (s := s) (by simp) (by simp)]
    split <;> simp
  rw [State.completeFences_eq]
  simp only [hdone]
  rfl

theorem State.failMarks_completeFences_get (k : SegId) :
    ((((s.failMarks g marks).completeFences g).fences.get p).get k) =
      if k = g then
        (let r := if marks.get p then ((s.fences.get p).get g).fail else (s.fences.get p).get g
        if r.isPending = true ∧ s.marked g p = false then r.complete else r)
      else (s.fences.get p).get k := by
  rw [State.completeFences_get, State.fencesDone_get, State.failMarks_get, State.failMarks_get,
    State.marked_congr (s := s) (by simp) (by simp)]
  by_cases hk : k = g
  · subst hk
    simp
  · simp [hk]

/-- A PENDING fence whose mark fails is failed while a mark is left, and INCOMPLETE with its last. -/
theorem State.failMarks_completeFences_failed (hmark : marks.get p = true)
    (hpending : ((s.fences.get p).get g).isPending = true) :
    (((s.failMarks g marks).completeFences g).fences.get p).get g = if s.marked g p then .pending true else .incomplete := by
  rw [State.failMarks_completeFences_get, if_pos rfl, if_pos hmark]
  cases hr : (s.fences.get p).get g with
  | pending failed => cases s.marked g p <;> rfl
  | _ => rw [hr] at hpending; cases hpending

/-- A fence without a mark that fails stays, unless it is PENDING with no mark. -/
theorem State.failMarks_completeFences_stays (hmark : marks.get p = false)
    (hpending : ((s.fences.get p).get g).isPending = true → s.marked g p = true) :
    (((s.failMarks g marks).completeFences g).fences.get p).get g = (s.fences.get p).get g := by
  rw [State.failMarks_completeFences_get, if_pos rfl, hmark, if_neg Bool.false_ne_true]
  exact if_neg fun hdone => by
    rw [hpending hdone.1] at hdone
    cases hdone.2

theorem State.failMarks_completeFences_other {k : SegId} (hk : k ≠ g) :
    (((s.failMarks g marks).completeFences g).fences.get p).get k = (s.fences.get p).get k := by
  rw [State.failMarks_completeFences_get, if_neg hk]

/-! ### The deadline of a settle item -/

section
variable {a : Nat} {o : OutputId}

theorem exec_settleDeadlineExpiry_none (moment : Nat) (h : ∀ i ∈ s.settle.get g, i.station = a → i.value.output ≠ o) :
    exec (.settleDeadlineExpiry g a ⟨o, moment⟩) s = .next s := by
  have hnone : (s.settle.get g).find? (fun i => i.isFor a o) = none :=
    List.find?_eq_none.2 fun i hi hfor => by
      simp only [SettleItem.isFor, Bool.and_eq_true, beq_iff_eq] at hfor
      exact h i hi hfor.1 hfor.2
  change execSettleDeadlineExpiry g a ⟨o, moment⟩ s = _
  rw [execSettleDeadlineExpiry, hnone]

theorem SettleItem.isFor_iff {i : SettleItem} : i.isFor a o = true ↔ i.station = a ∧ i.value.output = o := by
  simp [SettleItem.isFor]

/-- At most one item of the list is for an output. -/
theorem State.SettleListsBounded.only (h : s.SettleListsBounded) {i j : SettleItem} (hi : i ∈ s.settle.get g) (hj : j ∈ s.settle.get g)
    (hfori : i.isFor a o = true) (hforj : j.isFor a o = true) : i = j := by
  obtain ⟨hi1, hi2⟩ := SettleItem.isFor_iff.1 hfori
  obtain ⟨hj1, hj2⟩ := SettleItem.isFor_iff.1 hforj
  by_contra hne
  have : Std.Symm fun i j : SettleItem => ¬(i.station = j.station ∧ i.value.output = j.value.output) :=
    ⟨fun _ _ h hsame => h ⟨hsame.1.symm, hsame.2.symm⟩⟩
  exact (h g).2.forall hi hj hne ⟨hi1.trans hj1.symm, hi2.trans hj2.symm⟩

theorem State.SettleListsBounded.find (h : s.SettleListsBounded) {i : SettleItem} (hi : i ∈ s.settle.get g)
    (hfor : i.isFor a o = true) : (s.settle.get g).find? (fun i => i.isFor a o) = some i := by
  obtain ⟨j, hj⟩ := Option.isSome_iff_exists.1 (List.find?_isSome (p := fun i : SettleItem => i.isFor a o)
    (xs := s.settle.get g) |>.2 ⟨i, hi, hfor⟩)
  rw [hj, h.only (List.mem_of_find?_eq_some hj) hi (List.find?_some (p := fun i : SettleItem => i.isFor a o) hj) hfor]

/-- The marks of the items for one output are those of its one item. -/
theorem State.SettleListsBounded.failed_marks (h : s.SettleListsBounded) {i : SettleItem} (hi : i ∈ s.settle.get g)
    (hfor : i.isFor a o = true) (p : PortId) :
    (unionMarks ((s.settle.get g).filter fun i => i.isFor a o)).get p = i.marks.get p := by
  rw [unionMarks_get, Bool.eq_iff_iff, List.any_eq_true]
  constructor
  · rintro ⟨j, hj, hmark⟩
    obtain ⟨hj, hforj⟩ := List.mem_filter.1 hj
    rwa [h.only hi hj hfor hforj]
  · exact fun hmark => ⟨i, List.mem_filter.2 ⟨hi, hfor⟩, hmark⟩

/-- An item that leaves takes with it no mark but its own. -/
theorem State.SettleListsBounded.stays_marked (h : s.SettleListsBounded) {i : SettleItem} (hi : i ∈ s.settle.get g)
    (hfor : i.isFor a o = true) (hmark : i.marks.get p = false) (hmarked : s.marked g p = true) :
    (s.modSettle g fun is => is.filter fun i => !i.isFor a o).marked g p = true := by
  have hsettle : (s.modSettle g fun is => is.filter fun i => !i.isFor a o).settle.get g =
      (s.settle.get g).filter fun i => !i.isFor a o := PerSeg.get_modify_self ..
  rw [State.marked, Bool.or_eq_true] at hmarked ⊢
  refine hmarked.imp id fun hitem => ?_
  obtain ⟨j, hj, hjmark⟩ := List.any_eq_true.1 hitem
  rw [hsettle]
  refine List.any_eq_true.2 ⟨j, List.mem_filter.2 ⟨hj, ?_⟩, hjmark⟩
  rw [Bool.not_eq_true']
  by_contra hforj
  rw [h.only hi hj hfor (Bool.eq_true_of_not_eq_false hforj), hjmark] at hmark
  cases hmark

/-- The part as an item's deadline finds it: the item gone, and SETTLE TIMEOUT set. -/
def State.timedOut (s : State) (g : SegId) (a : Nat) (o : OutputId) : State := { s with
  settle := s.settle.modify g fun is => is.filter fun i => !i.isFor a o
  faults := s.faults ||| FaultFlag.settleTimeout.mask
  ports := s.noticed fun _ => if s.faults ||| FaultFlag.settleTimeout.mask = s.faults then 0#8 else 0x20#8 }

theorem State.settleFail_eq : s.settleFail g a o = ((s.timedOut g a o).failMarks g
    (unionMarks ((s.settle.get g).filter fun i => i.isFor a o))).completeFences g := by
  unfold State.settleFail State.timedOut
  dsimp only
  rw [State.setFault_noticed]
  simp only [State.hasFault_iff_faults_or_mask]
  rfl

theorem State.settleFail_marked (p : PortId) : (s.settleFail g a o).marked g p = (s.timedOut g a o).marked g p := by
  rw [State.settleFail_eq]
  exact State.marked_congr (by simp) (by simp) p

end

/-! ### The fences of a list with one item less -/

section
variable {a : Nat} {o : OutputId} {i : SettleItem} (hbounded : s.SettleListsBounded) (hfollow : s.FencesFollowMarks)
  (hi : i ∈ s.settle.get g) (hfor : i.isFor a o = true)
include hbounded hfollow hi hfor

theorem State.settleFail_ends (p : PortId) : ((s.fences.get p).get g).isPending = true ∧ (s.timedOut g a o).marked g p = false ↔
    i.marks.get p = true ∧ (s.timedOut g a o).marked g p = false := by
  refine and_congr_left fun hunmarked => ?_
  rw [hfollow p g]
  constructor
  · intro hmarked
    by_contra hmark
    have hstays := hbounded.stays_marked hi hfor (Bool.eq_false_of_not_eq_true hmark) hmarked
    exact Bool.false_ne_true (hunmarked.symm.trans hstays)
  · exact fun hmark => Bool.or_eq_true _ _ ▸ .inr (List.any_eq_true.2 ⟨i, hi, hmark⟩)

theorem State.settleFail_ports : s.settleFail g a o = { s.timedOut g a o with
    fences := (s.settleFail g a o).fences
    ports := s.noticed fun p => (if s.faults ||| FaultFlag.settleTimeout.mask = s.faults then 0#8 else 0x20#8) |||
      (if i.marks.get p = true ∧ (s.timedOut g a o).marked g p = false then 0x10#8 else 0#8) } := by
  have hports := State.noticed_noticed s (fun _ => if s.faults ||| FaultFlag.settleTimeout.mask = s.faults then 0#8 else 0x20#8)
    fun p => if ((s.fences.get p).get g).isPending = true ∧ (s.timedOut g a o).marked g p = false then 0x10#8 else 0#8
  simp only [s.settleFail_ends hbounded hfollow hi hfor] at hports
  rw [State.settleFail_eq, State.failMarks_completeFences_eq, ← hports]
  simp only [← s.settleFail_ends hbounded hfollow hi hfor]
  rfl

theorem State.settleFail_fence (p : PortId) : ((s.settleFail g a o).fences.get p).get g =
    if i.marks.get p then (if (s.timedOut g a o).marked g p then .pending true else .incomplete) else (s.fences.get p).get g := by
  have hmarks := hbounded.failed_marks hi hfor p
  rw [State.settleFail_eq]
  cases hmark : i.marks.get p
  · refine State.failMarks_completeFences_stays (hmarks.trans hmark) fun hpending => ?_
    exact hbounded.stays_marked hi hfor hmark ((hfollow p g).symm.trans hpending)
  · refine State.failMarks_completeFences_failed (hmarks.trans hmark) ?_
    exact (hfollow p g).trans (Bool.or_eq_true _ _ ▸ .inr (List.any_eq_true.2 ⟨i, hi, hmark⟩))

end

end

/-- Settles O55: the list holds one item of the output, whose marks fail as it leaves. -/
theorem settleDeadlineFails : Obligations.SettleDeadlineFails := by
  intro s g a o moment
  refine ⟨exec_settleDeadlineExpiry_none moment, fun i hbounded hfollow hi hstation houtput => ?_⟩
  have hfor : i.isFor a o = true := SettleItem.isFor_iff.2 ⟨hstation, houtput⟩
  have hexec : exec (.settleDeadlineExpiry g a ⟨o, moment⟩) s = if s.runOut i.deadline moment then
      .next ((((s.advanceTo moment).settleFail g a o).arbitrate g).kickPorts) else .next s := by
    change execSettleDeadlineExpiry g a ⟨o, moment⟩ s = _
    rw [execSettleDeadlineExpiry, hbounded.find hi hfor]
  refine ⟨fun hearly => ?_, fun hdue => ?_⟩
  · rw [hexec, if_neg]
    rw [State.runOut_iff]
    omega
  · refine ⟨(s.advanceTo moment).settleFail g a o, hexec.trans (if_pos ((State.runOut_iff ..).2 hdue)), ?_, fun p => ⟨?_, ?_⟩⟩
    · simp only [State.settleFail_marked]
      exact (s.advanceTo moment).settleFail_ports hbounded hfollow hi hfor
    · rw [State.settleFail_marked]
      exact (s.advanceTo moment).settleFail_fence hbounded hfollow hi hfor p
    · intro l hl
      rw [State.settleFail_eq, State.failMarks_completeFences_other hl]
      rfl

end Sys2Proof.Machine
end

section
/-! How a segment goes on: the end of a pass, a due pass that starts, and the next call. What these change, and nothing else. -/

namespace Sys2Proof.Machine

/-! ### What going on changes -/

/-- The segment's pass number and image are as they were, or a due pass has started and aged the points. -/
def State.PassWentOn (s u : State) (g : SegId) : Prop :=
  (u.fsc.get g).passNumber = (s.fsc.get g).passNumber ∧ u.image.get g = s.image.get g ∧
      ((s.fsc.get g).passRunning = false → (u.fsc.get g).passRunning = false) ∧
      ((u.fsc.get g).startDue = true → (s.fsc.get g).startDue = true) ∨
    (s.fsc.get g).startDue = true ∧ (u.fsc.get g).startDue = false ∧
      (u.fsc.get g).passNumber = (s.fsc.get g).passNumber + 1#16 ∧
      u.image.get g = (s.image.get g).map (Station.age s.settings.holdLimit ((s.fsc.get g).passNumber + 1#16))

/-- What a segment that goes on leaves: nothing that another segment holds, and of its own outputs only those of stations
that answer. -/
structure State.Onward (g : SegId) (s u : State) : Prop where
  frame : u = { s with
    faults := u.faults, ports := u.ports, image := u.image, fsc := u.fsc, alloc := u.alloc, buffer := u.buffer
    overrides := u.overrides } := by exact rfl
  faults : ∃ more, u.faults = s.faults ||| more := by exact ⟨0#24, (BitVec.or_zero ..).symm⟩
  ports : ∃ b, (b = 0#8 ∨ b = 0x20#8) ∧ u.ports = s.noticed fun _ => b := by exact ⟨0#8, .inl rfl, (State.noticed_none _).symm⟩
  others : ∀ k, k ≠ g → u.image.get k = s.image.get k ∧ u.fsc.get k = s.fsc.get k ∧ u.alloc.get k = s.alloc.get k ∧
    u.buffer.get k = s.buffer.get k := by exact fun _ _ => ⟨rfl, rfl, rfl, rfl⟩
  pass : s.PassWentOn u g
  readThroughs : (u.fsc.get g).readThroughs = (s.fsc.get g).readThroughs := by exact rfl
  overrides : (u.overrides.map fun r => { r with delivery := .posted }) = (s.overrides.map fun r => { r with delivery := .posted }) := by exact rfl
  delivered : ∀ r ∈ u.overrides, r ∈ s.overrides ∨ (r.seg = g ∧ s.answers g r.station = true) := by exact fun _ => .inl
  entries : ∀ e ∈ u.buffer.get g, (∃ x ∈ s.buffer.get g, x.station = e.station) ∨ s.answers g e.station = true := by
    exact fun e he => .inl ⟨e, he, rfl⟩
  posted : ∀ a, s.answers g a = false → ∀ o, (u.commands g a).postedValue o = (s.commands g a).postedValue o := by
    exact fun _ _ _ => rfl

section
variable {s u t : State} {g : SegId}

theorem State.PassWentOn.same (hfsc : (u.fsc.get g).passNumber = (s.fsc.get g).passNumber) (himage : u.image.get g = s.image.get g)
    (hrun : (s.fsc.get g).passRunning = false → (u.fsc.get g).passRunning = false)
    (hdue : (u.fsc.get g).startDue = true → (s.fsc.get g).startDue = true) : s.PassWentOn u g := .inl ⟨hfsc, himage, hrun, hdue⟩

theorem State.Onward.refl (g : SegId) (s : State) : s.Onward g s where
  pass := .same rfl rfl id id

/-- Ageing leaves all of a station but its points. -/
theorem Station.age_seen (limit : Nat) (pass : Word) (st : Station) : (st.age limit pass).seen = st.seen := rfl

theorem State.PassWentOn.station (h : s.PassWentOn u g) (a : Nat) :
    u.station? g a = s.station? g a ∨
      u.station? g a = (s.station? g a).map (Station.age s.settings.holdLimit ((s.fsc.get g).passNumber + 1#16)) := by
  rcases h with ⟨-, himage, -⟩ | ⟨-, -, -, himage⟩
  · exact .inl (State.station?_congr himage a)
  · refine .inr ?_
    unfold State.station?
    rw [himage, List.find?_map]
    rfl

theorem State.PassWentOn.seen (h : s.PassWentOn u g) (a : Nat) :
    (u.station? g a).map Station.seen = (s.station? g a).map Station.seen := by
  rcases h.station a with hstation | hstation
  · rw [hstation]
  · rw [hstation, Option.map_map]
    rfl

theorem State.answers_of_seen {a : Nat} (h : (u.station? g a).map Station.seen = (s.station? g a).map Station.seen) :
    u.answers g a = s.answers g a := by
  rw [Bool.eq_iff_iff, State.answers_iff, State.answers_iff]
  have hkeeps : ∀ {x y : State}, (x.station? g a).map Station.seen = (y.station? g a).map Station.seen →
      (∃ st, x.station? g a = some st ∧ st.counter ≠ 0 ∧ st.mode = .auto) →
      ∃ st, y.station? g a = some st ∧ st.counter ≠ 0 ∧ st.mode = .auto := by
    rintro x y hseen ⟨st, hst, hcounter, hmode⟩
    rw [hst] at hseen
    obtain ⟨st', hst', hsame⟩ := Option.map_eq_some_iff.1 hseen.symm
    have hcounter' : st'.counter = st.counter := congrArg (fun x => x.counter) hsame
    have hmode' : st'.mode = st.mode := congrArg (fun x => x.mode) hsame
    exact ⟨st', hst', by rwa [hcounter'], hmode'.trans hmode⟩
  exact ⟨hkeeps h, hkeeps h.symm⟩

theorem State.Onward.answers (h : s.Onward g u) (a : Nat) : u.answers g a = s.answers g a :=
  State.answers_of_seen (h.pass.seen a)

theorem State.PassWentOn.trans (h : s.PassWentOn u g) (k : u.PassWentOn t g) (hsettings : u.settings = s.settings) :
    s.PassWentOn t g := by
  rcases h with ⟨hnumber, himage, hrun, hdue⟩ | ⟨hdue, hcleared, hnumber, himage⟩
  · rcases k with ⟨knumber, kimage, krun, kdue⟩ | ⟨kdue, kcleared, knumber, kimage⟩
    · exact .inl ⟨knumber.trans hnumber, kimage.trans himage, krun ∘ hrun, hdue ∘ kdue⟩
    · exact .inr ⟨hdue kdue, kcleared, by rw [knumber, hnumber], by rw [kimage, himage, hsettings, hnumber]⟩
  · rcases k with ⟨knumber, kimage, -, kdue⟩ | ⟨kdue, -⟩
    · refine .inr ⟨hdue, ?_, knumber.trans hnumber, kimage.trans himage⟩
      cases hstart : (t.fsc.get g).startDue
      · rfl
      · rw [kdue hstart] at hcleared; cases hcleared
    · rw [kdue] at hcleared; cases hcleared

theorem State.Onward.settings (h : s.Onward g u) : u.settings = s.settings := by rw [h.frame]

theorem State.Onward.trans (h : s.Onward g u) (k : u.Onward g t) : s.Onward g t where
  frame := by rw [k.frame, h.frame]
  faults := by
    obtain ⟨more, hmore⟩ := h.faults
    obtain ⟨yet, hyet⟩ := k.faults
    exact ⟨more ||| yet, by rw [hyet, hmore, BitVec.or_assoc]⟩
  ports := by
    obtain ⟨b, hb, hports⟩ := h.ports
    obtain ⟨c, hc, kports⟩ := k.ports
    refine ⟨b ||| c, ?_, ?_⟩
    · rcases hb with rfl | rfl <;> rcases hc with rfl | rfl <;> decide
    · rw [kports, ← State.noticed_noticed s (fun _ => b) fun _ => c, ← hports]
      unfold State.noticed
      rw [h.settings]
  others j hj := by
    obtain ⟨himage, hfsc, halloc, hbuffer⟩ := h.others j hj
    obtain ⟨kimage, kfsc, kalloc, kbuffer⟩ := k.others j hj
    exact ⟨kimage.trans himage, kfsc.trans hfsc, kalloc.trans halloc, kbuffer.trans hbuffer⟩
  pass := h.pass.trans k.pass h.settings
  readThroughs := k.readThroughs.trans h.readThroughs
  overrides := k.overrides.trans h.overrides
  delivered r hr := by
    rcases k.delivered r hr with hr | ⟨hseg, hanswers⟩
    · exact h.delivered r hr
    · exact .inr ⟨hseg, h.answers _ ▸ hanswers⟩
  entries e he := by
    rcases k.entries e he with ⟨x, hx, hstation⟩ | hanswers
    · rw [← hstation]
      exact h.entries x hx
    · exact .inr (h.answers _ ▸ hanswers)
  posted a ha o := (k.posted a ((h.answers a).trans ha) o).trans (h.posted a ha o)

/-- With no start due, no pass starts. -/
theorem State.Onward.stays (h : s.Onward g u) (hdue : (s.fsc.get g).startDue = false) :
    (u.fsc.get g).passNumber = (s.fsc.get g).passNumber ∧ (u.fsc.get g).startDue = false := by
  rcases h.pass with ⟨hnumber, -, -, hstart⟩ | ⟨hstart, -⟩
  · exact ⟨hnumber, Bool.eq_false_of_not_eq_true fun h => by rw [hstart h] at hdue; cases hdue⟩
  · rw [hstart] at hdue; cases hdue

theorem State.Onward.hasFault (h : s.Onward g u) {f : FaultFlag} (hf : s.hasFault f = true) : u.hasFault f = true := by
  obtain ⟨more, hmore⟩ := h.faults
  unfold State.hasFault at hf ⊢
  rw [hmore, BitVec.getLsbD_or, hf, Bool.true_or]

/-! ### The steps of going on -/

/-- The controller's own record, but for the pass and what waits. -/
theorem State.Onward.modFsc {f : Fsc → Fsc} (hnumber : (f (s.fsc.get g)).passNumber = (s.fsc.get g).passNumber)
    (hrun : (f (s.fsc.get g)).passRunning = (s.fsc.get g).passRunning ∨ (f (s.fsc.get g)).passRunning = false)
    (hdue : (f (s.fsc.get g)).startDue = (s.fsc.get g).startDue)
    (hreads : (f (s.fsc.get g)).readThroughs = (s.fsc.get g).readThroughs) : s.Onward g (s.modFsc g f) where
  others k hk := ⟨rfl, PerSeg.get_modify_other _ _ hk, rfl, rfl⟩
  pass := by
    have hget : (s.modFsc g f).fsc.get g = f (s.fsc.get g) := PerSeg.get_modify_self ..
    refine .same (by rw [hget, hnumber]) rfl (fun h => ?_) fun h => ?_
    · rw [hget]
      exact hrun.elim (·.trans h) id
    · rwa [hget, hdue] at h
  readThroughs := by
    rw [show (s.modFsc g f).fsc.get g = f (s.fsc.get g) from PerSeg.get_modify_self ..]
    exact hreads

/-- A post for a station that answers. -/
theorem mergePost_stations {a : Nat} {f : Fields} {o : Option PortId} {es : List Entry} {e : Entry} (h : e ∈ mergePost a f o es) :
    (∃ x ∈ es, x.station = e.station) ∨ e.station = a := by
  induction es with
  | nil =>
    rw [mergePost, List.mem_singleton] at h
    exact .inr (by rw [h])
  | cons x xs ih =>
    rw [mergePost] at h
    split at h
    · next hx =>
      rcases List.mem_cons.1 h with rfl | h
      · exact .inr hx.1
      · exact .inl ⟨e, List.mem_cons_of_mem _ h, rfl⟩
    · rcases List.mem_cons.1 h with rfl | h
      · exact .inl ⟨e, List.mem_cons_self .., rfl⟩
      · exact (ih h).imp (fun ⟨y, hy, hstation⟩ => ⟨y, List.mem_cons_of_mem _ hy, hstation⟩) id

theorem State.Onward.post {a : Nat} {f : Fields} {o : Option PortId} (ha : s.answers g a = true) :
    s.Onward g (s.post g a f o) where
  others k hk := ⟨rfl, rfl, rfl, PerSeg.get_modify_other _ _ hk⟩
  pass := .same rfl rfl id id
  entries e he := by
    rw [State.post, State.modBuffer_buffer, PerSeg.get_modify_self] at he
    exact (mergePost_stations he).imp id fun h => by rw [h]; exact ha

/-- The commands of a segment's stations change, but not what was last posted for one that does not answer. -/
theorem State.Onward.modAlloc {f : Allocator → Allocator} (h : ∀ a, s.answers g a = false → ∀ o,
    ((s.modAlloc g f).commands g a).postedValue o = (s.commands g a).postedValue o) : s.Onward g (s.modAlloc g f) where
  others k hk := ⟨rfl, rfl, PerSeg.get_modify_other _ _ hk, rfl⟩
  pass := .same rfl rfl id id
  posted := h

theorem State.modAlloc_commands {f : Allocator → Allocator} {F : StationCommands → StationCommands}
    (hF : ∀ c, (F c).addr = c.addr) (h : (f (s.alloc.get g)).commands = (s.alloc.get g).commands.map F) (a : Nat) :
    (s.modAlloc g f).commands? g a = (s.commands? g a).map F := by
  unfold State.commands?
  rw [State.modAlloc_alloc, PerSeg.get_modify_self, h, find?_map_of_addr hF]

theorem State.Onward.mapCommands {f : Allocator → Allocator} {F : StationCommands → StationCommands}
    (hF : ∀ c, (F c).addr = c.addr) (h : (f (s.alloc.get g)).commands = (s.alloc.get g).commands.map F)
    (hposted : ∀ c, s.answers g c.addr = false → ∀ o, (F c).postedValue o = c.postedValue o) : s.Onward g (s.modAlloc g f) := by
  refine .modAlloc fun a ha o => ?_
  unfold State.commands
  rw [State.modAlloc_commands hF h]
  cases hc : s.commands? g a with
  | none => rfl
  | some c => exact hposted c (by rw [State.commands?_addr hc]; exact ha) o

theorem State.Onward.allocatorPost {a : Nat} {f : Fields} (ha : s.answers g a = true) : s.Onward g (s.allocatorPost g a f) := by
  refine (State.Onward.post (f := f) (o := none) ha).trans ?_
  refine .mapCommands (F := fun c => if c.addr = a then c.recordPost f else c) (fun c => by split <;> rfl) rfl fun c hc o => ?_
  have hne : c.addr ≠ a := fun h => by
    rw [h, State.answers_congr (t := s) (by rfl), ha] at hc
    cases hc
  rw [if_neg hne]

theorem State.Onward.runPost (c : StationCommands) : s.Onward g (s.runPost g c) := by
  unfold State.runPost
  dsimp only
  split
  · exact .refl g s
  · next hsome =>
    refine .allocatorPost ?_
    by_contra hanswers
    rw [State.wanted_eq, if_neg hanswers] at hsome
    exact hsome rfl

theorem State.Onward.runPosts : s.Onward g (s.runPosts g) := by
  unfold State.runPosts
  generalize (s.alloc.get g).commands = cs
  induction cs generalizing s with
  | nil => exact .refl g s
  | cons c cs ih => exact (State.Onward.runPost c).trans ih

theorem runValues_postedValue (el serving : List Nat) (run : LastRun) (c : StationCommands) (o : OutputId) :
    (runValues el serving run c).postedValue o = c.postedValue o := by
  unfold runValues
  split
  · split <;> cases o <;> rfl
  · cases o <;> rfl
  · rfl

theorem State.Onward.fullStages : s.Onward g (s.fullStages g) := by
  rw [State.fullStages_eq]
  exact .mapCommands (runValues_addr _ _ _) rfl fun c _ o => runValues_postedValue _ _ _ c o

theorem State.Onward.demanded : s.Onward g (s.demanded g) where
  faults := by
    change ∃ more, s.demandFaults g = _
    unfold State.demandFaults
    split
    · exact ⟨_, rfl⟩
    · exact ⟨0#24, (BitVec.or_zero ..).symm⟩
  ports := ⟨if s.demandFaults g = s.faults then 0#8 else 0x20#8, by split <;> simp, rfl⟩
  others k hk := ⟨rfl, PerSeg.get_modify_other _ _ hk, PerSeg.get_modify_other _ _ hk, rfl⟩
  pass := by
    have hget : (s.demanded g).fsc.get g = { s.fsc.get g with passRunning := false } := PerSeg.get_modify_self ..
    exact .same (by rw [hget]) rfl (fun _ => by rw [hget]) fun h => by rwa [hget] at h
  readThroughs := by
    rw [show (s.demanded g).fsc.get g = { s.fsc.get g with passRunning := false } from PerSeg.get_modify_self ..]
  posted a _ o := by
    unfold State.commands State.commands?
    rw [State.demanded_commands]

theorem State.Onward.deliverWaiting : s.Onward g (s.deliverWaiting g) := by
  have hdelivers : ∀ r, s.deliverable g r = true → r.seg = g ∧ s.answers g r.station = true := fun r hr => by
    obtain ⟨hseg, -, hanswers⟩ := State.deliverable_iff.1 hr
    exact ⟨hseg, hanswers⟩
  have hposts : ∀ (rs : List OverrideRecord) (t : State), (∀ r ∈ rs, r.seg = g ∧ t.answers g r.station = true) →
      t.Onward g (rs.foldl State.postRecord t) := by
    intro rs
    induction rs with
    | nil => exact fun t _ => .refl g t
    | cons r rs ih =>
      intro t h
      obtain ⟨hseg, hanswers⟩ := h r (List.mem_cons_self ..)
      have hpost : t.Onward g (t.postRecord r) := by
        unfold State.postRecord
        rw [hseg]
        exact .post hanswers
      exact hpost.trans (ih _ fun x hx => ⟨(h x (List.mem_cons_of_mem _ hx)).1, by
        rw [hpost.answers]; exact (h x (List.mem_cons_of_mem _ hx)).2⟩)
  have hposted := hposts (s.overrides.filter (s.deliverable g)) s fun r hr => hdelivers r (List.mem_filter.1 hr).2
  refine hposted.trans ?_
  have hover : ((s.overrides.filter (s.deliverable g)).foldl State.postRecord s).overrides = s.overrides := by
    rw [State.postRecords_fold fun r hr => (hdelivers r (List.mem_filter.1 hr).2).1]
  exact {
    pass := .same rfl rfl id id
    overrides := by
      change (s.overrides.map _).map _ = _
      rw [hover, List.map_map]
      refine List.map_congr_left fun r _ => ?_
      dsimp only [Function.comp]
      split <;> rfl
    delivered := fun r hr => by
      obtain ⟨x, hx, rfl⟩ := List.mem_map.1 (show r ∈ s.overrides.map _ from hr)
      rw [hover]
      split
      · next h => exact .inr ⟨(hdelivers x h).1, by rw [hposted.answers]; exact (hdelivers x h).2⟩
      · exact .inl hx }

theorem State.Onward.closePass : s.Onward g (s.closePass g) := by
  unfold State.closePass
  rw [State.allocationRun_stages]
  refine .trans ?_ .deliverWaiting
  split
  · exact .demanded
  · exact .trans (.trans .demanded .fullStages) .runPosts

theorem State.openPass_image : (s.openPass g).image.get g =
    (s.image.get g).map (Station.age s.settings.holdLimit ((s.fsc.get g).passNumber + 1#16)) := PerSeg.get_modify_self ..

theorem State.Onward.openPass (h : (s.fsc.get g).startDue = true) : s.Onward g (s.openPass g) where
  others k hk := ⟨PerSeg.get_modify_other _ _ hk, State.openPass_fsc_other hk, rfl, rfl⟩
  pass := .inr ⟨h, by rw [State.openPass_fsc], by rw [State.openPass_fsc], State.openPass_image⟩
  readThroughs := by rw [State.openPass_fsc]

/-- A pass that starts goes on from where its beginning has left it. -/
theorem State.Onward.startPass : (s.openPass g).Onward g (s.startPass g) := by
  unfold State.startPass
  dsimp only
  split
  · exact .refl g _
  · exact .closePass

theorem State.Onward.endPass : s.Onward g (s.endPass g) := by
  cases hdue : (s.fsc.get g).startDue
  · rw [State.endPass_notDue hdue]
    exact .closePass
  · rw [State.endPass_due hdue]
    exact .trans .closePass (.trans (.openPass (by rw [State.closePass_fsc]; exact hdue)) .startPass)

theorem State.Onward.calling {job : Job} {retries time : Nat} {more : Fsc → Fsc}
    (hmore : ∀ f, (more f).passNumber = f.passNumber ∧ (more f).passRunning = f.passRunning ∧ (more f).startDue = f.startDue ∧
      (more f).readThroughs = f.readThroughs) : s.Onward g (s.calling g job retries time more) := by
  obtain ⟨hnumber, hrun, hdue, hreads⟩ := hmore (s.fsc.get g)
  exact .modFsc hnumber (.inl hrun) hdue hreads

theorem State.Onward.start (c : Choice) : s.Onward g (s.start g c) := by
  cases c with
  | continuation j => rw [State.start_continuation]; exact .calling fun f => ⟨rfl, rfl, rfl, rfl⟩
  | poll => rw [State.start_poll]; exact .calling fun f => ⟨rfl, rfl, rfl, rfl⟩
  | event a => rw [State.start_event]; exact .calling fun f => ⟨rfl, rfl, rfl, rfl⟩
  | readThrough e => rw [State.start_readThrough]; exact .calling fun f => ⟨rfl, rfl, rfl, rfl⟩
  | scan a =>
    rw [State.start_scan, State.scanning]
    split
    · exact .calling fun f => ⟨rfl, rfl, rfl, rfl⟩
    · exact .calling fun f => ⟨rfl, rfl, rfl, rfl⟩
  | write a =>
    have hfly : (s.starve g).Onward g ((s.starve g).flyHead g) := {
      others := fun k hk => ⟨rfl, rfl, rfl, PerSeg.get_modify_other _ _ hk⟩
      pass := .same rfl rfl id id
      entries := fun e he => by
        have hget : ((s.starve g).flyHead g).buffer.get g = _ := PerSeg.get_modify_self ..
        rw [hget] at he
        cases hb : (s.starve g).buffer.get g with
        | nil => rw [hb] at he; cases he
        | cons x xs =>
          rw [hb] at he
          rcases List.mem_cons.1 he with rfl | he
          · exact .inl ⟨x, List.mem_cons_self .., rfl⟩
          · exact .inl ⟨e, List.mem_cons_of_mem _ he, rfl⟩ }
    exact .trans (.trans (.modFsc rfl (.inl rfl) rfl rfl) hfly) (.modFsc rfl (.inl rfl) rfl rfl)
  | endOfPass => exact .refl g s
  | nothing => exact .refl g s

theorem State.Onward.arbitrate : s.Onward g (s.arbitrate g) := by
  unfold State.arbitrate
  split
  · split
    · exact .trans .endPass (.start _)
    · exact .start _
  · exact .refl g s

theorem State.Onward.dealtWith (a : Nat) : s.Onward g (s.dealtWith g a) := by
  unfold State.dealtWith
  split
  · exact .modFsc rfl (.inl rfl) rfl rfl
  · exact .trans (.modFsc rfl (.inl rfl) rfl rfl) .endPass

end

end Sys2Proof.Machine
end

section
/-! The answer to an IDENTIFY (R11 to R13), and how a discovery concludes. -/

namespace Sys2Proof.Machine

section
variable {s : State} {g : SegId} {a : Nat}

/-! ### A response taken -/

theorem hear_nil (a : Nat) : hear a [] = none := by
  have hshort : checked [] = none := by simp [checked]
  unfold hear
  rw [hshort]

theorem exec_responseTaken {x : Transaction} {chars : List Byte} (hbusy : (s.fsc.get g).activity = .busy x) (hjob : x.job ≠ .poll)
    (hchars : chars ≠ []) : exec (.responseTaken g chars) s = .next (((s.answer g x chars).arbitrate g).kickPorts) := by
  have hawaits : awaiting (s.fsc.get g).activity = some x := by
    rw [hbusy, awaiting]
    split
    · next hpoll => exact absurd hpoll hjob
    · rfl
  have hsome : chars.isEmpty = false := by simpa using hchars
  change execResponseTaken g chars s = _
  rw [execResponseTaken, hawaits]
  exact if_neg (by rw [hsome]; exact Bool.false_ne_true)

theorem State.station?_kickPorts (s : State) (g : SegId) (a : Nat) : s.kickPorts.station? g a = s.station? g a :=
  State.station?_congr (by simp) a

/-! ### The conclusion of a discovery -/

theorem State.openPass_seen (a : Nat) : ((s.openPass g).station? g a).map Station.seen = (s.station? g a).map Station.seen := by
  have hstation : (s.openPass g).station? g a =
      (s.station? g a).map (Station.age s.settings.holdLimit ((s.fsc.get g).passNumber + 1#16)) :=
    State.station?_modImage_map (F := Station.age s.settings.holdLimit ((s.fsc.get g).passNumber + 1#16)) (fun _ => rfl) _ g a
  rw [hstation, Option.map_map]
  rfl

theorem State.startPass_seen (a : Nat) : ((s.startPass g).station? g a).map Station.seen = (s.station? g a).map Station.seen :=
  (State.Onward.startPass.pass.seen a).trans (State.openPass_seen a)

theorem State.discoverFrom_some {above b : Nat} (h : (s.settings.population g).find? (fun x => decide (above < x)) = some b) :
    s.discoverFrom g above = s.identify g b := by
  rw [State.discoverFrom, h]

theorem State.discoverFrom_none {above : Nat} (h : (s.settings.population g).find? (fun x => decide (above < x)) = none) :
    s.discoverFrom g above = (s.setActivity g .free).startPass g := by
  rw [State.discoverFrom, h]

/-- The first pass of a discovery that ends. -/
theorem State.startPass_number {n : Word} (h : (s.fsc.get g).passNumber = n) :
    (((s.setActivity g .free).startPass g).fsc.get g).passNumber = n + 1#16 ∧
      (((s.setActivity g .free).startPass g).fsc.get g).startDue = false := by
  have hfree : ((s.setActivity g .free).fsc.get g).passNumber = n := by
    rw [show (s.setActivity g .free).fsc.get g = { s.fsc.get g with activity := .free } from PerSeg.get_modify_self .., h]
  obtain ⟨hnumber, hdue⟩ := (State.Onward.startPass (s := s.setActivity g .free) (g := g)).stays (by rw [State.openPass_fsc])
  rw [hnumber, State.openPass_fsc, hfree]
  exact ⟨rfl, hdue⟩

theorem State.discoverFrom_seen (above b : Nat) :
    ((s.discoverFrom g above).station? g b).map Station.seen = (s.station? g b).map Station.seen := by
  cases h : (s.settings.population g).find? fun x => decide (above < x) with
  | some c => rw [State.discoverFrom_some h]; rfl
  | none => rw [State.discoverFrom_none h]; exact State.startPass_seen b

/-- The state a discovery's conclusion leaves before the discovery goes on. -/
def State.concluded (s : State) (g : SegId) (a : Nat) (found : Bool) : State :=
  let s1 := (s.modStation g a fun st => { st with counter := if found then 12 else 0 }).notifyAll .station
  if found then s1 else s1.enterLost g a

theorem State.conclude_eq (found : Bool) : s.conclude g a found = (s.concluded g a found).discoverFrom g a := rfl

theorem State.concluded_frame (found : Bool) : (s.concluded g a found).settings = s.settings ∧
    (s.concluded g a found).now = s.now ∧ (s.concluded g a found).phase = s.phase := by
  unfold State.concluded
  split <;> simp

theorem State.concluded_station (found : Bool) : (s.concluded g a found).station? g a =
    (s.station? g a).map fun st => { st with
      counter := if found then 12 else 0, attention := if found then st.attention else false } := by
  cases found with
  | true => exact State.station?_modStation s g a
  | false =>
    refine (State.enterLost_station ..).trans ?_
    rw [State.notifyAll_eq]
    refine (congrArg (Option.map _) (State.station?_modStation s g a)).trans ?_
    rw [Option.map_map]
    rfl

theorem State.leaveReadThroughs_fsc (leaves : ReadThrough → Bool) : (s.leaveReadThroughs g leaves).fsc =
    s.fsc.modify g fun f => { f with readThroughs := f.readThroughs.filter fun e => !leaves e } := by
  have hreplies : ∀ (es : List ReadThrough) (t : State), (es.foldl (fun t e => t.replyReadThrough g e) t).fsc = t.fsc := by
    intro es
    induction es with
    | nil => exact fun _ => rfl
    | cons e es ih => exact fun t => (ih _).trans (by simp [State.replyReadThrough])
  exact hreplies ..

theorem State.enterLost_fsc : (s.enterLost g a).fsc =
    s.fsc.modify g fun f => { f with readThroughs := f.readThroughs.filter fun e => !(e.station == a) } :=
  (State.leaveReadThroughs_fsc _).trans (by simp)

theorem State.enterLost_hasFault : (s.enterLost g a).hasFault .stationLost = true := by
  have hset : ((((s.setFault .stationLost).modStation g a fun st => { st with attention := false }).discardEntries g a)).faults.getLsbD
      FaultFlag.stationLost.bit = true := by
    rw [(State.discardEntries_frame ..).2.2.2.2.2.2.1, show (State.modStation _ g a _).faults = (s.setFault .stationLost).faults from rfl,
      State.setFault_faults, BitVec.getLsbD_or, Bool.or_eq_true]
    exact .inr (by decide)
  have hlost := State.fpbUnitLost_keeps_fault hset g a
  unfold State.hasFault State.enterLost
  dsimp only
  rw [(State.leaveReadThroughs_frame ..).2.2.2.2.2.2.1]
  exact hlost

theorem State.concluded_passNumber (found : Bool) :
    ((s.concluded g a found).fsc.get g).passNumber = (s.fsc.get g).passNumber := by
  cases found with
  | true => simp [State.concluded]
  | false =>
    change ((State.enterLost _ g a).fsc.get g).passNumber = _
    rw [State.enterLost_fsc, PerSeg.get_modify_self]
    simp

/-- The discovery goes on with the next address, or ends with the first pass. -/
theorem State.conclude_next {b : Nat} (found : Bool)
    (h : (s.settings.population g).find? (fun x => decide (a < x)) = some b) :
    ((s.conclude g a found).fsc.get g).activity = .busy { job := .discovery b, retries := 2, ends := s.now + 4 } := by
  obtain ⟨hsettings, hnow, -⟩ := s.concluded_frame (g := g) (a := a) found
  rw [State.conclude_eq, State.discoverFrom_some (by rw [hsettings]; exact h), ← hnow]
  exact congrArg Fsc.activity (PerSeg.get_modify_self ..)

theorem State.conclude_first (found : Bool) (h : (s.settings.population g).find? (fun x => decide (a < x)) = none) :
    ((s.conclude g a found).fsc.get g).passNumber = (s.fsc.get g).passNumber + 1#16 ∧
      ((s.conclude g a found).fsc.get g).startDue = false := by
  obtain ⟨hsettings, -⟩ := s.concluded_frame (g := g) (a := a) found
  rw [State.conclude_eq, State.discoverFrom_none (by rw [hsettings]; exact h)]
  exact State.startPass_number (s.concluded_passNumber found)

theorem State.conclude_seen {st : Station} (found : Bool) (hst : s.station? g a = some st) :
    ((s.conclude g a found).station? g a).map Station.seen = some { st with
      points := [], counter := if found then 12 else 0, attention := if found then st.attention else false } := by
  rw [State.conclude_eq, State.discoverFrom_seen, State.concluded_station, hst]
  rfl

theorem State.conclude_hasFault {f : FaultFlag} (found : Bool) (h : s.hasFault f = true ∨ (found = false ∧ f = .stationLost)) :
    (s.conclude g a found).hasFault f = true := by
  refine State.discoverFrom_keeps_fault ?_ g a
  cases found with
  | true => exact h.elim (fun h => by simpa [State.concluded, State.hasFault] using h) fun h => by cases h.1
  | false =>
    change (State.enterLost _ g a).faults.getLsbD f.bit = true
    rcases h with h | ⟨-, rfl⟩
    · exact State.enterLost_keeps_fault (by simpa [State.hasFault] using h) g a
    · exact State.enterLost_hasFault

/-! ### The kind -/

theorem State.setMismatch_eq {st : Station} (m : Bool) (hst : s.station? g a = some st) {faults : BitVec 24}
    (hfaults : faults = if m = true then s.faults ||| FaultFlag.kindMismatch.mask else s.faults) :
    s.setMismatch g a m = { s with
      image := s.image.modify g fun sts => sts.map fun x => if x.addr = a then { x with mismatch := m } else x
      faults := faults
      ports := s.noticed fun _ => (if st.mismatch = m then 0#8 else 0x02#8) ||| if faults = s.faults then 0#8 else 0x20#8 } := by
  have hnotices : (if (st.mismatch != m) = true then NoticeBit.station.mask else 0#8) = if st.mismatch = m then 0#8 else 0x02#8 := by
    by_cases h : st.mismatch = m
    · simp [h]
    · simp [h, NoticeBit.mask]
  unfold State.setMismatch
  rw [hst]
  dsimp only
  rw [State.notifyIf_eq, hnotices, State.setFaultIf_noticed (faults := faults) (by exact hfaults), ← State.noticed_noticed]
  rfl

theorem identifyContent_eq {h : Heard} {k : Byte} (hdata : h.data = [k]) : identifyContent h = some k := by
  rw [identifyContent, hdata]

theorem State.answer_discovery {h : Heard} {k : Byte} {x : Transaction} {chars : List Byte} (hjob : x.job = .discovery a)
    (hhear : hear a chars = some h) (hdata : h.data = [k]) : s.answer g x chars = s.discoveryAnswer g a k := by
  rw [State.answer, hjob]
  dsimp only
  rw [hhear, Option.bind_some, identifyContent_eq hdata]

theorem State.answer_probe {h : Heard} {k : Byte} {x : Transaction} {chars : List Byte} (hjob : x.job = .probe a)
    (hhear : hear a chars = some h) (hdata : h.data = [k]) : s.answer g x chars = s.probeAnswer g a k := by
  rw [State.answer, hjob]
  dsimp only
  rw [hhear, Option.bind_some, identifyContent_eq hdata]

theorem State.setMismatch_station {st : Station} (m : Bool) (hst : s.station? g a = some st) :
    (s.setMismatch g a m).station? g a = some { st with mismatch := m } := by
  rw [State.setMismatch_eq m hst rfl]
  refine (State.station?_modStation (f := fun x => { x with mismatch := m }) s g a).trans ?_
  rw [hst]
  rfl

theorem State.setMismatch_hasFault {st : Station} (hst : s.station? g a = some st) :
    (s.setMismatch g a true).hasFault .kindMismatch = true := by
  rw [State.setMismatch_eq true hst rfl]
  change (s.faults ||| FaultFlag.kindMismatch.mask).getLsbD FaultFlag.kindMismatch.bit = true
  rw [BitVec.getLsbD_or, Bool.or_eq_true]
  exact .inr (by decide)

/-! ### The probe -/

theorem State.dealtWith_some {b : Nat} (h : (s.settings.population g).find? (fun x => decide (a < x)) = some b) :
    s.dealtWith g a = s.modFsc g fun f => { f with scanPosition := b } := by
  rw [State.dealtWith, h]

theorem State.dealtWith_none (h : (s.settings.population g).find? (fun x => decide (a < x)) = none) :
    s.dealtWith g a = (s.modFsc g fun f => { f with scanPosition := 13 }).endPass g := by
  rw [State.dealtWith, h]

/-- The state in which a probe answered with a kind ends. -/
def State.probed (s : State) (g : SegId) (a : Nat) (fits : Bool) : State :=
  ((if fits then ((s.setMismatch g a (!fits)).setCounter g a 4).revive g a else s.setMismatch g a (!fits)).setActivity g .free)

/-- The station that a probe has found. -/
def Station.probed (fits : Bool) (st : Station) : Station :=
  { st with counter := if fits then 4 else st.counter, mismatch := !fits }

theorem State.probeAnswer_eq (k : Byte) : s.probeAnswer g a k = (s.probed g a (k == (kindOf a).code)).dealtWith g a := rfl

/-- A probe answered: the station's kind and counter, the fault and the bits, and the station that came back. -/
theorem State.probed_eq {st : Station} (fits : Bool) (hst : s.station? g a = some st) (hlost : st.counter = 0)
    {faults : BitVec 24} (hfaults : faults = if fits = true then s.faults else s.faults ||| FaultFlag.kindMismatch.mask) :
    s.probed g a fits = { s with
      fsc := s.fsc.modify g fun f => { f with activity := .free, revived := if fits = true then f.revived ++ [a] else f.revived }
      image := s.image.modify g fun sts => sts.map fun x => if x.addr = a then x.probed fits else x
      faults := faults
      ports := s.noticed fun _ => (if fits = true ∨ st.mismatch = false then 0x02#8 else 0#8) |||
        (if faults = s.faults then 0#8 else 0x20#8) } := by
  cases fits with
  | false =>
    have hbits : (if st.mismatch = true then 0#8 else 0x02#8) =
        if false = true ∨ st.mismatch = false then 0x02#8 else 0#8 := by cases st.mismatch <;> rfl
    unfold State.probed
    rw [if_neg Bool.false_ne_true, State.setMismatch_eq (!false) hst hfaults, Bool.not_false, hbits]
    rfl
  | true =>
    have hlink : (s.setMismatch g a false).link g a = .lost := by
      unfold State.link
      rw [State.setMismatch_station _ hst]
      exact (Station.link_lost_iff _).2 hlost
    have hfaults : faults = s.faults := hfaults
    have hbits : ((if st.mismatch = false then 0#8 else 0x02#8) ||| if faults = s.faults then 0#8 else 0x20#8) |||
        (if (linkFor 4 != LinkState.lost) = true then NoticeBit.station.mask else 0#8) =
        (if true = true ∨ st.mismatch = false then 0x02#8 else 0#8) ||| if faults = s.faults then 0#8 else 0x20#8 := by
      have hnotice : (linkFor 4 != LinkState.lost) = true := by decide
      rw [hfaults, if_pos rfl, if_pos (Or.inl rfl), if_pos hnotice]
      cases st.mismatch <;> rfl
    have himage : (s.image.modify g fun sts => sts.map fun x => if x.addr = a then { x with mismatch := false } else x).modify g
        (fun sts => sts.map fun x => if x.addr = a then { x with counter := 4 } else x) =
        s.image.modify g fun sts => sts.map fun x => if x.addr = a then x.probed true else x := by
      rw [PerSeg.modify_modify]
      refine PerSeg.modify_congr ((List.map_map ..).trans (List.map_congr_left fun x _ => ?_))
      by_cases hx : x.addr = a <;> simp [hx, Station.probed]
    have hfsc : (s.fsc.modify g fun f => { f with revived := f.revived ++ [a] }).modify g (fun f => { f with activity := .free }) =
        s.fsc.modify g fun f => { f with
          activity := .free, revived := if true = true then f.revived ++ [a] else f.revived } := PerSeg.modify_modify ..
    have hports : ({ s with ports := s.noticed fun _ =>
          (if st.mismatch = false then 0#8 else 0x02#8) ||| if faults = s.faults then 0#8 else 0x20#8 } : State).noticed
        (fun _ => if (linkFor 4 != LinkState.lost) = true then NoticeBit.station.mask else 0#8) =
        s.noticed fun _ => (if true = true ∨ st.mismatch = false then 0x02#8 else 0#8) |||
          if faults = s.faults then 0#8 else 0x20#8 :=
      (State.noticed_noticed ..).trans (by rw [hbits])
    unfold State.probed
    rw [if_pos rfl, Bool.not_true, State.setCounter_notLost (.inl (by decide)), hlink, State.notifyIf_eq,
      State.setMismatch_eq false hst hfaults, ← himage, ← hfsc, ← hports]
    rfl

end

/-- Settles O52. -/
theorem identifyAnswered : Obligations.IdentifyAnswered := by
  intro s g a retries ends job chars h k st hbusy hst hhear hdata
  have hchars : chars ≠ [] := fun hnil => by
    rw [hnil, hear_nil] at hhear
    cases hhear
  have hexec : job ≠ .poll → exec (.responseTaken g chars) s =
      .next (((s.answer g { job := job, retries := retries, ends := ends } chars).arbitrate g).kickPorts) :=
    fun hjob => exec_responseTaken hbusy hjob hchars
  have hcode : (k == (kindOf a).code) = decide (k = (kindOf a).code) := by rw [Bool.eq_iff_iff]; simp
  refine ⟨?_, ?_, ?_⟩
  · rintro rfl
    have hconcluded := State.conclude_seen (k == (kindOf a).code) (s.setMismatch_station (!(k == (kindOf a).code)) hst)
    have hseen := (State.Onward.arbitrate.pass.seen a).trans hconcluded
    obtain ⟨st', hst', hsame⟩ := Option.map_eq_some_iff.1 hseen
    have hcounter : st'.counter = _ := congrArg (fun x => x.counter) hsame
    have hmismatch : st'.mismatch = _ := congrArg (fun x => x.mismatch) hsame
    dsimp only at hcounter hmismatch
    refine ⟨_, st', hexec nofun, ?_, fun hfits => ?_, fun hmisfits => ?_, fun b hb => ?_⟩
    · rw [State.station?_kickPorts, State.answer_discovery rfl hhear hdata]
      exact hst'
    · rw [hcounter, hmismatch, hcode, decide_eq_true hfits]
      exact ⟨rfl, rfl⟩
    · have hmisfit : (k == (kindOf a).code) = false := by rw [hcode, decide_eq_false hmisfits]
      have hkept : ∀ {f : FaultFlag}, ((s.setMismatch g a true).conclude g a false).hasFault f = true →
          ((s.answer g { job := .discovery a, retries := retries, ends := ends } chars).arbitrate g).kickPorts.hasFault f = true :=
        fun {f} hf => by
          rw [State.answer_discovery rfl hhear hdata, State.discoveryAnswer, hmisfit]
          have harbitrated := State.arbitrate_keeps_fault (i := f.bit) hf g
          simpa [State.hasFault] using harbitrated
      rw [hcounter, hmismatch, hmisfit]
      exact ⟨rfl, rfl, hkept (State.conclude_hasFault false (.inl (State.setMismatch_hasFault hst))),
        hkept (State.conclude_hasFault false (.inr ⟨rfl, rfl⟩))⟩
    · have hcalled := State.conclude_next (s := s.setMismatch g a (!(k == (kindOf a).code))) (g := g) (a := a)
        (k == (kindOf a).code) (b := b) (by simpa using hb)
      rw [State.answer_discovery rfl hhear hdata, State.discoveryAnswer, State.arbitrate_held fun _ hfree => by
        rw [hcalled] at hfree; cases hfree]
      unfold State.callOnSegment
      rw [(State.kickPorts_frame _).2.2.2.2.2.2.2.2.1, hcalled]
      rfl
  · rintro rfl hlost
    have hprobed : s.answer g { job := .probe a, retries := retries, ends := ends } chars =
        (s.probed g a (k == (kindOf a).code)).dealtWith g a := State.answer_probe rfl hhear hdata
    have hstation : (s.probed g a (k == (kindOf a).code)).station? g a = some (st.probed (k == (kindOf a).code)) := by
      rw [State.probed_eq _ hst hlost rfl]
      refine (State.station?_modStation (f := Station.probed (k == (kindOf a).code)) s g a).trans ?_
      rw [hst]
      rfl
    have hseen := ((State.Onward.dealtWith (s := s.probed g a (k == (kindOf a).code)) (g := g) a).trans .arbitrate).pass.seen a
    rw [hstation] at hseen
    obtain ⟨st', hst', hsame⟩ := Option.map_eq_some_iff.1 hseen
    have hcounter : st'.counter = if k == (kindOf a).code then 4 else st.counter := congrArg (fun x => x.counter) hsame
    have hmismatch : st'.mismatch = !(k == (kindOf a).code) := congrArg (fun x => x.mismatch) hsame
    refine ⟨_, st', hexec nofun, ?_, fun hfits => ?_, fun hmisfits => ?_⟩
    · rw [State.station?_kickPorts, hprobed]
      exact hst'
    · rw [hcounter, hmismatch, hcode, decide_eq_true hfits]
      exact ⟨rfl, rfl⟩
    · have hmisfit : (k == (kindOf a).code) = false := by rw [hcode, decide_eq_false hmisfits]
      rw [hcounter, hmismatch, hmisfit]
      refine ⟨hlost, rfl, ?_⟩
      have harbitrated := State.arbitrate_keeps_fault (i := FaultFlag.kindMismatch.bit)
        (State.dealtWith_keeps_fault (s := s.probed g a false) (State.setMismatch_hasFault (g := g) hst) g a) g
      rw [hprobed, hmisfit]
      simpa [State.hasFault] using harbitrated
  · rintro rfl hlost fits faults probed next
    have hprobed : s.answer g { job := .probe a, retries := retries, ends := ends } chars =
        (s.probed g a fits).dealtWith g a := by
      rw [State.answer_probe rfl hhear hdata, State.probeAnswer_eq, hcode]
    have hresult := State.probed_eq fits hst hlost (faults := faults) rfl
    have hmoved : ∀ n, (s.probed g a fits).modFsc g (fun f => { f with scanPosition := n }) = probed n := fun n => by
      rw [hresult]
      exact congrArg (fun fsc => { probed n with fsc := fsc }) (PerSeg.modify_modify s.fsc g
        (fun f => { f with activity := .free, revived := if fits = true then f.revived ++ [a] else f.revived })
        fun f => { f with scanPosition := n })
    have hpopulation : (s.probed g a fits).settings.population g = s.settings.population g := by rw [hresult]
    refine ⟨fun b hb => ?_, fun hnone => ?_⟩
    · rw [hexec nofun, hprobed, State.dealtWith_some (by rw [hpopulation]; exact hb), hmoved]
    · rw [hexec nofun, hprobed, State.dealtWith_none (by rw [hpopulation]; exact hnone), hmoved]

end Sys2Proof.Machine
end

section
/-! SET OVERRIDE (R128 to R131), RELEASE OVERRIDE (R132) and the expiry of an override record (R133). -/

namespace Sys2Proof.Machine

/-! ### Posts (R111) -/

theorem originSet_eq (origin : Option PortId) : originSet origin =
    { p0 := decide (origin = some .sp0), p1 := decide (origin = some .sp1)
      p2 := decide (origin = some .sp2), p3 := decide (origin = some .sp3) } := by
  cases origin with
  | none => rfl
  | some p => cases p <;> rfl

theorem Fields.over_eq (f e : Fields) : f.over e = {
    fan := if f.fan = Option.none then e.fan else f.fan
    valve := if f.valve = Option.none then e.valve else f.valve
    bypass := if f.bypass = Option.none then e.bypass else f.bypass } := by
  obtain ⟨fan, valve, bypass⟩ := f
  cases fan <;> cases valve <;> cases bypass <;> rfl

/-! ### The value and the index of a record (R127 to R129) -/

/-- A stored value as the number it is compared by. -/
theorem OutputValue.number_eq (v : OutputValue) : v.number = match v with
    | .fan n => (n : Int)
    | .valve .toOpen => 0
    | .valve .toClose => 1
    | .bypass n => n := by
  cases v with
  | valve c => cases c <;> rfl
  | _ => rfl

theorem OutputValue.word_number (v : OutputValue) : v.word = signedWord v.number := by
  cases v with
  | fan n => exact (BitVec.ofInt_natCast 16 n).symm
  | bypass n => exact (BitVec.ofInt_natCast 16 n).symm
  | valve c => exact (BitVec.ofInt_natCast 16 c.code).symm

theorem overrideValue_valve (v : Int) : overrideValue .valve v = none ↔ v ≠ 0 ∧ v ≠ 1 := by
  unfold overrideValue
  by_cases h0 : v = 0
  · simp [h0]
  · by_cases h1 : v = 1 <;> simp [h0, h1]

theorem overrideValue_valve_some {v : Int} {x : OutputValue} (h : overrideValue .valve v = some x) :
    x = .valve (if v = 0 then .toOpen else .toClose) := by
  unfold overrideValue at h
  dsimp only at h
  split at h
  · next h0 => rw [if_pos h0]; exact (Option.some.inj h).symm
  · next h0 =>
    rw [if_neg h0]
    split at h
    · exact (Option.some.inj h).symm
    · cases h

theorem freeIndex_none {rs : List OverrideRecord} (h : ∀ i, i < 16 → ∃ x ∈ rs, x.index = i) : freeIndex rs = none := by
  refine List.find?_eq_none.2 fun i hi hfree => ?_
  obtain ⟨x, hx, hindex⟩ := h i (List.mem_range.1 hi)
  have hne := List.all_eq_true.1 hfree x hx
  simp [hindex] at hne

theorem freeIndex_lowest {rs : List OverrideRecord} {i : Nat} (hi : i < 16) (hfree : ∀ x ∈ rs, x.index ≠ i)
    (hbelow : ∀ j, j < i → ∃ x ∈ rs, x.index = j) : freeIndex rs = some i := by
  refine List.find?_range_eq_some.2 ⟨?_, List.mem_range.2 hi, fun j hj => ?_⟩
  · exact List.all_eq_true.2 fun x hx => by simpa using hfree x hx
  · obtain ⟨x, hx, hindex⟩ := hbelow j hj
    rw [Bool.not_eq_true']
    exact List.all_eq_false.2 ⟨x, hx, by simp [hindex]⟩

theorem OverrideRecord.reply_eq (r : OverrideRecord) (b : OverrideBody) : r.reply b =
    (if r.value.number = b.value ∧ r.hold = b.hold then 0x00#8 else 0x01#8) ::
      (byteOf r.index :: (be16 (signedWord r.value.number) ++ be16 (wordOf r.hold) ++ [byteOf r.owner.number])) := by
  have hclamped : outcomeByte (r.value.number != b.value || r.hold != b.hold) =
      if r.value.number = b.value ∧ r.hold = b.hold then 0x00#8 else 0x01#8 := by
    have hdiffers : (r.value.number != b.value || r.hold != b.hold) = true ↔ ¬(r.value.number = b.value ∧ r.hold = b.hold) := by
      simp only [Bool.or_eq_true, bne_iff_ne]
      tauto
    unfold outcomeByte
    by_cases h : r.value.number = b.value ∧ r.hold = b.hold
    · rw [if_pos h, if_neg fun hd => hdiffers.1 hd h, doneByte]
    · rw [if_neg h, if_pos (hdiffers.2 h), clampedByte]
  rw [OverrideRecord.reply, hclamped, OutputValue.word_number]

section
variable {s : State} {p : PortId} {t : Telegram} {r : Resolved} {v : OutputValue} {b : OverrideBody}

/-! ### Placing a record -/

theorem State.mayTake_iff {owner : PortId} : s.mayTake p owner = true ↔
    owner = p ∨ (s.cls p = .supervisor ∧ s.cls owner ≠ .supervisor) := by
  simp [State.mayTake]

theorem State.tellDisplaced_eq (owner : PortId) : s.tellDisplaced p owner =
    { s with ports := s.noticed fun q => if q = owner ∧ q ≠ p then 0x08#8 else 0#8 } := by
  unfold State.tellDisplaced
  split
  · next h =>
    have hnone : (fun q => if q = owner ∧ q ≠ p then 0x08#8 else 0#8) = fun _ : PortId => (0#8 : Byte) :=
      funext fun q => if_neg fun hq => hq.2 (hq.1.trans h)
    rw [hnone, State.noticed_none]
  · next h =>
    have hone : (fun q => if q = owner ∧ q ≠ p then 0x08#8 else 0#8) = fun q => if q = owner then NoticeBit.override.mask else 0#8 :=
      funext fun q => if_congr ⟨fun hq => hq.1, fun hq => ⟨hq, fun hp => h (hq ▸ hp)⟩⟩ rfl rfl
    rw [State.notify_eq, hone]

theorem State.deliverSet_eq (x : OverrideRecord) : s.deliverSet x = { s with
    buffer := if s.answers x.seg x.station then s.buffer.modify x.seg (mergePost x.station x.value.fields (some x.owner))
      else s.buffer } := by
  unfold State.deliverSet
  split <;> rfl

theorem State.placeOverride_full (hnone : s.override? r.seg r.station v.output = none)
    (h : ∀ i, i < 16 → ∃ x ∈ s.overrides, x.index = i) : s.placeOverride p r v b = s.refuse p .full := by
  rw [State.placeOverride, hnone]
  dsimp only
  rw [freeIndex_none h]

theorem State.placeOverride_new {i : Nat} (hnone : s.override? r.seg r.station v.output = none)
    (hfree : freeIndex s.overrides = some i) : s.placeOverride p r v b =
      State.arbitrate { s with
        overrides := insertRecord (s.newRecord p r v (clampHold b.hold) i) s.overrides
        buffer := if s.answers r.seg r.station then s.buffer.modify r.seg (mergePost r.station v.fields (some p)) else s.buffer
        ports := s.ports.modify p (Port.form ((s.newRecord p r v (clampHold b.hold) i).reply b) .none) } r.seg := by
  rw [State.placeOverride, hnone]
  dsimp only
  rw [hfree]
  dsimp only
  rw [State.deliverSet_eq]
  rfl

theorem State.placeOverride_busy {old : OverrideRecord} (hold : s.override? r.seg r.station v.output = some old)
    (h : s.mayTake p old.owner = false) : s.placeOverride p r v b = s.refuse p .busy := by
  rw [State.placeOverride, hold]
  exact if_neg (by rw [h]; exact Bool.false_ne_true)

theorem State.placeOverride_replaces {old : OverrideRecord} (hold : s.override? r.seg r.station v.output = some old)
    (h : s.mayTake p old.owner = true) : s.placeOverride p r v b =
      State.arbitrate { s with
        overrides := replaceRecord (s.newRecord p r v (clampHold b.hold) old.index) s.overrides
        buffer := if s.answers r.seg r.station then s.buffer.modify r.seg (mergePost r.station v.fields (some p)) else s.buffer
        ports := (s.noticed fun q => if q = old.owner ∧ q ≠ p then 0x08#8 else 0#8).modify p
          (Port.form ((s.newRecord p r v (clampHold b.hold) old.index).reply b) .none) } r.seg := by
  rw [State.placeOverride, hold]
  dsimp only
  rw [if_pos h, State.tellDisplaced_eq, State.deliverSet_eq]
  rfl

theorem State.setOverride_found (hb : bodySetOverride t.body = some b) (hr : s.resolveOverride p b.address = .found r)
    {o : OutputId} (ho : r.target = .output o) : s.setOverride p t = match overrideValue o b.value with
      | some v => s.placeOverride p r v b
      | none => s.refuse p .malformed := by
  rw [State.setOverride, hb]
  dsimp only
  rw [hr]
  dsimp only
  rw [ho] <;> rfl

end

/-- Settles O38. -/
theorem setOverridePlaces : Obligations.SetOverridePlaces := by
  refine ⟨fun a f origin => ?posts, fun s p t b h hk hb => ?_⟩
  case posts =>
    intro origins
    have horigins : originSet origin = origins := originSet_eq origin
    rw [← horigins]
    refine ⟨fun es hes => mergePost_joins hes f origin, fun before after e hbefore hstation hwaiting => ?_⟩
    rw [mergePost_merges hbefore hstation hwaiting, Fields.over_eq]
  intro answer
  have hexec := exec_setOverride_ready h hk
  have hunresolved : ∀ x, s.resolveOverride p b.address = x → (∀ r, x ≠ .found r) → s.setOverride p t = s.unresolved p x := by
    intro x hx hnot
    rw [State.setOverride, hb]
    dsimp only
    rw [hx]
    cases x with
    | found r => exact absurd rfl (hnot r)
    | _ => rfl
  refine ⟨fun hx => h.onlyAnswers hexec (hunresolved _ hx nofun), fun hx => h.onlyAnswers hexec (hunresolved _ hx nofun),
    fun m hx => h.onlyAnswers hexec (hunresolved _ hx nofun), fun r hr => ⟨fun q hq => ?_, fun o ho => ⟨?_, fun v hv => ?_⟩⟩⟩
  · refine h.onlyAnswers hexec ?_
    rw [State.setOverride, hb]
    dsimp only
    rw [hr]
    dsimp only
    rw [hq]
    rfl
  · rintro rfl h0 h1
    refine h.onlyAnswers hexec ?_
    rw [State.setOverride_found hb hr ho, (overrideValue_valve b.value).2 ⟨h0, h1⟩]
    rfl
  intro hold placed buffer number reply
  have hplace : s.setOverride p t = s.placeOverride p r v b := by
    rw [State.setOverride_found hb hr ho, hv]
  have houtput : v.output = o := overrideValue_output hv
  have hnumber : v.number = number := v.number_eq
  have hreply : ∀ i, (s.newRecord p r v (clampHold b.hold) i).reply b = reply i := fun i => by
    rw [OverrideRecord.reply_eq]
    change (if v.number = b.value ∧ hold = b.hold then _ else _) :: byteOf i :: (be16 (signedWord v.number) ++ _ ++ _) = _
    rw [hnumber]
    rfl
  subst houtput
  refine ⟨fun ho => ?_, fun ho => ?_, fun ho => ?_, State.answers_iff, fun hnone hfull => ?_, fun hnone i hi hfree hbelow => ?_,
    fun old hold => ⟨fun hmay => ?_, fun hmay => ?_⟩⟩
  · rw [ho] at hv; exact (Option.some.inj hv).symm
  · rw [ho] at hv; exact (Option.some.inj hv).symm
  · rw [ho] at hv; exact overrideValue_valve_some hv
  · refine h.onlyAnswers hexec ?_
    rw [hplace, State.placeOverride_full hnone hfull]
    rfl
  · rw [hexec, hplace, State.placeOverride_new hnone (freeIndex_lowest hi hfree hbelow), hreply]
    exact ⟨_, rfl, rfl, h.answered_of_noticed (bits := fun _ => 0#8) (by rw [State.noticed_none])⟩
  · refine h.onlyAnswers hexec ?_
    rw [hplace, State.placeOverride_busy hold (by rw [← Bool.not_eq_true, State.mayTake_iff]; exact hmay)]
    rfl
  · rw [hexec, hplace, State.placeOverride_replaces hold (State.mayTake_iff.2 hmay), hreply]
    exact ⟨_, rfl, rfl, h.answered_of_noticed rfl⟩

/-! ### Handing back (R104) -/

section
variable {s : State} {g : SegId} {a : Nat} {o : OutputId}

theorem OutputValue.mem_recordPost (c : StationCommands) (v : OutputValue) :
    (c.recordPost v.fields).postedValue v.output = some v := by
  rw [StationCommands.recordPost_eq]
  cases v <;> rfl

theorem StationCommands.forget_postedValue (c : StationCommands) (o : OutputId) : (c.forget o).postedValue o = none := by
  cases o <;> rfl

theorem StationCommands.allocatorValue_output {c : StationCommands} {v : OutputValue} (h : c.allocatorValue o = some v) :
    v.output = o := by
  cases o
  all_goals
    obtain ⟨x, -, rfl⟩ := Option.map_eq_some_iff.1 h
    rfl

theorem State.modCommands_commands {F : StationCommands → StationCommands} (hF : ∀ c, (F c).addr = c.addr) {c : StationCommands}
    (hc : s.commands? g a = some c) : (s.modCommands g a F).commands g a = F c := by
  have hmapped : (s.modCommands g a F).commands? g a = (s.commands? g a).map fun c => if c.addr = a then F c else c :=
    State.modAlloc_commands (fun c => by split <;> simp [hF]) rfl a
  rw [State.commands, hmapped, hc]
  exact if_pos (State.commands?_addr hc)

theorem State.repost_postedValue : ((s.repost g a o).commands g a).postedValue o = none := by
  cases hc : s.commands? g a with
  | some c =>
    rw [State.repost, State.modCommands_commands (fun c => by cases o <;> rfl) hc]
    exact c.forget_postedValue o
  | none =>
    have hnone : (s.repost g a o).commands? g a = none := by
      refine (State.modAlloc_commands (F := fun c => if c.addr = a then c.forget o else c) (fun c => ?_) rfl a).trans ?_
      · split
        · cases o <;> rfl
        · rfl
      · rw [hc]; rfl
    rw [State.commands, hnone]
    cases o <;> rfl

/-- An output handed back: what its allocator wishes is posted, or what was last posted is unknown. -/
theorem State.handBack_handedBack : s.HandedBack (s.handBack g a o) g a o := by
  unfold State.HandedBack State.handBack
  cases hv : (s.commands g a).allocatorValue o with
  | none => exact ⟨rfl, State.repost_postedValue⟩
  | some v =>
    dsimp only
    by_cases hanswers : s.answers g a = true
    · rw [if_pos hanswers, if_pos hanswers]
      refine ⟨rfl, ?_⟩
      obtain rfl := StationCommands.allocatorValue_output hv
      cases hc : s.commands? g a with
      | none =>
        rw [State.commands, hc] at hv
        cases v <;> cases hv
      | some c =>
        have hcommands : (s.allocatorPost g a v.fields).commands g a = c.recordPost v.fields :=
          State.modCommands_commands (s := s.post g a v.fields none) (F := fun c => c.recordPost v.fields) (fun c => rfl) hc
        rw [hcommands]
        exact v.mem_recordPost c
    · rw [if_neg hanswers, if_neg hanswers]
      exact ⟨rfl, State.repost_postedValue⟩

theorem State.handBack_eq : s.handBack g a o = { s with buffer := (s.handBack g a o).buffer, alloc := (s.handBack g a o).alloc } := by
  unfold State.handBack
  split
  · split <;> rfl
  · rfl

/-- Handing back looks at what was posted, the allocator and the image alone. -/
theorem State.HandedBack.congr {u s' u' : State} (h : s.HandedBack u g a o) (hs : s'.alloc = s.alloc ∧ s'.buffer = s.buffer ∧
    s'.image = s.image) (hu : u'.alloc = u.alloc ∧ u'.buffer = u.buffer) : s'.HandedBack u' g a o := by
  obtain ⟨halloc, hbuffer, himage⟩ := hs
  obtain ⟨kalloc, kbuffer⟩ := hu
  unfold State.HandedBack State.commands State.commands? at h ⊢
  rw [halloc, hbuffer, kalloc, kbuffer, State.answers_congr himage]
  exact h

theorem State.removeRecord_eq (r : OverrideRecord) : s.removeRecord r = { s with
    overrides := s.overrides.filter fun x => x.index != r.index
    buffer := (s.removeRecord r).buffer, alloc := (s.removeRecord r).alloc } := State.handBack_eq ..

theorem State.removeRecord_handedBack (r : OverrideRecord) :
    s.HandedBack (s.removeRecord r) r.seg r.station r.value.output :=
  (State.handBack_handedBack (s := s.setOverrides (s.overrides.filter fun x => x.index != r.index))).congr ⟨rfl, rfl, rfl⟩ ⟨rfl, rfl⟩

variable {p : PortId} {t : Telegram} {r : Resolved}

theorem State.releaseOutput_removes {old : OverrideRecord} (hold : s.override? r.seg r.station o = some old)
    (h : old.owner = p ∨ s.cls p = .supervisor) : s.releaseOutput p r o = State.arbitrate { s with
      overrides := s.overrides.filter fun x => x.index != old.index
      buffer := (s.removeRecord old).buffer, alloc := (s.removeRecord old).alloc
      ports := (s.noticed fun q => if q = old.owner ∧ q ≠ p then 0x08#8 else 0#8).modify p (Port.form [0x00#8] .none) } r.seg := by
  rw [State.releaseOutput, hold]
  dsimp only
  rw [if_pos h, State.tellDisplaced_eq, State.removeRecord_eq]
  rfl

theorem State.releaseOverride_found {w : Word} (hb : body2 t.body = some w) (hr : s.resolveOverride p w = .found r) :
    s.releaseOverride p t = match r.target with
      | .output o => s.releaseOutput p r o
      | .point _ => s.refuse p .malformed := by
  rw [State.releaseOverride, hb]
  dsimp only
  rw [hr] <;> rfl

end

/-- Settles O39: both remove the record and hand its output back. -/
theorem releaseAndExpiryHandBack : Obligations.ReleaseAndExpiryHandBack := by
  intro s
  refine ⟨fun p t w h hk hb => ?refused, fun p t w r o h hk hb hr ho => ?released, fun i moment hnone => ?_, fun i moment r hr => ?_⟩
  case refused =>
    have hexec := exec_releaseOverride_ready h hk
    have hunresolved : ∀ x, s.resolveOverride p w = x → (∀ r, x ≠ .found r) → s.releaseOverride p t = s.unresolved p x := by
      intro x hx hnot
      rw [State.releaseOverride, hb]
      dsimp only
      rw [hx]
      cases x with
      | found r => exact absurd rfl (hnot r)
      | _ => rfl
    refine ⟨fun hx => h.onlyAnswers hexec (hunresolved _ hx nofun), fun hx => h.onlyAnswers hexec (hunresolved _ hx nofun),
      fun m hx => h.onlyAnswers hexec (hunresolved _ hx nofun), fun r q hr hq => h.onlyAnswers hexec ?_⟩
    rw [State.releaseOverride_found hb hr, hq]
    rfl
  case released =>
    have hexec := exec_releaseOverride_ready h hk
    have hrelease : s.releaseOverride p t = s.releaseOutput p r o := by rw [State.releaseOverride_found hb hr, ho]
    refine ⟨fun hnone => h.onlyAnswers hexec ?_, fun old hold => ⟨fun howner hcls => h.onlyAnswers hexec ?_, fun hmay => ?_⟩⟩
    · rw [hrelease, State.releaseOutput, hnone]
      rfl
    · rw [hrelease, State.releaseOutput, hold]
      exact if_neg fun hmay => hmay.elim howner hcls
    · obtain ⟨-, hseg, hstation, houtput⟩ := State.override?_some hold
      have hback := s.removeRecord_handedBack old
      rw [hseg, hstation, houtput] at hback
      rw [hexec, hrelease, State.releaseOutput_removes hold hmay]
      exact ⟨_, rfl, rfl, hback.congr ⟨rfl, rfl, rfl⟩ ⟨rfl, rfl⟩, h.answered_of_noticed rfl⟩
  · have hfind : s.overrides.find? (fun r => r.index == i) = none :=
      List.find?_eq_none.2 fun x hx hindex => hnone x hx (beq_iff_eq.1 hindex)
    change execOverrideExpiry ⟨i, moment⟩ s = _
    rw [execOverrideExpiry, hfind]
  · have hindex : r.index = i := beq_iff_eq.1 (List.find?_some (p := fun x : OverrideRecord => x.index == i) hr)
    have hexec : exec (.overrideExpiry ⟨i, moment⟩) s = if s.runOut r.deadline moment then
        .next ((((((s.advanceTo moment).removeRecord r).notify .override r.owner)).arbitrate r.seg).kickPorts)
      else .next s := by
      change execOverrideExpiry ⟨i, moment⟩ s = _
      rw [execOverrideExpiry, hr]
    refine ⟨fun hearly => ?_, fun hdue => ?_⟩
    · rw [hexec]
      exact if_neg (by rw [State.runOut_iff]; exact Nat.not_le.2 hearly)
    · refine ⟨_, hexec.trans (if_pos (by rw [State.runOut_iff]; exact hdue)), ?_, ?_⟩
      · rw [State.notify_eq, State.removeRecord_eq, ← hindex]
        rfl
      · rw [State.notify_eq]
        exact ((s.advanceTo moment).removeRecord_handedBack r).congr ⟨rfl, rfl, rfl⟩ ⟨rfl, rfl⟩

end Sys2Proof.Machine
end

section
/-! The answer to a WRITE (R113, R114): what it leaves of the settle list, the marks and the command records. -/

namespace Sys2Proof.Machine

/-! ### Notice bits -/

theorem and_eq_of_or {x b m : Byte} (h : x &&& m = m ∨ b &&& m = m) : (x ||| b) &&& m = m := by
  refine BitVec.eq_of_getLsbD_eq fun i hi => ?_
  have hbit : ∀ {y : Byte}, y &&& m = m → (y.getLsbD i && m.getLsbD i) = m.getLsbD i := fun {y} hy => by
    rw [← BitVec.getLsbD_and, hy]
  rw [BitVec.getLsbD_and, BitVec.getLsbD_or]
  rcases h with h | h
  all_goals
    have hy := hbit h
    revert hy
    cases x.getLsbD i <;> cases b.getLsbD i <;> cases m.getLsbD i <;> decide

section
variable {s u : State} {g : SegId} {a : Nat} {p : PortId}

/-- A bit that is set stays set while nothing is sent. -/
theorem State.Noticed.keeps (h : s.Noticed u) {m : Byte} (hset : (s.ports.get p).notices &&& m = m) :
    (u.ports.get p).notices &&& m = m := by
  obtain ⟨-, bits, hports⟩ := h
  rw [hports, State.noticed_get]
  split
  · exact and_eq_of_or (.inl hset)
  · exact hset

theorem State.notifySet_sets {b : NoticeBit} {ps : PortSet} (hp : ps.get p = true) (henabled : (s.settings.port.get p).notices = true) :
    ((s.notifySet b ps).ports.get p).notices &&& b.mask = b.mask := by
  rw [State.notifySet_eq]
  dsimp only
  rw [State.noticed_get, if_pos henabled, if_pos hp]
  exact and_eq_of_or (.inr (BitVec.and_self ..))

/-! ### The counter of a right answer -/

theorem linkFor_lost_iff {c : Nat} : linkFor c = .lost ↔ c = 0 := by
  unfold linkFor
  split
  · simp; omega
  · split <;> simp_all

/-- A right answer puts the counter up, with the STATION bits of a changed link state. -/
theorem State.countGood_eq : s.countGood g a = (s.modStation g a fun st => { st with counter := min 15 (s.counter g a + 1) }).notifyIf
    (linkFor (min 15 (s.counter g a + 1)) != s.link g a) .station :=
  State.setCounter_notLost (.inl fun h => by rw [linkFor_lost_iff] at h; omega)

theorem State.countGood_others : (s.countGood g a).fsc = s.fsc ∧ (s.countGood g a).buffer = s.buffer ∧
    (s.countGood g a).alloc = s.alloc ∧ (s.countGood g a).fences = s.fences ∧ (s.countGood g a).overrides = s.overrides ∧
    (s.countGood g a).faults = s.faults := by
  rw [State.countGood_eq, State.notifyIf_eq]
  exact ⟨rfl, rfl, rfl, rfl, rfl, rfl⟩

theorem State.countGood_station : (s.countGood g a).station? g a =
    (s.station? g a).map fun st => { st with counter := min 15 (st.counter + 1) } := by
  have hstation : (s.countGood g a).station? g a =
      (s.station? g a).map fun st => { st with counter := min 15 (s.counter g a + 1) } := by
    rw [State.countGood_eq, State.notifyIf_eq]
    exact State.station?_modStation s g a
  rw [hstation]
  cases h : s.station? g a with
  | none => rfl
  | some st => simp [State.counter, h]

/-- The part as the answer to a WRITE ends its call. -/
def State.countedGood (s : State) (g : SegId) (a : Nat) : State := (s.countGood g a).setActivity g .free

theorem State.countedGood_frame : (s.countedGood g a).buffer = s.buffer ∧ (s.countedGood g a).fences = s.fences ∧
    (s.countedGood g a).commands? g a = s.commands? g a ∧ (s.countedGood g a).faults = s.faults ∧
    (s.countedGood g a).settle = s.settle ∧ (s.countedGood g a).settings = s.settings ∧ (s.countedGood g a).now = s.now := by
  rw [State.countedGood, State.countGood_eq, State.notifyIf_eq]
  exact ⟨rfl, rfl, rfl, rfl, rfl, rfl, rfl⟩

/-! ### What a WRITE carried -/

theorem Fields.applied_values (f : Fields) (a : Nat) : (f.applied (kindOf a)).values = match kindOf a with
    | .unit => (f.fan.map OutputValue.fan).toList ++ (f.valve.map OutputValue.valve).toList
    | .loop => (f.bypass.map OutputValue.bypass).toList
    | .ambient => [] := by
  cases kindOf a <;> simp [Fields.applied, Fields.values, Fields.get?, Fields.none]

/-- Some fields have an output where one of their values is of it. -/
theorem Fields.has_eq_any (f : Fields) (o : OutputId) : f.has o = f.values.any fun v => v.output == o := by
  obtain ⟨fan, valve, bypass⟩ := f
  cases o <;> cases fan <;> cases valve <;> cases bypass <;> rfl

theorem StationCommands.recordWrite_writtenValue {c : StationCommands} {f : Fields} {v : OutputValue} (hv : v ∈ f.values) :
    (c.recordWrite f).writtenValue v.output = some v := by
  rw [Fields.mem_values] at hv
  cases v
  all_goals
    obtain ⟨x, hx, hxv⟩ := Option.map_eq_some_iff.1 hv
    cases hxv
    simp [StationCommands.recordWrite, StationCommands.writtenValue, OutputValue.output, CommandRecord.write, hx]

theorem StationCommands.forgetFields_postedValue {c : StationCommands} {f : Fields} {o : OutputId} (h : f.has o = true) :
    (c.forgetFields f).postedValue o = none := by
  obtain ⟨fan, valve, bypass⟩ := f
  cases o
  all_goals
    simp only [Fields.has, Fields.get?, Option.isSome_map] at h
    simp [StationCommands.forgetFields, StationCommands.postedValue, h, CommandRecord.forget]

/-- The command record of a station by a change that keeps it for its station. -/
theorem State.modCommands_commands? {F : StationCommands → StationCommands} (hF : ∀ c, (F c).addr = c.addr) :
    (s.modCommands g a F).commands? g a = (s.commands? g a).map F := by
  refine (State.modAlloc_commands (F := fun c => if c.addr = a then F c else c) (fun c => by split <;> simp [hF]) rfl a).trans ?_
  cases hc : s.commands? g a with
  | none => rfl
  | some c => exact congrArg some (if_pos (State.commands?_addr hc))

theorem State.commands_congr (h : u.alloc.get g = s.alloc.get g) : u.commands g a = s.commands g a := by
  unfold State.commands State.commands?
  rw [h]

end

section
variable {s : State} {g : SegId} {a : Nat} {e : Entry} {es : List Entry} {sent : Fields}

/-! ### The WRITE accepted -/

theorem State.freshItems_stored (f : Fields) (marks : PortSet) :
    (s.freshItems g a f marks).map (fun i => (i.station, i.value, i.sentAt, i.deadline)) =
      f.values.map fun v => (a, v, s.now, s.now + 1000 * s.settings.settleTimeout) := by
  rw [State.freshItems, List.map_map]
  rfl

theorem State.freshItems_marks {f : Fields} {marks : PortSet} {i : SettleItem} (hi : i ∈ s.freshItems g a f marks) (p : PortId) :
    i.marks.get p = (marks.get p || (s.settle.get g).any fun x =>
      x.station == a && x.value.output == i.value.output && x.marks.get p) := by
  obtain ⟨v, -, rfl⟩ := List.mem_map.1 hi
  dsimp only
  rw [PortSet.union_get, replacedMarks_get]
  rfl

variable (hb : s.buffer.get g = e :: es) (he : e.state = .inFlight sent)
include hb he

theorem State.writeGood_outputs : (s.writeGood g a).buffer.get g = es ∧ (s.writeGood g a).fsc = s.fsc ∧
    (s.writeGood g a).settle.get g = (s.keptItems g a (sent.applied (kindOf a))).drop (s.excessItems g a (sent.applied (kindOf a))) ++
      s.freshItems g a (sent.applied (kindOf a)) e.marks ∧
    (s.writeGood g a).faults = if (s.keptItems g a (sent.applied (kindOf a))).take (s.excessItems g a (sent.applied (kindOf a))) = [] then
      s.faults else s.faults ||| FaultFlag.settleTimeout.mask := by
  rw [State.writeGood_eq hb he]
  dsimp only
  rw [State.failMarks_completeFences_eq]
  refine ⟨PerSeg.get_modify_self .., by simp, PerSeg.get_modify_self .., ?_⟩
  simp only [State.modSettle_faults, State.modBuffer_faults, State.setFaultIf_faults, State.modCommands_frame]
  cases (s.keptItems g a (sent.applied (kindOf a))).take (s.excessItems g a (sent.applied (kindOf a))) <;> rfl

theorem State.writeGood_fails {i : SettleItem} (hi : i ∈ (s.keptItems g a (sent.applied (kindOf a))).take
      (s.excessItems g a (sent.applied (kindOf a)))) {p : PortId} (hmark : i.marks.get p = true)
    (hpending : ((s.fences.get p).get g).isPending = true) :
    ((s.writeGood g a).fences.get p).get g = .pending true ∨ ((s.writeGood g a).fences.get p).get g = .incomplete := by
  rw [State.writeGood_eq hb he]
  dsimp only
  rw [State.failMarks_completeFences_failed (by rw [unionMarks_get]; exact List.any_eq_true.2 ⟨i, hi, hmark⟩) (by simpa using hpending)]
  split
  · exact .inl rfl
  · exact .inr rfl

theorem State.writeGood_written {v : OutputValue} (hv : v ∈ (sent.applied (kindOf a)).values) (hc : s.commands? g a ≠ none) :
    ((s.writeGood g a).commands g a).writtenValue v.output = some v := by
  obtain ⟨c, hc⟩ := Option.ne_none_iff_exists'.1 hc
  have halloc : (s.writeGood g a).alloc.get g = (s.modCommands g a fun c => c.recordWrite (sent.applied (kindOf a))).alloc.get g := by
    rw [State.writeGood_eq hb he]
    dsimp only
    rw [State.failMarks_completeFences_eq]
    simp
  rw [State.commands_congr halloc, State.commands, State.modCommands_commands? (F := fun c => c.recordWrite _) fun _ => rfl, hc]
  exact StationCommands.recordWrite_writtenValue hv

omit hb he

/-! ### The WRITE refused -/

theorem State.setMode_station (m : Mode) : (s.setMode g a m).station? g a = (s.station? g a).map fun st => { st with mode := m } := by
  unfold State.setMode
  cases hst : s.station? g a with
  | none => exact hst
  | some st =>
    dsimp only
    split
    · next hm =>
      rw [hst, ← hm]
      rfl
    · have hset : ((s.modStation g a fun st => { st with mode := m }).notifyAll .station).station? g a =
          some { st with mode := m } := by
        rw [State.notifyAll_eq]
        refine (State.station?_modStation s g a).trans ?_
        rw [hst]
        rfl
      split
      · refine (State.station?_congr ?_ a).trans hset
        simp
      · exact hset

/-- The part as a refused WRITE leaves it, but for the marks of its entry. -/
def State.refused (s : State) (g : SegId) (a : Nat) (e : Entry) (es : List Entry) : State :=
  ((((s.setMode g a .inLocal).modCommands g a fun c => c.forgetFields e.posted).overridesWaitFor g a
    e.posted).notifySet .override e.origins).modBuffer g fun _ => es

include hb he

theorem State.writeRefused_refused : s.writeRefused g a = ((s.refused g a e es).failMarks g e.marks).completeFences g := by
  rw [State.writeRefused_eq hb he]
  dsimp only
  rw [State.modSettle_keep _ g (by simp)]
  rfl

theorem State.writeRefused_outputs : (s.writeRefused g a).buffer.get g = es ∧ (s.writeRefused g a).fsc = s.fsc ∧
    (s.writeRefused g a).settle = s.settle ∧
    (s.writeRefused g a).station? g a = (s.station? g a).map fun st => { st with mode := .inLocal } := by
  rw [State.writeRefused_refused hb he, State.failMarks_completeFences_eq]
  refine ⟨PerSeg.get_modify_self .., by simp [State.refused], by simp [State.refused], ?_⟩
  rw [← State.setMode_station]
  exact State.station?_congr (by simp [State.refused]) a

theorem State.writeRefused_posted {o : OutputId} (ho : e.posted.has o = true) :
    ((s.writeRefused g a).commands g a).postedValue o = none := by
  have halloc : (s.writeRefused g a).alloc.get g =
      ((s.setMode g a .inLocal).modCommands g a fun c => c.forgetFields e.posted).alloc.get g := by
    rw [State.writeRefused_refused hb he, State.failMarks_completeFences_eq]
    simp [State.refused]
  rw [State.commands_congr halloc, State.commands, State.modCommands_commands? (F := fun c => c.forgetFields _) fun _ => rfl]
  cases (s.setMode g a .inLocal).commands? g a with
  | none => cases o <;> rfl
  | some c => exact StationCommands.forgetFields_postedValue ho

theorem State.writeRefused_fails {p : PortId} (hmark : e.marks.get p = true) (hpending : ((s.fences.get p).get g).isPending = true) :
    ((s.writeRefused g a).fences.get p).get g = .pending true ∨ ((s.writeRefused g a).fences.get p).get g = .incomplete := by
  rw [State.writeRefused_refused hb he, State.failMarks_completeFences_failed hmark (by simpa [State.refused] using hpending)]
  split
  · exact .inl rfl
  · exact .inr rfl

theorem State.writeRefused_tells {p : PortId} (horigin : e.origins.get p = true) (henabled : (s.settings.port.get p).notices = true) :
    ((s.writeRefused g a).ports.get p).notices &&& 0x08#8 = 0x08#8 := by
  rw [State.writeRefused_refused hb he]
  have hset : ((s.refused g a e es).ports.get p).notices &&& 0x08#8 = 0x08#8 :=
    State.notifySet_sets (b := .override) horigin (by simpa using henabled)
  exact State.Noticed.keeps (s := s.refused g a e es) ⟨by simp, _, by rw [State.failMarks_completeFences_eq]⟩ hset

end

/-- Settles O51. -/
theorem writeAnswered : Obligations.WriteAnswered := by
  intro s g a retries ends chars h e es sent hbusy hb hstation he hhear hdata
  have hchars : chars ≠ [] := fun hnil => by
    rw [hnil, hear_nil] at hhear
    cases hhear
  have hanswer : s.answer g { job := .write a, retries := retries, ends := ends } chars =
      if h.accept then (s.countedGood g a).writeGood g a else (s.countedGood g a).writeRefused g a := by
    rw [State.answer]
    dsimp only
    rw [hhear]
    dsimp only
    rw [hdata] <;> rfl
  obtain ⟨hcb, hfences, hcommands, hfaults, hsettle, hsettings, hnow⟩ := s.countedGood_frame (g := g) (a := a)
  have hfree : ((s.countedGood g a).fsc.get g).activity = .free := by
    rw [show (s.countedGood g a).fsc.get g = _ from PerSeg.get_modify_self ..]
  have hb : (s.countedGood g a).buffer.get g = e :: es := by rw [hcb, hb]
  rw [exec_responseTaken hbusy nofun hchars, hanswer]
  cases haccept : h.accept with
  | true =>
    obtain ⟨hbuffer, hfsc, hlist, hflags⟩ := State.writeGood_outputs (a := a) hb he
    refine ⟨_, rfl, hbuffer, by rw [if_pos rfl, hfsc]; exact hfree, fun _ => ?_, nofun⟩
    intro values kept excess
    have hvalues : (sent.applied (kindOf a)).values = values := Fields.applied_values sent a
    have hkept : (s.countedGood g a).keptItems g a (sent.applied (kindOf a)) = kept := by
      unfold State.keptItems
      simp only [hsettle, Fields.has_eq_any, hvalues]
      rfl
    have hexcess : (s.countedGood g a).excessItems g a (sent.applied (kindOf a)) = excess := by
      rw [State.excessItems, hkept, hvalues]
      rfl
    rw [if_pos rfl]
    refine ⟨⟨_, hkept ▸ hexcess ▸ hlist, ?_, fun i hi p => ?_⟩, ?_, fun i hi p hmark hpending => ?_, fun v hv hc => ?_⟩
    · rw [State.freshItems_stored, hvalues, hnow, hsettings]
    · rw [State.freshItems_marks hi, hsettle]
    · rw [hflags, hkept, hexcess, hfaults]
    · exact State.writeGood_fails hb he (by rw [hkept, hexcess]; exact hi) hmark (by rw [hfences]; exact hpending)
    · exact State.writeGood_written hb he (by rw [hvalues]; exact hv) (by rw [hcommands]; exact hc)
  | false =>
    obtain ⟨hbuffer, hfsc, hlist, hst⟩ := State.writeRefused_outputs (a := a) hb he
    refine ⟨_, rfl, hbuffer, by rw [if_neg Bool.false_ne_true, hfsc]; exact hfree, nofun, fun _ => ?_⟩
    rw [if_neg Bool.false_ne_true]
    refine ⟨fun st hs => ?_, hlist.trans hsettle, fun o ho => State.writeRefused_posted hb he ho,
      fun p hmark hpending => ?_, fun p horigin henabled => ?_⟩
    · rw [hst, show (s.countedGood g a).station? g a = (s.countGood g a).station? g a from rfl, State.countGood_station, hs]
      exact ⟨_, rfl, rfl⟩
    · exact State.writeRefused_fails hb he hmark (by rw [hfences]; exact hpending)
    · exact State.writeRefused_tells hb he horigin (by rw [hsettings]; exact henabled)

end Sys2Proof.Machine
end

section
/-! What the events of one segment leave alone: the rest of the part, the other segment but for what freeze protection
reaches, and the stations of the segment that are not called. -/

namespace Sys2Proof.Machine

/-- What an event of one segment leaves of another. -/
structure State.OtherKept (s u : State) (h : SegId) : Prop where
  image : u.image.get h = s.image.get h := by exact rfl
  fsc : u.fsc.get h = s.fsc.get h := by exact rfl
  buffer : u.buffer.get h = s.buffer.get h := by exact rfl
  settle : u.settle.get h = s.settle.get h := by exact rfl
  fences : ∀ p, (u.fences.get p).get h = (s.fences.get p).get h := by exact fun _ => rfl
  cu : (u.fpb.get h).cu = (s.fpb.get h).cu := by exact rfl
  flow : (u.fpb.get h).flowAdequate = (s.fpb.get h).flowAdequate := by exact rfl
  units : ((u.fpb.get h).units.map fun x => (x.addr, x.shortfall, x.iced)) =
    (s.fpb.get h).units.map fun x => (x.addr, x.shortfall, x.iced) := by exact rfl
  alloc : { u.alloc.get h with commands := [] } = { s.alloc.get h with commands := [] } := by exact rfl

/-- What an event of segment `g`, in which the stations `called` have a part, leaves as it was. -/
structure State.Within (g : SegId) (called : Nat → Prop) (s u : State) : Prop where
  phase : u.phase = s.phase := by exact rfl
  settings : u.settings = s.settings := by exact rfl
  slots : u.slots = s.slots := by exact rfl
  merge : u.merge = s.merge := by exact rfl
  accessMap : u.accessMap = s.accessMap := by exact rfl
  saving : u.saving = s.saving := by exact rfl
  restartPending : u.restartPending = s.restartPending := by exact rfl
  icingTimer : u.icingTimer = s.icingTimer := by exact rfl
  overrides : (u.overrides.map fun r => { r with delivery := .posted }) =
    (s.overrides.map fun r => { r with delivery := .posted }) := by exact rfl
  lines : ∀ p, (u.ports.get p).rate = (s.ports.get p).rate ∧ (u.ports.get p).receiving = (s.ports.get p).receiving ∧
    (u.ports.get p).newRate = (s.ports.get p).newRate := by exact fun _ => ⟨rfl, rfl, rfl⟩
  queues : ∀ p, s.portWaits p = false → (u.ports.get p).queue = (s.ports.get p).queue := by exact fun _ _ => rfl
  waits : ∀ p, s.portWaits p = false → u.portWaits p = false := by exact fun _ => id
  others : ∀ h, h ≠ g → s.OtherKept u h := by exact fun _ _ => {}
  addresses : (u.image.get g).map Station.addr = (s.image.get g).map Station.addr := by exact rfl
  stations : ∀ b, ¬called b → (u.station? g b).map Station.seen = (s.station? g b).map Station.seen := by exact fun _ _ => rfl

section
variable {s u t : State} {g : SegId} {called : Nat → Prop} {a : Nat}

theorem State.OtherKept.trans {h : SegId} (x : s.OtherKept u h) (y : u.OtherKept t h) : s.OtherKept t h where
  image := y.image.trans x.image
  fsc := y.fsc.trans x.fsc
  buffer := y.buffer.trans x.buffer
  settle := y.settle.trans x.settle
  fences p := (y.fences p).trans (x.fences p)
  cu := y.cu.trans x.cu
  flow := y.flow.trans x.flow
  units := y.units.trans x.units
  alloc := y.alloc.trans x.alloc

theorem State.Within.refl (s : State) : State.Within g called s s where

theorem State.Within.trans (h : State.Within g called s u) (k : State.Within g called u t) : State.Within g called s t where
  phase := k.phase.trans h.phase
  settings := k.settings.trans h.settings
  slots := k.slots.trans h.slots
  merge := k.merge.trans h.merge
  accessMap := k.accessMap.trans h.accessMap
  saving := k.saving.trans h.saving
  restartPending := k.restartPending.trans h.restartPending
  icingTimer := k.icingTimer.trans h.icingTimer
  overrides := k.overrides.trans h.overrides
  lines p := by
    obtain ⟨hrate, hreceiving, hnew⟩ := h.lines p
    obtain ⟨krate, kreceiving, knew⟩ := k.lines p
    exact ⟨krate.trans hrate, kreceiving.trans hreceiving, knew.trans hnew⟩
  queues p hp := (k.queues p (h.waits p hp)).trans (h.queues p hp)
  waits p hp := k.waits p (h.waits p hp)
  others j hj := (h.others j hj).trans (k.others j hj)
  addresses := k.addresses.trans h.addresses
  stations b hb := (k.stations b hb).trans (h.stations b hb)

/-! ### Operations on the segment's own records -/

theorem State.Within.modFsc {f : Fsc → Fsc} (hreads : ∀ e ∈ (f (s.fsc.get g)).readThroughs, e ∈ (s.fsc.get g).readThroughs) :
    State.Within g called s (s.modFsc g f) where
  waits p hp := by
    by_contra hwaits
    obtain ⟨k, -, hk⟩ := List.any_eq_true.1 (Bool.eq_true_of_not_eq_false hwaits)
    obtain ⟨e, he, hport⟩ := List.any_eq_true.1 hk
    have hmem : e ∈ (s.fsc.get k).readThroughs := by
      rw [State.modFsc_fsc, PerSeg.get_modify] at he
      split at he
      · next h => subst h; exact hreads e he
      · exact he
    rw [State.portWaits_of_mem hmem (beq_iff_eq.1 hport)] at hp
    cases hp
  others h hh := { fsc := PerSeg.get_modify_other _ _ hh }

theorem State.Within.setActivity (x : Activity) : State.Within g called s (s.setActivity g x) := .modFsc fun _ => id

theorem State.Within.startJob (job : Job) (retries time : Nat) : State.Within g called s (s.startJob g job retries time) :=
  .setActivity _

theorem State.Within.modStation {f : Station → Station} (ha : called a) (hf : ∀ st, (f st).addr = st.addr := by exact fun _ => rfl) :
    State.Within g called s (s.modStation g a f) where
  others h hh := { image := PerSeg.get_modify_other _ _ hh }
  addresses := by
    rw [State.modStation, State.modImage_image, PerSeg.get_modify_self, List.map_map]
    refine List.map_congr_left fun st _ => ?_
    dsimp only [Function.comp]
    split
    · exact hf st
    · rfl
  stations b hb := by rw [State.station?_modStation_other s g (fun h : b = a => hb (by rw [h]; exact ha)) hf]

theorem State.Within.modAlloc (f : Allocator → Allocator) : State.Within g called s (s.modAlloc g f) where
  others h hh := { alloc := by rw [State.modAlloc_alloc, PerSeg.get_modify_other _ _ hh] }

theorem State.Within.modBuffer (f : List Entry → List Entry) : State.Within g called s (s.modBuffer g f) where
  others h hh := { buffer := PerSeg.get_modify_other _ _ hh }

theorem State.Within.modSettle (f : List SettleItem → List SettleItem) : State.Within g called s (s.modSettle g f) where
  others h hh := { settle := PerSeg.get_modify_other _ _ hh }

theorem State.Within.mapFences (f : PortId → FenceRecord → FenceRecord) : State.Within g called s (s.mapFences g f) where
  others h hh := { fences := fun p => by rw [State.mapFences_get, if_neg hh] }

theorem State.Within.modUnit (f : UnitFrost → UnitFrost) : State.Within g called s (s.modUnit g a f) where
  others h hh :=
    have hkept : (s.modUnit g a f).fpb.get h = s.fpb.get h := PerSeg.get_modify_other _ _ hh
    { cu := by rw [hkept], flow := by rw [hkept], units := by rw [hkept] }

/-- Override records change in no more than whether they wait. -/
theorem State.Within.mapDelivery (f : OverrideRecord → Bool) :
    State.Within g called s (s.setOverrides (s.overrides.map fun r => if f r then { r with delivery := .waiting } else r)) where
  overrides := by
    change (s.overrides.map _).map _ = _
    rw [List.map_map]
    refine List.map_congr_left fun r _ => ?_
    dsimp only [Function.comp]
    split <;> rfl

theorem State.Within.overridesWait (a : Nat) : State.Within g called s (s.overridesWait g a) := by
  have h := State.Within.mapDelivery (s := s) (g := g) (called := called) fun r => decide (r.seg = g ∧ r.station = a)
  simp only [decide_eq_true_eq] at h
  exact h

theorem State.Within.overridesWaitFor (a : Nat) (f : Fields) : State.Within g called s (s.overridesWaitFor g a f) := by
  have h := State.Within.mapDelivery (s := s) (g := g) (called := called)
    fun r => decide (r.seg = g ∧ r.station = a ∧ f.has r.value.output = true)
  simp only [decide_eq_true_eq] at h
  exact h

/-! ### Notices and faults -/

theorem State.Within.noticed {faults : BitVec 24} {ports : PerPort Port} (h : ∃ bits, ports = s.noticed bits) :
    State.Within g called s { s with faults := faults, ports := ports } := by
  obtain ⟨bits, rfl⟩ := h
  have hkept : ∀ p, (s.noticed bits).get p = { s.ports.get p with notices := ((s.noticed bits).get p).notices } := fun p => by
    rw [State.noticed_get]
    split <;> rfl
  exact { lines := fun p => by dsimp only; rw [hkept]; exact ⟨rfl, rfl, rfl⟩
          queues := fun p _ => by dsimp only; rw [hkept] }

theorem State.Within.notifyAll (b : NoticeBit) : State.Within g called s (s.notifyAll b) := .noticed (faults := s.faults) ⟨_, rfl⟩

theorem State.Within.notifyIf (cause : Bool) (b : NoticeBit) : State.Within g called s (s.notifyIf cause b) := by
  rw [State.notifyIf_eq]
  exact .noticed (faults := s.faults) ⟨_, rfl⟩

theorem State.Within.notifySet (b : NoticeBit) (ps : PortSet) : State.Within g called s (s.notifySet b ps) := by
  rw [State.notifySet_eq]
  exact .noticed (faults := s.faults) ⟨_, rfl⟩

theorem State.Within.setFault (f : FaultFlag) : State.Within g called s (s.setFault f) := by
  rw [State.setFault_noticed]
  exact .noticed ⟨_, rfl⟩

theorem State.Within.setFaultIf (cause : Bool) (f : FaultFlag) : State.Within g called s (s.setFaultIf cause f) := by
  rw [State.setFaultIf_noticed rfl]
  exact .noticed ⟨_, rfl⟩

theorem State.Within.advanceTo (moment : Nat) : State.Within g called s (s.advanceTo moment) where

/-! ### The outputs -/

theorem State.Within.completeFences : State.Within g called s (s.completeFences g) := .trans (.mapFences _) (.notifySet ..)

theorem State.Within.failMarks (marks : PortSet) : State.Within g called s (s.failMarks g marks) := .mapFences _

theorem State.Within.modCommands (f : StationCommands → StationCommands) : State.Within g called s (s.modCommands g a f) :=
  .modAlloc _

theorem State.Within.setMode (ha : called a) (m : Mode) : State.Within g called s (s.setMode g a m) := by
  unfold State.setMode
  split
  · split
    · exact .refl s
    · dsimp only
      split
      · exact .trans (.trans (.trans (.modStation ha) (.notifyAll _)) (.modCommands _)) (.overridesWait a)
      · exact .trans (.modStation ha) (.notifyAll _)
  · exact .refl s

theorem State.Within.discardEntries : State.Within g called s (s.discardEntries g a) :=
  .trans (.trans (.trans (.trans (.trans (.modBuffer _) (.modCommands _)) (.overridesWait a)) (.failMarks _)) (.notifySet ..))
    .completeFences

theorem State.Within.writeGood : State.Within g called s (s.writeGood g a) := by
  unfold State.writeGood
  split
  · split
    · exact .trans (.trans (.trans (.trans (.trans (.modBuffer _) (.modCommands _)) (.modSettle _)) (.setFaultIf ..)) (.failMarks _))
        .completeFences
    · exact .refl s
  · exact .refl s

theorem State.Within.writeRefused (ha : called a) : State.Within g called s (s.writeRefused g a) := by
  unfold State.writeRefused
  split
  · split
    · exact .trans (.trans (.trans (.trans (.trans (.trans (.modBuffer _) (.setMode ha _)) (.modCommands _)) (.overridesWaitFor a _))
        (.failMarks _)) (.notifySet ..)) .completeFences
    · exact .refl s
  · exact .refl s

theorem State.Within.writeReturn : State.Within g called s (s.writeReturn g) := .modBuffer _

theorem State.Within.settleCheck (valued : List Nat) : State.Within g called s (s.settleCheck g a valued) :=
  .trans (.modSettle _) .completeFences

theorem State.Within.settleFail (o : OutputId) : State.Within g called s (s.settleFail g a o) :=
  .trans (.trans (.trans (.modSettle _) (.setFault _)) (.failMarks _)) .completeFences

/-! ### Freeze protection -/

theorem State.fpbEvent_unitMarks (s : State) (e : FpbEvent) (l : LoopId) :
    ((s.fpbEvent e).fpb.get l).units.map (fun x => (x.addr, x.shortfall, x.iced)) =
      (s.fpb.get l).units.map fun x => (x.addr, x.shortfall, x.iced) := by
  rw [State.fpbEvent_get]
  dsimp only
  rw [State.unitsAfter, List.map_map]
  refine List.map_congr_left fun x _ => ?_
  dsimp only [Function.comp]
  split <;> rfl

theorem State.Within.fpbEvent {e : FpbEvent} (h : ∀ l, l ≠ g → e.cu.get l = false ∧ e.flow.get l = false) :
    State.Within g called s (s.fpbEvent e) := by
  have hget := fun p => (State.Noticed.fpbEvent s e).get p
  have himage : (s.fpbEvent e).image = s.image := by simp
  have hfsc : (s.fpbEvent e).fsc = s.fsc := by simp
  exact {
    phase := by simp, settings := by simp, slots := by simp, merge := by simp, accessMap := by simp, saving := by simp
    restartPending := by simp, icingTimer := by simp, overrides := by simp
    lines := fun p => by rw [hget p]; exact ⟨rfl, rfl, rfl⟩
    queues := fun p _ => by rw [hget p]
    waits := fun p hp => by unfold State.portWaits at hp ⊢; rw [hfsc]; exact hp
    addresses := by rw [himage]
    stations := fun b _ => by rw [State.station?_congr (u := s.fpbEvent e) (s := s) (by rw [himage])]
    others := fun l hl => by
      obtain ⟨hcu, hflow⟩ := h l hl
      exact {
        image := by rw [himage], fsc := by rw [hfsc], buffer := by simp, settle := by simp, fences := fun p => by simp
        cu := by rw [State.fpbEvent_get, State.fpbJudged_get, State.fpbRead_get, hcu]; rfl
        flow := by rw [State.fpbEvent_get, State.fpbJudged_get, State.fpbRead_get, hflow]; rfl
        units := s.fpbEvent_unitMarks e l
        alloc := by rw [(State.CommandsOnly.fpbEvent s e).alloc l] } }

theorem noLoop_get (l : LoopId) : noLoop.get l = false := by cases l <;> rfl

theorem onlyLoop_other {l : LoopId} (h : l ≠ g) : (onlyLoop g).get l = false := by
  rw [onlyLoop, PerSeg.get_set_other _ _ h, noLoop_get]

theorem State.Within.fpbUnitLost : State.Within g called s (s.fpbUnitLost g a) := by
  unfold State.fpbUnitLost
  split
  · exact .trans (.modUnit _) (.fpbEvent fun l _ => ⟨noLoop_get l, noLoop_get l⟩)
  · exact .refl s

theorem readEvent_other (first next : Nat) {l : LoopId} (h : l ≠ g) :
    (readEvent g a first next).cu.get l = false ∧ (readEvent g a first next).flow.get l = false := by
  unfold readEvent
  dsimp only
  split
  · exact ⟨noLoop_get l, noLoop_get l⟩
  · exact ⟨noLoop_get l, noLoop_get l⟩
  · constructor
    all_goals
      dsimp only
      split
      · exact onlyLoop_other h
      · exact noLoop_get l

theorem State.Within.setIcing : State.Within g called s (s.setIcing g a) :=
  .trans (.trans (.trans (.modUnit _) (.setFault _)) (.notifyAll _)) (.modCommands _)

theorem State.Within.shortfall (v : Int) : State.Within g called s (s.shortfall g a v) := by
  unfold State.shortfall
  split
  · next u _ _ _ =>
    extract_lets count s1
    by_cases hthird : u.shortfall = 2 ∧ count = 3
    · rw [if_pos hthird]
      exact .trans (.modUnit _) .setIcing
    · rw [if_neg hthird]
      exact .modUnit _
  · exact .refl s

/-! ### Read-throughs -/

theorem State.reply_port (s : State) (p q : PortId) (body : List Byte) :
    ((s.reply p body).ports.get q).rate = (s.ports.get q).rate ∧ ((s.reply p body).ports.get q).receiving = (s.ports.get q).receiving ∧
      ((s.reply p body).ports.get q).newRate = (s.ports.get q).newRate ∧
      (q ≠ p → (s.reply p body).ports.get q = s.ports.get q) := by
  have hform : ∀ port : Port, (port.form body .none).rate = port.rate ∧ (port.form body .none).receiving = port.receiving ∧
      (port.form body .none).newRate = port.newRate := fun port => by
    unfold Port.form
    split
    · dsimp only
      split <;> exact ⟨rfl, rfl, rfl⟩
    · exact ⟨rfl, rfl, rfl⟩
  by_cases hq : q = p
  · subst hq
    have hget : (s.reply q body).ports.get q = (s.ports.get q).form body .none := PerPort.get_modify_self ..
    obtain ⟨hrate, hreceiving, hnew⟩ := hform (s.ports.get q)
    exact ⟨by rw [hget, hrate], by rw [hget, hreceiving], by rw [hget, hnew], fun h => absurd rfl h⟩
  · have hget : (s.reply p body).ports.get q = s.ports.get q := PerPort.get_modify_other _ _ hq
    rw [hget]
    exact ⟨rfl, rfl, rfl, fun _ => rfl⟩

theorem State.reply_waits (s : State) (p q : PortId) (body : List Byte) : (s.reply p body).portWaits q = s.portWaits q := rfl

/-- The reply to a port whose queue is held by a read-through. -/
theorem State.Within.reply {p : PortId} (body : List Byte) (hwaits : s.portWaits p = true) :
    State.Within g called s (s.reply p body) where
  lines q := by
    obtain ⟨hrate, hreceiving, hnew, -⟩ := s.reply_port p q body
    exact ⟨hrate, hreceiving, hnew⟩
  queues q hq := by
    obtain ⟨-, -, -, hother⟩ := s.reply_port p q body
    rw [hother fun h => by rw [h, hwaits] at hq; cases hq]

/-- The answers to some entries of the queue, and then their leaving, which changes nothing that an answer looks at. -/
theorem State.leaveReadThroughs_replies (leaves : ReadThrough → Bool) : s.leaveReadThroughs g leaves =
    (((s.fsc.get g).readThroughs.filter leaves).foldl (fun t e => t.replyReadThrough g e) s).modFsc g fun f =>
      { f with readThroughs := f.readThroughs.filter fun e => !leaves e } := by
  have hswap : ∀ (es : List ReadThrough) (t : State) (f : Fsc → Fsc),
      es.foldl (fun t e => t.replyReadThrough g e) (t.modFsc g f) =
        (es.foldl (fun t e => t.replyReadThrough g e) t).modFsc g f := by
    intro es
    induction es with
    | nil => exact fun _ _ => rfl
    | cons e es ih => exact fun t f => ih (t.replyReadThrough g e) f
  exact hswap ..

theorem State.Within.leaveReadThroughs (leaves : ReadThrough → Bool) : State.Within g called s (s.leaveReadThroughs g leaves) := by
  have hreplies : ∀ (es : List ReadThrough) (t : State), (∀ e ∈ es, e ∈ (t.fsc.get g).readThroughs) →
      State.Within g called t (es.foldl (fun t e => t.replyReadThrough g e) t) := by
    intro es
    induction es with
    | nil => exact fun t _ => .refl t
    | cons e es ih =>
      intro t h
      have hreply : State.Within g called t (t.replyReadThrough g e) :=
        .reply _ (State.portWaits_of_mem (h e (List.mem_cons_self ..)) rfl)
      exact hreply.trans (ih _ fun x hx => h x (List.mem_cons_of_mem _ hx))
  rw [State.leaveReadThroughs_replies]
  exact .trans (hreplies _ s fun e he => (List.mem_filter.1 he).1) (.modFsc fun e he => (List.mem_filter.1 he).1)

/-! ### Going on -/

theorem State.PassWentOn.addresses (h : s.PassWentOn u g) :
    (u.image.get g).map Station.addr = (s.image.get g).map Station.addr := by
  rcases h with ⟨-, himage, -⟩ | ⟨-, -, -, himage⟩
  · rw [himage]
  · rw [himage, List.map_map]
    rfl

theorem State.portWaits_congr (h : ∀ k, (u.fsc.get k).readThroughs = (s.fsc.get k).readThroughs) (p : PortId) :
    u.portWaits p = s.portWaits p := by
  unfold State.portWaits
  simp only [h]

theorem State.Onward.within (h : s.Onward g u) : State.Within g called s u := by
  obtain ⟨b, -, hports⟩ := h.ports
  have hget : ∀ p, u.ports.get p = { s.ports.get p with notices := (u.ports.get p).notices } := fun p => by
    rw [hports, State.noticed_get]
    split <;> rfl
  have hreads : ∀ k, (u.fsc.get k).readThroughs = (s.fsc.get k).readThroughs := fun k => by
    by_cases hk : k = g
    · subst hk; exact h.readThroughs
    · rw [(h.others k hk).2.1]
  exact {
    phase := by rw [h.frame], settings := h.settings, slots := by rw [h.frame], merge := by rw [h.frame]
    accessMap := by rw [h.frame], saving := by rw [h.frame], restartPending := by rw [h.frame], icingTimer := by rw [h.frame]
    overrides := h.overrides
    lines := fun p => by rw [hget p]; exact ⟨rfl, rfl, rfl⟩
    queues := fun p _ => by rw [hget p]
    waits := fun p hp => by rw [State.portWaits_congr hreads]; exact hp
    addresses := h.pass.addresses
    stations := fun b _ => h.pass.seen b
    others := fun k hk => by
      obtain ⟨himage, hfsc, halloc, hbuffer⟩ := h.others k hk
      have hfpb : u.fpb = s.fpb := by rw [h.frame]
      exact {
        image := himage, fsc := hfsc, buffer := hbuffer, settle := by rw [h.frame], fences := fun p => by rw [h.frame]
        cu := by rw [hfpb], flow := by rw [hfpb], units := by rw [hfpb], alloc := by rw [halloc] } }

theorem State.Within.openPass : State.Within g called s (s.openPass g) where
  waits p hp := by
    refine (State.portWaits_congr (fun k => ?_) p).trans hp
    by_cases hk : k = g
    · subst hk; rw [State.openPass_fsc]
    · rw [State.openPass_fsc_other hk]
  others k hk := { image := PerSeg.get_modify_other _ _ hk, fsc := State.openPass_fsc_other hk }
  addresses := by
    rw [State.openPass_image, List.map_map]
    rfl
  stations b _ := State.openPass_seen b

theorem State.Within.startPass : State.Within g called s (s.startPass g) := .trans .openPass State.Onward.startPass.within

/-! ### The ends of a call -/

theorem State.Within.enterLost (ha : called a) : State.Within g called s (s.enterLost g a) :=
  .trans (.trans (.trans (.trans (.setFault _) (.modStation ha)) .discardEntries) .fpbUnitLost) (.leaveReadThroughs _)

theorem State.Within.setCounter (ha : called a) (c : Nat) : State.Within g called s (s.setCounter g a c) := by
  unfold State.setCounter
  dsimp only
  split
  · exact .trans (.trans (.modStation ha) (.notifyIf ..)) (.enterLost ha)
  · exact .trans (.modStation ha) (.notifyIf ..)

theorem State.Within.setMismatch (ha : called a) (m : Bool) : State.Within g called s (s.setMismatch g a m) := by
  unfold State.setMismatch
  split
  · exact .trans (.trans (.modStation ha) (.notifyIf ..)) (.setFaultIf ..)
  · exact .refl s

theorem State.Within.discoverFrom (above : Nat) : State.Within g called s (s.discoverFrom g above) := by
  unfold State.discoverFrom
  split
  · exact .startJob ..
  · exact .trans (.setActivity _) .startPass

theorem State.Within.conclude (ha : called a) (found : Bool) : State.Within g called s (s.conclude g a found) := by
  refine .trans ?_ (.discoverFrom a)
  cases found
  · exact .trans (.trans (.modStation ha) (.notifyAll _)) (.enterLost ha)
  · exact .trans (.modStation ha) (.notifyAll _)

theorem State.Within.endProbe : State.Within g called s (s.endProbe g a) :=
  .trans (.setActivity _) (State.Onward.dealtWith a).within

theorem State.Within.modeFromPoint (ha : called a) (valued : List Nat) : State.Within g called s (s.modeFromPoint g a valued) := by
  unfold State.modeFromPoint
  split
  · exact .setMode ha _
  · exact .refl s

theorem State.Within.clearAttention {j : ReadJob} (ha : called j.station) : State.Within g called s (s.clearAttention g j) := by
  unfold State.clearAttention
  split
  · exact .modStation ha
  · exact .refl s

theorem State.Within.shortfallFrom (j : ReadJob) (valued : List Nat) : State.Within g called s (s.shortfallFrom g j valued) := by
  unfold State.shortfallFrom
  split
  · exact .shortfall _
  · exact .refl s

theorem State.Within.readPoints {j : ReadJob} (ha : called j.station) (vs : List Int) :
    State.Within g called s (s.readPoints g j vs) := by
  have htake : State.Within g called s (s.modStation g j.station (Station.takeFrom (s.fsc.get g).passNumber j.next vs)) :=
    .modStation ha fun st => by rw [(Station.takeFrom_only (s.fsc.get g).passNumber vs j.next st).1]
  exact .trans (.trans (.trans (.trans (.trans (.trans htake (.setCounter ha _)) (.clearAttention ha)) (.modeFromPoint ha _))
    (.fpbEvent fun l hl => readEvent_other _ _ hl)) (.shortfallFrom ..)) (.settleCheck _)

theorem State.Within.endRead (j : ReadJob) : State.Within g called s (s.endRead g j) := by
  have h : State.Within g called s (s.leaveReadThroughs g fun e => j.served e || j.purpose == .readThrough e.port) :=
    .leaveReadThroughs _
  unfold State.endRead
  dsimp only
  split
  · exact h.trans (State.Onward.dealtWith _).within
  · exact h
  · exact h

theorem State.Within.readGood {j : ReadJob} (ha : called j.station) (ready : Bool) (vs : List Int) :
    State.Within g called s (s.readGood g j ready vs) := by
  have h : State.Within g called s ((s.readPoints g j vs).afterRead g ready) := .trans (.readPoints ha vs) (.setActivity _)
  unfold State.readGood
  dsimp only
  split
  · exact h.trans (.modFsc fun _ => id)
  · exact h.trans (.endRead _)

theorem State.Within.attemptFailed {x : Transaction} (ha : ∀ b, x.job.station? = some b → called b) :
    State.Within g called s (s.attemptFailed g x) := by
  unfold State.attemptFailed
  split
  · next b hjob =>
    split
    · exact .startJob ..
    · exact .conclude (ha b (by rw [hjob]; rfl)) _
  · exact .endProbe
  · next j hjob =>
    have hj := ha j.station (by rw [hjob]; rfl)
    dsimp only
    split
    · exact .trans (.setCounter hj _) (.startJob ..)
    · exact .trans (.trans (.setCounter hj _) (.setActivity _)) (.endRead _)
  · next b hjob =>
    have hb := ha b (by rw [hjob]; rfl)
    dsimp only
    split
    · exact .trans (.setCounter hb _) (.setActivity _)
    · split
      · exact .trans (.setCounter hb _) (.startJob ..)
      · exact .trans (.trans (.setCounter hb _) .writeReturn) (.setActivity _)
  · exact .refl s

theorem State.Within.probeAnswer (ha : called a) (kind : Byte) : State.Within g called s (s.probeAnswer g a kind) := by
  unfold State.probeAnswer
  dsimp only
  refine .trans ?_ .endProbe
  split
  · exact .trans (.trans (.setMismatch ha _) (.setCounter ha _)) (.modFsc fun _ => id)
  · exact .setMismatch ha _

theorem State.Within.answer {x : Transaction} (ha : ∀ b, x.job.station? = some b → called b) (chars : List Byte) :
    State.Within g called s (s.answer g x chars) := by
  have hfailed : State.Within g called s (s.attemptFailed g x) := .attemptFailed ha
  unfold State.answer
  split
  · next b hjob =>
    have hb := ha b (by rw [hjob]; rfl)
    split
    · exact .trans (.setMismatch hb _) (.conclude hb _)
    · exact hfailed
  · next b hjob =>
    split
    · exact .probeAnswer (ha b (by rw [hjob]; rfl)) _
    · exact hfailed
  · next j hjob =>
    have hj := ha j.station (by rw [hjob]; rfl)
    split
    · split
      · split
        · exact .readGood hj ..
        · exact .trans (.trans (.setCounter hj _) (.setActivity _)) (.endRead _)
      · exact hfailed
    · exact hfailed
  · next b hjob =>
    have hb := ha b (by rw [hjob]; rfl)
    split
    · split
      · dsimp only
        split
        · exact .trans (.trans (.setCounter hb _) (.setActivity _)) .writeGood
        · exact .trans (.trans (.setCounter hb _) (.setActivity _)) (.writeRefused hb)
      · exact hfailed
    · exact hfailed
  · exact .refl s

/-! ### The commands of a segment -/

theorem State.Within.passTimerExpired : State.Within g called s (s.passTimerExpired g) := by
  unfold State.passTimerExpired
  dsimp only
  split
  · exact .trans (.trans (.modFsc fun _ => id) (.modFsc fun _ => id)) (.setFault _)
  · exact .trans (.modFsc fun _ => id) .startPass

theorem State.Within.takePoll (hall : ∀ b, called b) (slots : List (Option Byte)) : State.Within g called s (s.takePoll g slots) where
  others h hh := { image := PerSeg.get_modify_other _ _ hh }
  addresses := by
    rw [State.takePoll, State.modImage_image, PerSeg.get_modify_self, List.map_map]
    refine List.map_congr_left fun st _ => ?_
    dsimp only [Function.comp]
    split <;> rfl
  stations b hb := absurd (hall b) hb

/-- A station has a part in what happens on a segment: the one that a call under way calls, or any where none is. -/
def State.CalledOn (s : State) (g : SegId) (b : Nat) : Prop :=
  ∀ x, (s.fsc.get g).activity = .busy x → x.job ≠ .poll → x.job.station? = some b

theorem State.calledOn_of_busy {x : Transaction} (hbusy : (s.fsc.get g).activity = .busy x) {b : Nat}
    (hb : x.job.station? = some b) : s.CalledOn g b := by
  intro y hy _
  rw [hbusy] at hy
  cases hy
  exact hb

theorem State.calledOn_of_idle (hidle : ∀ x, (s.fsc.get g).activity = .busy x → x.job = .poll) (b : Nat) : s.CalledOn g b :=
  fun x hx hjob => absurd (hidle x hx) hjob

theorem State.Within.ended (h : State.Within g called s u) : State.Within g called s (u.arbitrate g) :=
  h.trans State.Onward.arbitrate.within

/-- A command of a segment changes nothing, or does what an event of the segment does before the transmitters start. -/
theorem exec_segmentCommand {chars : List Byte} {level : Bool} {slots : List (Option Byte)} {o : OutputId} {moment : Nat} {c : Instr}
    (hc : c ∈ segmentCommands g chars level slots a o moment) (h : exec c s = .next t) :
    t = s ∨ ∃ u, State.Within g (s.CalledOn g) s u ∧ t = u.kickPorts := by
  simp only [segmentCommands, List.mem_cons, List.not_mem_nil, or_false] at hc
  rcases hc with rfl | rfl | rfl | rfl | rfl | rfl | rfl
  · change execPassTimerExpiry g s = _ at h
    unfold execPassTimerExpiry at h
    split at h
    · cases h
      exact .inr ⟨_, .ended (.trans (.advanceTo _) .passTimerExpired), rfl⟩
    · cases h
      exact .inl rfl
  · change execResponseTaken g chars s = _ at h
    unfold execResponseTaken at h
    split at h
    · next x hx =>
      split at h
      · cases h
        exact .inl rfl
      · cases h
        exact .inr ⟨_, .ended (.answer (fun b hb => State.calledOn_of_busy (awaiting_eq_some hx).1 hb) chars), rfl⟩
    · cases h
      exact .inl rfl
  · change Host.Outcome.next (s.windowExpired g) = _ at h
    cases h
    unfold State.windowExpired
    split
    · exact .inr ⟨_, .ended (.trans (.trans (.advanceTo _) (.setActivity _)) (.discoverFrom 0)), rfl⟩
    · split
      · next x hx =>
        exact .inr ⟨_, .ended (.trans (.advanceTo _) (.attemptFailed fun b hb => State.calledOn_of_busy (awaiting_eq_some hx).1 hb)), rfl⟩
      · exact .inl rfl
  · change execReadyPauseExpiry g s = _ at h
    unfold execReadyPauseExpiry at h
    split at h
    · cases h
      exact .inr ⟨_, .ended (.trans (.advanceTo _) (.setActivity _)), rfl⟩
    · cases h
      exact .inl rfl
  · change execAttentionLineChange g level s = _ at h
    cases h
    exact .inr ⟨_, .ended (.modFsc fun _ => id), rfl⟩
  · change execAttentionPollEnd g slots s = _ at h
    unfold execAttentionPollEnd at h
    split at h
    · next hbusy =>
      cases h
      refine .inr ⟨_, .ended (.trans (.trans (.advanceTo _) (.takePoll (State.calledOn_of_idle fun x hx => ?_) slots)) (.setActivity _)), rfl⟩
      rw [hbusy] at hx
      cases hx
      rfl
    · cases h
      exact .inl rfl
  · change execSettleDeadlineExpiry g a ⟨o, moment⟩ s = _ at h
    unfold execSettleDeadlineExpiry at h
    split at h
    · split at h
      · cases h
        exact .inr ⟨_, .ended (.trans (.advanceTo _) (.settleFail o)), rfl⟩
      · cases h
        exact .inl rfl
    · cases h
      exact .inl rfl

theorem Port.kick_line {port : Port} (h : port.newRate = none) (now : Nat) :
    (port.kick now).rate = port.rate ∧ (port.kick now).receiving = port.receiving := by
  cases hs : port.sending with
  | some f => rw [Port.kick_sending hs]; exact ⟨rfl, rfl⟩
  | none =>
    obtain ⟨hrate, -, -, -, hreceiving⟩ := port.applyRate.start_frame now
    have happly : port.applyRate = port := by rw [Port.applyRate, h]
    rw [Port.kick_idle hs, hrate, hreceiving, happly]
    exact ⟨rfl, rfl⟩

theorem State.kickPorts_port (s : State) (p : PortId) : (s.kickPorts.ports.get p).queue = (s.ports.get p).queue ∧
    ((s.ports.get p).newRate = none → (s.kickPorts.ports.get p).rate = (s.ports.get p).rate ∧
      (s.kickPorts.ports.get p).receiving = (s.ports.get p).receiving) := by
  cases hp : s.phase with
  | running =>
    rw [State.kickPorts_running hp]
    dsimp only
    rw [PerPort.get_map]
    exact ⟨(Port.kick_queue _ _).1, fun h => Port.kick_line h _⟩
  | loading =>
    rw [State.kickPorts_loading hp]
    exact ⟨rfl, fun _ => ⟨rfl, rfl⟩⟩

theorem State.kickPorts_eq (s : State) : s.kickPorts = { s with ports := s.kickPorts.ports } := by
  unfold State.kickPorts
  split <;> rfl

theorem segmentCommand_keepsFaults {chars : List Byte} {level : Bool} {slots : List (Option Byte)} {o : OutputId} {moment : Nat} {c : Instr}
    (hc : c ∈ segmentCommands g chars level slots a o moment) : ¬s.FaultsClearedBy c := by
  simp only [segmentCommands, List.mem_cons, List.not_mem_nil, or_false] at hc
  rcases hc with rfl | rfl | rfl | rfl | rfl | rfl | rfl
  all_goals exact id

end

/-- Settles O48: every operation an event of a segment is made of keeps to the segment. -/
theorem segmentCommandsFrame : Obligations.SegmentCommandsFrame := by
  intro s t g chars level slots a o moment c hc h
  obtain ⟨u, hu, hrest, hports⟩ : ∃ u, State.Within g (s.CalledOn g) s u ∧ t = { u with ports := t.ports } ∧
      ∀ p, (t.ports.get p).queue = (u.ports.get p).queue ∧ ((u.ports.get p).newRate = none →
        (t.ports.get p).rate = (u.ports.get p).rate ∧ (t.ports.get p).receiving = (u.ports.get p).receiving) := by
    rcases exec_segmentCommand hc h with rfl | ⟨u, hu, rfl⟩
    · exact ⟨t, .refl t, rfl, fun p => ⟨rfl, fun _ => ⟨rfl, rfl⟩⟩⟩
    · exact ⟨u, hu, u.kickPorts_eq, u.kickPorts_port⟩
  have hfaults : ∀ f, s.hasFault f = true → t.hasFault f = true := fun f hf =>
    exec_keeps_fault hf (segmentCommand_keepsFaults (s := s) hc) t h
  refine ⟨?_, by rw [hrest]; exact hu.overrides, hfaults, fun p => ⟨fun hrate => ?_, fun hwaits => ?_⟩, fun k hk => ?_, ?_,
    fun x b hbusy hjob hb => ?_⟩
  · rw [hrest]
    exact ⟨hu.phase, hu.settings, hu.slots, hu.merge, hu.accessMap, hu.saving, hu.restartPending, hu.icingTimer⟩
  · obtain ⟨hline, hreceiving, hnew⟩ := hu.lines p
    obtain ⟨krate, kreceiving⟩ := (hports p).2 (hnew.trans hrate)
    exact ⟨krate.trans hline, kreceiving.trans hreceiving⟩
  · exact (hports p).1.trans (hu.queues p hwaits)
  · obtain ⟨himage, hfsc, hbuffer, hsettle, hfences, hcu, hflow, hunits, halloc⟩ := hu.others k hk
    rw [hrest]
    exact ⟨himage, hfsc, hbuffer, hsettle, hfences, hcu, hflow, hunits, halloc⟩
  · rw [hrest]
    exact hu.addresses
  · rw [hrest]
    exact hu.stations b fun hcalled => hb (hcalled x hbusy hjob)

end Sys2Proof.Machine
end

section
/-! WRITE SETTING (R164, R165): its refusals, what an accepted write leaves of each block, what an event of freeze protection
computes and what it does not touch, and obligation O43. -/

namespace Sys2Proof.Machine

/-! ### What an event of freeze protection leaves of a loop -/

theorem frostChanges_self (us : List UnitFrost) : frostChanges us us = [] := by
  induction us with
  | nil => rfl
  | cons u us ih => rw [frostChanges, if_pos rfl, ih]

section
variable {s : State} {e : FpbEvent} {l : LoopId}

/-- The concentration in use after an event (R45). -/
theorem State.fpbEvent_cu (s : State) (e : FpbEvent) (l : LoopId) :
    ((s.fpbEvent e).fpb.get l).cu = if e.cu.get l then s.concentrationFound l else (s.fpb.get l).cu := by
  rw [State.fpbEvent_get, State.fpbJudged_get, State.fpbRead_get]

/-- The freeze point after an event: computed afresh where the table was written or the concentration changed (R47). -/
theorem State.fpbEvent_fp (s : State) (e : FpbEvent) (l : LoopId) :
    ((s.fpbEvent e).fpb.get l).fp = if e.table = true ∨ ((s.fpbEvent e).fpb.get l).cu ≠ (s.fpb.get l).cu then
      freezePoint s.settings.freezeTable ((s.fpbEvent e).fpb.get l).cu else (s.fpb.get l).fp := by
  rw [State.fpbEvent_cu, State.fpbEvent_get, State.fpbJudged_get, State.fpbRead_get]
  simp only [Bool.or_eq_true, bne_iff_ne]

/-- The flow adequate mark after an event (R52). -/
theorem State.fpbEvent_flow (s : State) (e : FpbEvent) (l : LoopId) :
    ((s.fpbEvent e).fpb.get l).flowAdequate = if e.flow.get l then s.flowFound l else (s.fpb.get l).flowAdequate := by
  rw [State.fpbEvent_get, State.fpbJudged_get, State.fpbRead_get]

/-- An event that reaches neither a loop's values nor its units leaves the loop as it was. -/
theorem State.fpbEvent_untouched (hma : reachesMa e s (s.fpbRead e) l = false)
    (hread : (s.fpbRead e).fpb.get l = s.fpb.get l) (hunit : ∀ a, e.unit ≠ some (l, a)) :
    (s.fpbEvent e).fpb.get l = s.fpb.get l := by
  have hrestart : e.restart.get l = false := by
    simp only [reachesMa, Bool.or_eq_false_iff] at hma
    exact hma.1.1.2
  have hreaches : ∀ u, e.reaches s l u = false := by
    intro u
    simp [FpbEvent.reaches, reachesUnits, hma, hread, hunit]
  have hunits : s.unitsAfter e l = (s.fpb.get l).units := by
    simp [State.unitsAfter, hreaches]
  rw [State.fpbEvent_get, State.fpbJudged_get, hunits, hma, hread, frostChanges_self, hrestart]
  rfl

/-- An event of another loop's glycol alone leaves the loop as it was. -/
theorem State.fpbEvent_glycol (htable : e.table = false) (hta : e.ta = false) (hguard : e.guard = false)
    (hcu : e.cu.get l = false) (hflow : e.flow.get l = false) (hrestart : e.restart.get l = false)
    (hunit : e.unit = none) : (s.fpbEvent e).fpb.get l = s.fpb.get l := by
  have hread : (s.fpbRead e).fpb.get l = s.fpb.get l := by
    rw [State.fpbRead_get]
    simp [htable, hcu, hflow]
  refine State.fpbEvent_untouched ?_ hread (by simp [hunit])
  simp [reachesMa, hguard, hrestart, hread, State.fpbRead_ta, hta]

/-- An event that computes the yard ambient leaves it as computed, and any other leaves it. -/
theorem State.fpbEvent_ambient (s : State) (e : FpbEvent) :
    (s.fpbEvent e).ta = if e.ta then s.computeTa.ta else s.ta := by
  rw [State.fpbEvent_ta, State.fpbRead_ta]

/-- The margin and the permission of a loop that an event reaches (R50, R51). -/
theorem State.fpbEvent_judged (h : reachesMa e s (s.fpbRead e) l = true) :
    ((s.fpbEvent e).fpb.get l).ma =
        marginOver (s.fpbEvent e).ta ((s.fpbEvent e).fpb.get l).fp s.settings.guardBand ∧
      ((s.fpbEvent e).fpb.get l).permitted =
        isolationNext (s.fpb.get l).permitted ((s.fpbEvent e).fpb.get l).ma := by
  rw [State.fpbEvent_ta, State.fpbEvent_get, State.fpbJudged_get, h]
  exact ⟨rfl, rfl⟩

/-- A write of the guard band alone evaluates every unit, on the values that stand (R54, R59). -/
theorem State.fpbEvent_guard_units (s : State) (l : LoopId) :
    ((s.fpbEvent { FpbEvent.nothing with guard := true }).fpb.get l).units =
      (s.fpb.get l).units.map (s.evaluateUnit l) := by
  have hread : ∀ k, (s.fpbRead { FpbEvent.nothing with guard := true }).fpb.get k = s.fpb.get k := by
    intro k
    rw [State.fpbRead_get]
    cases k <;> simp [FpbEvent.nothing, noLoop, PerSeg.get]
  have hsame : (s.fpbRead { FpbEvent.nothing with guard := true }).evaluateUnit l = s.evaluateUnit l :=
    State.evaluateUnit_congr (by simp) (by simp) (by rw [State.fpbRead_ta]; rfl) (by rw [hread]) (by rw [hread])
  rw [State.fpbEvent_get]
  dsimp only
  rw [State.unitsAfter, hsame]
  refine List.map_congr_left fun u _ => if_pos ?_
  simp [FpbEvent.reaches, reachesUnits, reachesMa]

/-- An event that computes the yard ambient with no valid reading sets AMBIENT LOST (R49). -/
theorem State.fpbEvent_ambientLost (h : e.ta = true) (hnone : lowest s.ambientReadings = none) :
    (s.fpbEvent e).hasFault .ambientLost = true := by
  have hread : ∀ u : State, u.image = s.image → lowest u.ambientReadings = none := by
    intro u hi
    rw [← hnone]
    simp [State.ambientReadings, State.validPoint, State.point, State.station?, hi]
  have hlost : ∀ u : State, u.image = s.image → u.computeTa.hasFault .ambientLost = true := by
    intro u hi
    rw [State.computeTa, hread u hi]
    dsimp only
    rw [State.hasFault, State.setFault_faults, BitVec.getLsbD_or, FaultFlag.mask_bit, Bool.or_true]
  have hglycol : (s.fpbRead e).hasFault .ambientLost = true := by
    rw [State.fpbRead, State.fpbAmbient, if_pos h]
    exact hlost _ (by simp)
  have hjudged : (s.fpbJudged e).faults = (s.fpbRead e).faults := by
    unfold State.fpbJudged
    dsimp only
    split <;> split <;> simp
  rw [State.fpbEvent_eq]
  refine State.fpbFrost_keeps_fault (State.fpbFrost_keeps_fault ?_ _ _ _) _ _ _
  rw [hjudged]
  exact hglycol

end

/-! ### The yard ambient (R48, R49) -/

theorem lowest_eq_none {xs : List Int} : lowest xs = none ↔ xs = [] := by
  cases xs with
  | nil => simp [lowest]
  | cons x xs => rw [lowest]; cases lowest xs <;> simp

theorem lowest_isLeast {xs : List Int} {v : Int} (h : lowest xs = some v) : v ∈ xs ∧ ∀ w ∈ xs, v ≤ w := by
  induction xs generalizing v with
  | nil => cases h
  | cons x xs ih =>
    rw [lowest] at h
    cases hrest : lowest xs with
    | none =>
      rw [hrest] at h
      cases h
      rw [lowest_eq_none.1 hrest]
      simp
    | some y =>
      rw [hrest] at h
      cases h
      obtain ⟨hmem, hle⟩ := ih hrest
      refine ⟨?_, fun w hw => ?_⟩
      · rcases min_choice x y with hx | hy
        · rw [hx]; exact List.mem_cons_self
        · rw [hy]; exact List.mem_cons_of_mem _ hmem
      · rcases List.mem_cons.1 hw with rfl | hw
        · exact min_le_left _ _
        · exact (min_le_right _ _).trans (hle w hw)

/-- The lowest of some temperatures is the one that is among them and no warmer than any. -/
theorem lowest_eq_some {xs : List Int} {v : Int} (hv : v ∈ xs) (hle : ∀ w ∈ xs, v ≤ w) : lowest xs = some v := by
  cases h : lowest xs with
  | none => rw [lowest_eq_none.1 h] at hv; cases hv
  | some y =>
    obtain ⟨hy, hleast⟩ := lowest_isLeast h
    rw [le_antisymm (hleast v hv) (hle y hy)]

section
variable {s : State} {v : Int}

theorem State.mem_ambientReadings : v ∈ s.ambientReadings ↔ ∃ g q, q < 2 ∧ s.validPoint g 11 q = some v := by
  simp only [State.ambientReadings, ambientStation, List.mem_filterMap, List.mem_cons, List.not_mem_nil, or_false, id_eq]
  constructor
  · rintro ⟨x, rfl | rfl | rfl | rfl, hx⟩
    · exact ⟨.fs0, 0, by decide, hx⟩
    · exact ⟨.fs0, 1, by decide, hx⟩
    · exact ⟨.fs1, 0, by decide, hx⟩
    · exact ⟨.fs1, 1, by decide, hx⟩
  · rintro ⟨g, q, hq, hx⟩
    refine ⟨s.validPoint g 11 q, ?_, hx⟩
    interval_cases q <;> cases g <;> simp

/-- With a valid mast reading no warmer than any other, the yard ambient is that reading. -/
theorem State.computeTa_reading {g : SegId} {q : Nat} (hq : q < 2) (hv : s.validPoint g 11 q = some v)
    (hle : ∀ h r w, r < 2 → s.validPoint h 11 r = some w → v ≤ w) : s.computeTa.ta = v := by
  have hlow : lowest s.ambientReadings = some v := by
    refine lowest_eq_some (State.mem_ambientReadings.2 ⟨g, q, hq, hv⟩) fun w hw => ?_
    obtain ⟨h, r, hr, hw⟩ := State.mem_ambientReadings.1 hw
    exact hle h r w hr hw
  rw [State.computeTa, hlow]
  rfl

theorem State.noReading (h : ∀ g q, q < 2 → s.validPoint g 11 q = none) : lowest s.ambientReadings = none := by
  rw [lowest_eq_none, List.eq_nil_iff_forall_not_mem]
  intro v hv
  obtain ⟨g, q, hq, hx⟩ := State.mem_ambientReadings.1 hv
  rw [h g q hq] at hx
  cases hx

theorem State.computeTa_designMin (h : ∀ g q, q < 2 → s.validPoint g 11 q = none) :
    s.computeTa.ta = s.settings.designMin := by
  rw [State.computeTa, State.noReading h]
  simp

/-! ### The glycol of a loop (R45, R52) -/

theorem concentrationInUse_measured (v : Int) (nominal : Nat) :
    (concentrationInUse (some v) nominal : Int) = max 0 (min 600 (min v nominal)) := by
  rw [concentrationInUse, clamp_eq_max_min (by decide)]
  omega

theorem concentrationInUse_none {nominal : Nat} (h : nominal ≤ 600) : concentrationInUse none nominal = nominal - 50 := by
  rw [concentrationInUse, clamp_eq_max_min (by decide)]
  omega

theorem State.flowFound_iff {l : LoopId} :
    s.flowFound l = true ↔ ∃ v, s.validPoint l 12 2 = some v ∧ ((s.settings.loop.get l).minFlow : Int) ≤ v := by
  rw [State.flowFound, show loopStation = 12 from rfl]
  cases s.validPoint l 12 2 <;> simp

end

/-! ### What an accepted value changes of the settings (R164) -/

section
variable {st new : Settings} {i : Item} {v : Word}

theorem Settings.Changed.port_kept (h : st.Changed i new) (hi : ∀ q, i ≠ .cls q ∧ i ≠ .rate q ∧ i ≠ .notices q) :
    new.port = st.port := by
  cases h with
  | cls p => exact absurd rfl (hi p).1
  | port hp =>
    rename_i p f hf
    rcases hp with rfl | rfl
    · exact absurd rfl (hi p).2.1
    · exact absurd rfl (hi p).2.2
  | _ => rfl

theorem Settings.accept_changed (h : st.accept i v = some new) : st.Changed i new :=
  Settings.write_changed (Settings.accept_eq_some.1 h).1

theorem Settings.accept_nominal {l : LoopId} (h : st.accept (.nominal l) v = some new) : (new.loop.get l).nominal ≤ 600 := by
  obtain ⟨x, hx, rfl⟩ := Option.map_eq_some_iff.1 (Settings.accept_eq_some.1 h).1
  rw [Settings.setLoop, PerSeg.get_modify_self]
  exact (inRange_bounds hx).2

end

/-! ### The checks of WRITE SETTING (R164) -/

section
variable {s : State} {p : PortId} {t : Telegram} {b : SettingBody} {i : Item} {new : Settings}

theorem State.writeSetting_noItem (hb : bodyWriteSetting t.body = some b) (hc : s.cls p = .supervisor)
    (hi : Item.ofCode b.item b.qualifier = none) : s.writeSetting p t = s.refuse p .malformed := by
  simp [State.writeSetting, hb, hc, hi]

theorem State.writeSetting_busy (hb : bodyWriteSetting t.body = some b) (hc : s.cls p = .supervisor)
    (hi : Item.ofCode b.item b.qualifier = some i) (hbusy : s.settingsBusy = true) :
    s.writeSetting p t = s.refuse p .busy := by
  simp [State.writeSetting, hb, hc, hi, hbusy]

theorem State.writeSetting_range (hb : bodyWriteSetting t.body = some b) (hc : s.cls p = .supervisor)
    (hi : Item.ofCode b.item b.qualifier = some i) (hbusy : s.settingsBusy = false)
    (hv : s.settings.accept i b.value = none) : s.writeSetting p t = s.refuse p .range := by
  simp [State.writeSetting, hb, hc, hi, hbusy, hv]

theorem State.writeSetting_accepted (hb : bodyWriteSetting t.body = some b) (hc : s.cls p = .supervisor)
    (hi : Item.ofCode b.item b.qualifier = some i) (hbusy : s.settingsBusy = false)
    (hv : s.settings.accept i b.value = some new) : s.writeSetting p t = s.applySetting p i new := by
  simp [State.writeSetting, hb, hc, hi, hbusy, hv]

end

/-! ### What an accepted write brings (R165) -/

section
variable {s : State} {p : PortId} {t : Telegram} {i : Item} {v : Word} {new : Settings}

/-- A port whose telegrams and replies are as they were, and that then forms a reply, has answered. -/
theorem State.Ready.answered_of_kept {u w : State} {body : List Byte} (h : s.Ready p t)
    (hkept : ∀ q, (w.ports.get q).queue = (s.ports.get q).queue ∧ (w.ports.get q).replies = (s.ports.get q).replies)
    (hu : u.ports = w.ports.modify p (Port.form body .none)) : s.Answered u p t body := by
  obtain ⟨-, -, hhead⟩ := h
  obtain ⟨rest, hqueue⟩ := List.head?_eq_some_iff.1 hhead
  obtain ⟨hq, hr, -⟩ := Port.form_cons ((hkept p).1.trans hqueue) body .none
  refine ⟨?_, ?_, fun q hne => ?_⟩
  · rw [hu, PerPort.get_modify_self, hq, hqueue, List.tail_cons]
  · rw [hu, PerPort.get_modify_self, hr, (hkept p).2]
  · rw [hu, PerPort.get_modify_other _ _ hne]
    exact hkept q

theorem State.applySetting_plain (hi : i.plain = true) : s.applySetting p i new = (s.setSettings new).reply p [0x00#8] := by
  cases i with
  | cls | passInterval | holdLimit | kp | ki | smin | minService | settleTimeout | icingInterval => rfl
  | _ => cases hi

theorem State.applySetting_same {g : SegId} (h : s.settings.accept i v = some new) (hi : i = .population g ∨ i = .mask g)
    (hsame : new.seg.get g = s.settings.seg.get g) : s.applySetting p i new = s.reply p [0x00#8] := by
  have hnew : new = s.settings := Settings.accept_same h hi hsame
  subst hnew
  rcases hi with rfl | rfl <;> simp [State.applySetting, State.settingWritten, State.setWritten, State.arbitrateFor] <;> rfl

theorem Port.form_notices (port : Port) (body : List Byte) (e : FrameEffect) : (port.form body e).notices = port.notices := by
  unfold Port.form
  cases port.queue with
  | nil => rfl
  | cons t rest => dsimp only; split <;> rfl

theorem State.noticesWritten_eq {q : PortId} : s.noticesWritten q = { s with ports := (s.noticesWritten q).ports } := by
  unfold State.noticesWritten
  split <;> rfl

/-- A port turned off loses its notice bits (R158). -/
theorem State.applySetting_notices {q : PortId} (hready : s.Ready p t) : ∃ u : State,
    s.applySetting p (.notices q) new = u ∧ u = { s with settings := new, ports := u.ports } ∧ s.Answered u p t [0x00#8] ∧
      ((new.port.get q).notices = false → (u.ports.get q).notices = 0#8) := by
  refine ⟨_, rfl, ?_, ?_, fun hoff => ?_⟩
  · exact congrArg (fun u => State.reply u p [0x00#8]) (State.noticesWritten_eq (s := s.setSettings new))
  · refine hready.answered_of_kept (w := (s.setSettings new).noticesWritten q) (fun k => ?_) rfl
    unfold State.noticesWritten
    split
    · exact ⟨rfl, rfl⟩
    · rw [State.modPort_ports, PerPort.get_modify]
      split <;> exact ⟨rfl, rfl⟩
  · change ((((s.setSettings new).noticesWritten q).ports.modify p (Port.form [0x00#8] .none)).get q).notices = 0#8
    have hwritten : ((s.setSettings new).noticesWritten q).ports = s.ports.modify q fun port => { port with notices := 0#8 } := by
      rw [State.noticesWritten, State.setSettings_settings, hoff]
      rfl
    rw [hwritten, PerPort.get_modify]
    split
    · rw [Port.form_notices, PerPort.get_modify_self]
    · rw [PerPort.get_modify_self]

theorem State.applySetting_rate {q : PortId} : s.applySetting p (.rate q) new =
    (s.setSettings new).replyWith p [0x00#8] (.lineRate q (new.port.get q).rate) := rfl

/-- A fallback value brings the loop's merge anew (R87, log 27). -/
theorem State.applySetting_fallback {l : LoopId} {m : Merge} {faults : BitVec 24} (h : s.settings.accept i v = some new)
    (hi : i = .fbTarget l ∨ i = .fbFloor l ∨ i = .fbCeiling l) (hm : m = mergeOf (new.loop.get l) (s.held l))
    (hfaults : faults = if m.conflict = true then s.faults ||| FaultFlag.conflict.mask else s.faults) :
    s.applySetting p i new = { s with
      settings := new, merge := s.merge.set m l, faults := faults
      ports := (s.noticed fun _ => (if m = s.merge.get l then 0#8 else 0x04#8) |||
        (if faults = s.faults then 0#8 else 0x20#8)).modify p (Port.form [0x00#8] .none) } := by
  have hwritten : s.applySetting p i new = ((s.setSettings new).recomputeMerge l).reply p [0x00#8] := by
    rcases hi with rfl | rfl | rfl <;> rfl
  have hport : new.port = s.settings.port := (Settings.accept_changed h).port_kept fun q => by
    rcases hi with rfl | rfl | rfl <;> exact ⟨nofun, nofun, nofun⟩
  have hnoticed : ∀ bits, (s.setSettings new).noticed bits = s.noticed bits := by
    intro bits
    unfold State.noticed
    rw [State.setSettings_settings, hport]
    rfl
  rw [hwritten, State.recomputeMerge_eq (s := s.setSettings new) (m := m) (faults := faults) hm hfaults, hnoticed]
  rfl

theorem State.applySetting_rotation {l : LoopId} : s.applySetting p (.rotation l) new = State.reply { s with
    settings := new
    alloc := s.alloc.modify l fun al => { al with
      rotation := if al.rotation = none ∧ (new.loop.get l).rotation ≠ 0 then
          some (s.now + (new.loop.get l).rotation * 3600000) else al.rotation } } p [0x00#8] := by
  have hend : ∀ al : Allocator, (match al.rotation with
      | some t => some t
      | none => rotationEnd s.now (new.loop.get l).rotation) =
      if al.rotation = none ∧ (new.loop.get l).rotation ≠ 0 then
          some (s.now + (new.loop.get l).rotation * 3600000) else al.rotation := by
    intro al
    cases al.rotation with
    | some t => simp
    | none => by_cases hzero : (new.loop.get l).rotation = 0 <;> simp [rotationEnd, hzero]
  change ((s.setSettings new).rotationWritten l).reply p [0x00#8] = _
  refine congrArg (fun al => State.reply { s with settings := new, alloc := al } p [0x00#8]) ?_
  exact congrArg (s.alloc.modify l) (funext fun al => congrArg (fun r => { al with rotation := r }) (hend al))

/-- Re-posting an output of some stations leaves its last posted value unknown. -/
theorem State.repostAll_postedValue {l : LoopId} {as : List Nat} {o : OutputId} {a : Nat} (ha : a ∈ as) :
    ((s.repostAll l as o).commands l a).postedValue o = none := by
  have hmapped : (s.repostAll l as o).commands? l a =
      (s.commands? l a).map fun c => if as.contains c.addr then c.forget o else c :=
    State.modAlloc_commands (fun c => by split <;> cases o <;> rfl) rfl a
  rw [State.commands, hmapped]
  cases hc : s.commands? l a with
  | none => cases o <;> rfl
  | some c =>
    rw [Option.map_some, State.commands?_addr hc, if_pos (List.contains_iff_mem.2 ha)]
    exact c.forget_postedValue o

theorem State.applySetting_guardCap {l : LoopId} (hready : s.Ready p t) : ∃ u : State,
    s.applySetting p (.guardCap l) new = u ∧ u = { s with settings := new, alloc := u.alloc, ports := u.ports } ∧
      s.Answered u p t [0x00#8] ∧
      ∀ x ∈ (s.fpb.get l).units, x.frost = .guard → (u.commands l x.addr).fan.posted = none := by
  refine ⟨_, rfl, rfl, hready.answered_of_kept (w := s) (fun _ => ⟨rfl, rfl⟩) rfl, fun x hx hguard => ?_⟩
  have hfan : x.addr ∈ ((s.fpb.get l).units.filter fun u => u.frost == .guard).map UnitFrost.addr :=
    List.mem_map_of_mem (List.mem_filter.2 ⟨hx, by simp [hguard]⟩)
  have hposted := State.repostAll_postedValue (s := s.setSettings new) (l := l) (o := .fan) hfan
  exact Option.map_eq_none_iff.1 hposted

theorem State.applySetting_block {k : Bank} : s.applySetting p (.block k) new = State.reply { s with
    settings := new, accessMap := s.accessMap.filter fun e => bankOf e.index != k } p [0x00#8] := rfl

/-! ### The settings that freeze protection computes on -/

/-- What a write of a setting reaches of freeze protection (R55). -/
def Item.freezeEvent : Item → FpbEvent
  | .nominal l => { FpbEvent.nothing with cu := onlyLoop l }
  | .minFlow l => { FpbEvent.nothing with flow := onlyLoop l }
  | .freeze _ => { FpbEvent.nothing with table := true }
  | .guardBand => { FpbEvent.nothing with guard := true }
  | .designMin => { FpbEvent.nothing with ta := true }
  | _ => FpbEvent.nothing

/-- The state once such a write has reached freeze protection. -/
def State.frozen (s : State) (i : Item) (new : Settings) : State := (s.setSettings new).fpbEvent i.freezeEvent

theorem State.applySetting_frosts (hi : i.frosts = true) : s.applySetting p i new = (s.frozen i new).reply p [0x00#8] := by
  cases i with
  | nominal | minFlow | freeze | guardBand | designMin => rfl
  | _ => cases hi

theorem State.frozen_only : (s.frozen i new).reply p [0x00#8] = { s with
    settings := new, fpb := (s.frozen i new).fpb, ta := (s.frozen i new).ta, alloc := (s.frozen i new).alloc
    faults := (s.frozen i new).faults, ports := ((s.frozen i new).reply p [0x00#8]).ports } :=
  congrArg (fun u => State.reply u p [0x00#8]) (State.fpbEvent_only (s.setSettings new) i.freezeEvent)

theorem State.frozen_answered (hready : s.Ready p t) : s.Answered ((s.frozen i new).reply p [0x00#8]) p t [0x00#8] := by
  refine hready.answered_of_kept (w := s.frozen i new) (fun q => ?_) rfl
  rw [show (s.frozen i new).ports.get q = _ from (State.Noticed.fpbEvent (s.setSettings new) i.freezeEvent).get q]
  exact ⟨rfl, rfl⟩

theorem State.reply_freeze {u : State} {body : List Byte} : (u.reply p body).fpb = u.fpb ∧ (u.reply p body).ta = u.ta ∧
    ∀ f, (u.reply p body).hasFault f = u.hasFault f := ⟨rfl, rfl, fun _ => rfl⟩

theorem State.frozen_hasFault {f : FaultFlag} (h : s.hasFault f = true) : (s.frozen i new).hasFault f = true :=
  State.fpbEvent_keeps_fault (s := s.setSettings new) h _

theorem State.frozen_nominal {l : LoopId} (h : s.settings.accept (.nominal l) v = some new) :
    let u := s.frozen (.nominal l) new
    u.ta = s.ta ∧ (∀ k, k ≠ l → u.fpb.get k = s.fpb.get k) ∧
      (u.fpb.get l).flowAdequate = (s.fpb.get l).flowAdequate ∧
      (∀ v, s.validPoint l 12 3 = some v → ((u.fpb.get l).cu : Int) = max 0 (min 600 (min v (new.loop.get l).nominal))) ∧
      (s.validPoint l 12 3 = none → (u.fpb.get l).cu = (new.loop.get l).nominal - 50) ∧
      (u.fpb.get l).fp = if (u.fpb.get l).cu = (s.fpb.get l).cu then (s.fpb.get l).fp
        else freezePoint new.freezeTable (u.fpb.get l).cu := by
  intro u
  have hcu : (u.fpb.get l).cu = concentrationInUse (s.validPoint l 12 3) (new.loop.get l).nominal := by
    refine (State.fpbEvent_cu (s.setSettings new) _ l).trans (if_pos ?_)
    cases l <;> rfl
  refine ⟨State.fpbEvent_ambient _ _, fun k hk => ?_, ?_, fun v hv => ?_, fun hnone => ?_, ?_⟩
  · have hother : (onlyLoop l).get k = false := onlyLoop_other hk
    refine State.fpbEvent_glycol (s := s.setSettings new) rfl rfl rfl hother ?_ ?_ rfl <;> cases k <;> rfl
  · refine (State.fpbEvent_flow (s.setSettings new) _ l).trans ?_
    cases l <;> rfl
  · rw [hcu, hv, concentrationInUse_measured]
  · rw [hcu, hnone, concentrationInUse_none (Settings.accept_nominal h)]
  · refine (State.fpbEvent_fp (s.setSettings new) _ l).trans ?_
    by_cases hsame : (u.fpb.get l).cu = (s.fpb.get l).cu
    · rw [if_pos hsame]
      exact if_neg fun hc => hc.elim nofun fun hne => hne hsame
    · rw [if_neg hsame]
      exact if_pos (.inr hsame)

theorem State.frozen_minFlow {l : LoopId} :
    let u := s.frozen (.minFlow l) new
    u.ta = s.ta ∧ (∀ k, k ≠ l → u.fpb.get k = s.fpb.get k) ∧
      (u.fpb.get l).cu = (s.fpb.get l).cu ∧ (u.fpb.get l).fp = (s.fpb.get l).fp ∧
      ((u.fpb.get l).flowAdequate = true ↔
        ∃ v, s.validPoint l 12 2 = some v ∧ ((new.loop.get l).minFlow : Int) ≤ v) := by
  intro u
  have hcu : (u.fpb.get l).cu = (s.fpb.get l).cu := by
    refine (State.fpbEvent_cu (s.setSettings new) _ l).trans ?_
    cases l <;> rfl
  refine ⟨State.fpbEvent_ambient _ _, fun k hk => ?_, hcu, ?_, ?_⟩
  · have hother : (onlyLoop l).get k = false := onlyLoop_other hk
    refine State.fpbEvent_glycol (s := s.setSettings new) rfl rfl rfl ?_ hother ?_ rfl <;> cases k <;> rfl
  · refine (State.fpbEvent_fp (s.setSettings new) _ l).trans ?_
    exact if_neg fun hc => hc.elim nofun fun hne => hne hcu
  · have hflow : (u.fpb.get l).flowAdequate = (s.setSettings new).flowFound l := by
      refine (State.fpbEvent_flow (s.setSettings new) _ l).trans (if_pos ?_)
      cases l <;> rfl
    rw [hflow]
    exact State.flowFound_iff

/-- An event that computes no glycol leaves each loop's concentration and flow mark. -/
theorem State.fpbEvent_glycolKept {e : FpbEvent} (hcu : e.cu = noLoop) (hflow : e.flow = noLoop) (l : LoopId) :
    ((s.fpbEvent e).fpb.get l).cu = (s.fpb.get l).cu ∧
      ((s.fpbEvent e).fpb.get l).flowAdequate = (s.fpb.get l).flowAdequate := by
  rw [State.fpbEvent_cu, State.fpbEvent_flow, hcu, hflow]
  cases l <;> exact ⟨rfl, rfl⟩

/-- Nor, where no table entry was written, its freeze point. -/
theorem State.fpbEvent_fpKept {e : FpbEvent} (hcu : e.cu = noLoop) (hflow : e.flow = noLoop) (htable : e.table = false)
    (l : LoopId) : ((s.fpbEvent e).fpb.get l).fp = (s.fpb.get l).fp := by
  rw [State.fpbEvent_fp]
  exact if_neg fun hc => hc.elim (by simp [htable]) fun hne => hne (State.fpbEvent_glycolKept hcu hflow l).1

theorem State.frozen_freeze {n : Nat} (l : LoopId) :
    let u := s.frozen (.freeze n) new
    (u.fpb.get l).cu = (s.fpb.get l).cu ∧ (u.fpb.get l).flowAdequate = (s.fpb.get l).flowAdequate ∧
      (u.fpb.get l).fp = freezePoint new.freezeTable (s.fpb.get l).cu := by
  intro u
  obtain ⟨hcu, hflow⟩ : (u.fpb.get l).cu = (s.fpb.get l).cu ∧ (u.fpb.get l).flowAdequate = (s.fpb.get l).flowAdequate :=
    State.fpbEvent_glycolKept (s := s.setSettings new) rfl rfl l
  refine ⟨hcu, hflow, ?_⟩
  rw [← hcu]
  exact (State.fpbEvent_fp (s.setSettings new) _ l).trans (if_pos (.inl rfl))

theorem State.frozen_designMin :
    let u := s.frozen .designMin new
    ((∀ g q, q < 2 → s.validPoint g 11 q = none) → u.ta = new.designMin ∧ u.hasFault .ambientLost = true) ∧
      (∀ g q v, q < 2 → s.validPoint g 11 q = some v →
        (∀ h r w, r < 2 → s.validPoint h 11 r = some w → v ≤ w) → u.ta = v) ∧
      ∀ l, (u.fpb.get l).cu = (s.fpb.get l).cu ∧ (u.fpb.get l).fp = (s.fpb.get l).fp ∧
        (u.fpb.get l).flowAdequate = (s.fpb.get l).flowAdequate := by
  intro u
  have hta : u.ta = (s.setSettings new).computeTa.ta := State.fpbEvent_ambient _ _
  refine ⟨fun hnone => ⟨?_, ?_⟩, fun g q v hq hv hle => ?_, fun l => ?_⟩
  · exact hta.trans (State.computeTa_designMin (s := s.setSettings new) hnone)
  · exact State.fpbEvent_ambientLost rfl (State.noReading (s := s.setSettings new) hnone)
  · exact hta.trans (State.computeTa_reading (s := s.setSettings new) hq hv hle)
  · obtain ⟨hcu, hflow⟩ := State.fpbEvent_glycolKept (s := s.setSettings new) (e := Item.designMin.freezeEvent) rfl rfl l
    exact ⟨hcu, State.fpbEvent_fpKept (s := s.setSettings new) rfl rfl rfl l, hflow⟩

theorem State.frozen_guardBand (l : LoopId) :
    let u := s.frozen .guardBand new
    (u.fpb.get l).cu = (s.fpb.get l).cu ∧
      (u.fpb.get l).fp = (s.fpb.get l).fp ∧ (u.fpb.get l).flowAdequate = (s.fpb.get l).flowAdequate ∧
      (u.fpb.get l).ma = s.ta - ((s.fpb.get l).fp + new.guardBand) ∧
      (u.fpb.get l).permitted = (if (s.fpb.get l).permitted then decide (30 ≤ (u.fpb.get l).ma)
        else decide (50 ≤ (u.fpb.get l).ma)) ∧
      ∀ (n : Nat) x, (s.fpb.get l).units[n]? = some x → ∃ y, (u.fpb.get l).units[n]? = some y ∧
        y.addr = x.addr ∧ y.shortfall = x.shortfall ∧ y.iced = x.iced ∧
        y.margin = coilMargin (s.outletUsed l x.addr) (s.fpb.get l).fp new.guardBand ∧
        y.frost = frostNext x.frost y.margin := by
  intro u
  obtain ⟨hcu, hflow⟩ : (u.fpb.get l).cu = (s.fpb.get l).cu ∧ (u.fpb.get l).flowAdequate = (s.fpb.get l).flowAdequate :=
    State.fpbEvent_glycolKept (s := s.setSettings new) rfl rfl l
  have hfp : (u.fpb.get l).fp = (s.fpb.get l).fp := State.fpbEvent_fpKept (s := s.setSettings new) rfl rfl rfl l
  have hta : u.ta = s.ta := State.fpbEvent_ambient _ _
  obtain ⟨hma, hpermitted⟩ :=
    State.fpbEvent_judged (s := s.setSettings new) (l := l) (e := Item.guardBand.freezeEvent)
      (by simp [reachesMa, Item.freezeEvent])
  refine ⟨hcu, hfp, hflow, ?_, hpermitted, fun n x hx => ?_⟩
  · refine hma.trans ?_
    rw [show ((s.setSettings new).fpbEvent Item.guardBand.freezeEvent).ta = s.ta from hta,
      show (((s.setSettings new).fpbEvent Item.guardBand.freezeEvent).fpb.get l).fp = _ from hfp]
    rfl
  · have hunits : (u.fpb.get l).units = (s.fpb.get l).units.map ((s.setSettings new).evaluateUnit l) :=
      State.fpbEvent_guard_units (s.setSettings new) l
    refine ⟨(s.setSettings new).evaluateUnit l x, ?_, rfl, rfl, rfl, rfl, rfl⟩
    rw [hunits, List.getElem?_map, hx]
    rfl

end

/-- Settles O43: each refusal answers and does nothing else; what an accepted write does is what applying the setting does,
item by item. -/
theorem writeSettingApplies : Obligations.WriteSettingApplies := by
  intro s p t b hready hkind hbody hcls run busy
  have hrun : s.phase = .running := hready.1
  have hexec : run = .next (s.writeSetting p t).kickPorts := exec_writeSetting_ready hready hkind
  have hfree : ¬busy → s.settingsBusy = false := fun h =>
    Bool.eq_false_iff.2 fun hc => h (State.settingsBusy_iff.1 hc)
  refine ⟨fun hnone => ?malformed, fun i hi => ⟨fun hbusy => ?busy, fun hbusy hv => ?range, fun new hbusy hv => ?accepted⟩⟩
  case malformed => exact hready.onlyAnswers hexec (State.writeSetting_noItem hbody hcls hnone)
  case busy => exact hready.onlyAnswers hexec (State.writeSetting_busy hbody hcls hi (State.settingsBusy_iff.2 hbusy))
  case range => exact hready.onlyAnswers hexec (State.writeSetting_range hbody hcls hi (hfree hbusy) hv)
  case accepted =>
    intro done
    have happly : run = .next (s.applySetting p i new).kickPorts := by
      rw [hexec, State.writeSetting_accepted hbody hcls hi (hfree hbusy) hv]
    have hdone : ∀ w : State, s.applySetting p i new = w.reply p [0x00#8] → w.phase = .running →
        run = .next (w.onlyAnswering p [0x00#8]) := fun w heq hw => by
      rw [happly, heq, State.reply_kickPorts hw]
    refine ⟨fun hplain => ?plain, fun g hg hsame => ?same, fun q hq => ?notices, fun q hq => ?rate, fun l hl => ?fallback,
      fun l hl => ?rotation, fun l hl => ?guardCap, fun k hk => ?block, fun hfrosts => ?frosts⟩
    case plain => exact hdone (s.setSettings new) (State.applySetting_plain hplain) hrun
    case same => exact hdone s (State.applySetting_same hv hg hsame) hrun
    case notices =>
      subst hq
      obtain ⟨u, heq, hu⟩ := State.applySetting_notices (q := q) (new := new) hready
      exact ⟨u, by rw [happly, heq], hu⟩
    case rate =>
      subst hq
      have hphase : (s.applySetting p (.rate q) new).phase = .running := hrun
      rw [happly, State.kickPorts_running hphase]
      rfl
    case fallback =>
      intro m faults
      have heq := State.applySetting_fallback (p := p) (m := m) (faults := faults) hv hl rfl rfl
      refine ⟨s.applySetting p i new, happly, heq, ?_, fun hheld old => ?_⟩
      · rw [heq]
        exact hready.answered_of_noticed rfl
      · change mergeOf (new.loop.get l) (s.held l) = _
        cases hlist : s.held l with
        | nil => exact absurd hlist hheld
        | cons r rs => rfl
    case rotation =>
      subst hl
      have hwritten := hdone _ State.applySetting_rotation hrun
      exact hwritten
    case guardCap =>
      subst hl
      obtain ⟨u, heq, hu⟩ := State.applySetting_guardCap (l := l) (new := new) hready
      exact ⟨u, by rw [happly, heq], hu⟩
    case block =>
      subst hk
      have hwritten := hdone _ State.applySetting_block hrun
      exact hwritten
    case frosts =>
      refine ⟨(s.frozen i new).reply p [0x00#8], by rw [happly, State.applySetting_frosts hfrosts], State.frozen_only,
        State.frozen_answered hready, fun f hf => State.frozen_hasFault hf, fun l hl => ?nominal, fun l hl => ?minFlow,
        fun n hn => ?freeze, fun hd => ?designMin, fun hg => ?guardBand⟩
      case nominal => subst hl; simpa only [State.reply_freeze] using State.frozen_nominal hv
      case minFlow => subst hl; simpa only [State.reply_freeze] using State.frozen_minFlow
      case freeze => subst hn; simpa only [State.reply_freeze] using ⟨State.fpbEvent_ambient _ _, State.frozen_freeze⟩
      case designMin => subst hd; simpa only [State.reply_freeze] using State.frozen_designMin
      case guardBand => subst hg; simpa only [State.reply_freeze] using ⟨State.fpbEvent_ambient _ _, State.frozen_guardBand⟩

end Sys2Proof.Machine
end

section
/-! What the restart of a segment needs of shared operations: read-throughs answered one after another, notice bits that an
operation leaves, and what an event of freeze protection tells. -/

namespace Sys2Proof.Machine

/-! ### Read-throughs answered one after another (R37) -/

section
variable {s : State} {g : SegId}

/-- Answering some read-throughs changes the ports alone: each forms its replies in turn, from the values that stand. -/
theorem State.answerAll_eq (es : List ReadThrough) (s : State) : es.foldl (fun t e => t.replyReadThrough g e) s = { s with
    ports := es.foldl (fun ports e => ports.modify e.port (Port.form (s.pointReply g e.station e.target e.address) .none))
      s.ports } := by
  induction es generalizing s with
  | nil => rfl
  | cons e es ih => rw [List.foldl_cons, ih]; rfl

theorem answerAll_port (f : ReadThrough → List Byte) (p : PortId) (es : List ReadThrough) (ports : PerPort Port) :
    (es.foldl (fun ports e => ports.modify e.port (Port.form (f e) .none)) ports).get p =
      (es.filter fun e => e.port == p).foldl (fun port e => port.form (f e) .none) (ports.get p) := by
  induction es generalizing ports with
  | nil => rfl
  | cons e es ih =>
    rw [List.foldl_cons, ih]
    by_cases hp : e.port = p
    · rw [List.filter_cons_of_pos (by simp [hp]), List.foldl_cons, ← hp, PerPort.get_modify_self]
    · rw [List.filter_cons_of_neg (by simpa using hp), PerPort.get_modify_other _ _ (Ne.symm hp)]

/-- A port with no read-through among those answered is as it was. -/
theorem State.answerAll_other {es : List ReadThrough} {p : PortId} (h : ∀ e ∈ es, e.port ≠ p) :
    (es.foldl (fun t e => t.replyReadThrough g e) s).ports.get p = s.ports.get p := by
  have hnone : es.filter (fun e => e.port == p) = [] := List.filter_eq_nil_iff.2 fun e he => by simpa using h e he
  rw [State.answerAll_eq, answerAll_port, hnone]
  rfl

/-- A port with one read-through among those answered forms its reply. -/
theorem State.answerAll_one {es : List ReadThrough} {e : ReadThrough} (h : es.filter (fun x => x.port == e.port) = [e]) :
    (es.foldl (fun t e => t.replyReadThrough g e) s).ports.get e.port =
      (s.ports.get e.port).form (s.pointReply g e.station e.target e.address) .none := by
  rw [State.answerAll_eq, answerAll_port, h]
  rfl

theorem State.answerAll_notices (es : List ReadThrough) (p : PortId) :
    ((es.foldl (fun t e => t.replyReadThrough g e) s).ports.get p).notices = (s.ports.get p).notices := by
  have hform : ∀ (f : ReadThrough → List Byte) (xs : List ReadThrough) (port : Port),
      (xs.foldl (fun port e => port.form (f e) .none) port).notices = port.notices := by
    intro f xs
    induction xs with
    | nil => exact fun _ => rfl
    | cons x xs ih => exact fun port => (ih _).trans (Port.form_notices ..)
  rw [State.answerAll_eq, answerAll_port, hform]

end

/-! ### What an event of freeze protection is made of -/

/-- A relation between states that each step of an event of freeze protection satisfies. -/
structure FreezeSteps (P : State → State → Prop) : Prop where
  refl : ∀ s, P s s
  trans : ∀ {s u t}, P s u → P u t → P s t
  modFpb : ∀ s l f, P s (s.modFpb l f)
  setTa : ∀ s x, P s (s.setTa x)
  repostAll : ∀ s l as o, P s (s.repostAll l as o)
  repost : ∀ s l a o, P s (s.repost l a o)
  notifyFrost : ∀ s cause, P s (s.notifyIf cause .frost)
  setFaultIf : ∀ s cause f, P s (s.setFaultIf cause f)

section
variable {P : State → State → Prop} (h : FreezeSteps P)
include h

theorem FreezeSteps.computeMa (s : State) (l : LoopId) : P s (s.computeMa l) := by
  unfold State.computeMa
  dsimp only
  split
  · exact h.modFpb _ _ _
  · exact h.trans (h.modFpb _ _ _) (h.repostAll _ _ _ _)

theorem FreezeSteps.recomputeCap (s : State) (l : LoopId) : P s (s.recomputeCap l) := by
  unfold State.recomputeCap
  dsimp only
  split
  · exact h.modFpb _ _ _
  · exact h.trans (h.modFpb _ _ _) (h.repost _ _ _ _)

theorem FreezeSteps.fpbFrost (s : State) (l : LoopId) (reached : UnitFrost → Bool) (restart : Bool) :
    P s (State.fpbFrost l reached restart s) := by
  unfold State.fpbFrost
  dsimp only
  refine h.trans (h.trans ?_ (h.notifyFrost _ _)) (h.setFaultIf _ _ _)
  have hunits := fun new as => h.trans (h.trans (h.modFpb s l fun f => { f with units := new }) (h.repostAll _ l as .fan))
    (h.repostAll _ l as .valve)
  split
  · exact hunits _ _
  · exact h.trans (hunits _ _) (h.recomputeCap _ _)

theorem FreezeSteps.fpbEvent (s : State) (e : FpbEvent) : P s (s.fpbEvent e) := by
  have hread : P s (s.fpbRead e) := by
    have hglycol : ∀ u k, P u (State.fpbGlycol e k u) := fun u k => h.modFpb _ _ _
    refine h.trans (h.trans (hglycol s .fs0) (hglycol _ .fs1)) ?_
    change P _ (State.fpbAmbient e _)
    unfold State.fpbAmbient State.computeTa
    split
    · split
      · exact h.setTa _ _
      · exact h.trans (h.setTa _ _) (h.setFaultIf _ true _)
    · exact h.refl _
  have hjudged : P s (s.fpbJudged e) := by
    refine h.trans hread ?_
    unfold State.fpbJudged
    dsimp only
    split <;> split
    · exact h.trans (h.computeMa _ _) (h.computeMa _ _)
    · exact h.computeMa _ _
    · exact h.computeMa _ _
    · exact h.refl _
  rw [State.fpbEvent_eq]
  exact h.trans hjudged (h.trans (h.fpbFrost _ _ _ _) (h.fpbFrost _ _ _ _))

end

/-! ### Notice bits that an operation leaves -/

/-- The notice bits of a mask are as they were, on every port. -/
def State.BitsKept (m : Byte) (s u : State) : Prop :=
  ∀ p, (u.ports.get p).notices &&& m = (s.ports.get p).notices &&& m

section
variable {s u t : State} {m : Byte}

theorem State.BitsKept.of_eq (h : u.ports = s.ports) : State.BitsKept m s u := fun p => by rw [h]

theorem State.BitsKept.trans (h : State.BitsKept m s u) (k : State.BitsKept m u t) : State.BitsKept m s t :=
  fun p => (k p).trans (h p)

theorem State.BitsKept.noticed {bits : PortId → Byte} (hu : u.ports = s.noticed bits) (h : ∀ p, bits p &&& m = 0#8) :
    State.BitsKept m s u := fun p => by
  rw [hu, State.noticed_get]
  split
  · exact (BitVec.and_or_distrib_right ..).trans (by rw [h p, BitVec.or_zero])
  · rfl

theorem State.BitsKept.notifyIf {b : NoticeBit} (h : b.mask &&& m = 0#8) (cause : Bool) :
    State.BitsKept m s (s.notifyIf cause b) := by
  refine .noticed (by rw [State.notifyIf_eq]) fun p => ?_
  cases cause
  · exact BitVec.zero_and
  · exact h

theorem State.BitsKept.setFaultIf (h : 0x20#8 &&& m = 0#8) (cause : Bool) (f : FaultFlag) :
    State.BitsKept m s (s.setFaultIf cause f) := by
  have hbyte : ∀ (c : Prop) [Decidable c], (if c then 0#8 else 0x20#8) &&& m = 0#8 := fun c _ => by
    split
    · exact BitVec.zero_and
    · exact h
  exact .noticed (by rw [State.setFaultIf_noticed rfl]) fun p => hbyte _

/-- Freeze protection gives FROST and FAULT notices alone. -/
theorem State.BitsKept.steps (hfrost : 0x01#8 &&& m = 0#8) (hfault : 0x20#8 &&& m = 0#8) : FreezeSteps (State.BitsKept m) where
  refl _ _ := rfl
  trans := .trans
  modFpb _ _ _ := .of_eq rfl
  setTa _ _ := .of_eq rfl
  repostAll _ _ _ _ := .of_eq rfl
  repost _ _ _ _ := .of_eq rfl
  notifyFrost _ _ := .notifyIf hfrost _
  setFaultIf _ _ _ := .setFaultIf hfault _ _

theorem State.BitsKept.fpbEvent (hfrost : 0x01#8 &&& m = 0#8) (hfault : 0x20#8 &&& m = 0#8) (e : FpbEvent) :
    State.BitsKept m s (s.fpbEvent e) := (State.BitsKept.steps hfrost hfault).fpbEvent s e

end

/-! ### What an event of freeze protection tells (R61) -/

theorem mem_frostChanges {us : List UnitFrost} {f : UnitFrost → UnitFrost} {u : UnitFrost} (hu : u ∈ us)
    (hf : (f u).frost ≠ u.frost) : f u ∈ frostChanges us (us.map f) := by
  induction us with
  | nil => cases hu
  | cons v us ih =>
    rw [List.map_cons, frostChanges]
    rcases List.mem_cons.1 hu with rfl | hu
    · rw [if_neg (Ne.symm hf)]
      exact List.mem_cons_self
    · split
      · exact ih hu
      · exact List.mem_cons_of_mem _ (ih hu)

section
variable {s : State} {e : FpbEvent} {l : LoopId} {reached : UnitFrost → Bool} {restart : Bool} {v : UnitFrost} {p : PortId}

theorem State.fpbFrost_tells (hv : v ∈ frostChanges (s.fpb.get l).units (s.unitsEvaluated l reached))
    (henabled : (s.settings.port.get p).notices = true) :
    ((State.fpbFrost l reached restart s).ports.get p).notices &&& 0x01#8 = 0x01#8 := by
  have hchanged : (frostChanges (s.fpb.get l).units (s.unitsEvaluated l reached)).isEmpty = false :=
    List.isEmpty_eq_false_iff_exists_mem.2 ⟨v, hv⟩
  unfold State.fpbFrost
  dsimp only
  refine (State.Noticed.setFaultIf _ _ _).keeps ?_
  rw [show (s.fpb.get l).units.map (fun u => if reached u then s.evaluateUnit l u else u) = s.unitsEvaluated l reached from rfl,
    hchanged, Bool.not_false, Bool.false_and, if_neg Bool.false_ne_true, State.notifyIf_eq]
  dsimp only
  rw [State.noticed_get, if_pos (by simpa using henabled)]
  exact and_eq_of_or (.inr rfl)

theorem State.fpbFrost_protects (hv : v ∈ frostChanges (s.fpb.get l).units (s.unitsEvaluated l reached))
    (hprotect : v.frost = .protect) : (State.fpbFrost l reached restart s).hasFault .frostProtect = true := by
  have hany : (frostChanges (s.fpb.get l).units (s.unitsEvaluated l reached)).any (fun u => u.frost == .protect) = true :=
    List.any_eq_true.2 ⟨v, hv, by rw [hprotect]; rfl⟩
  unfold State.fpbFrost
  dsimp only
  rw [show (s.fpb.get l).units.map (fun u => if reached u then s.evaluateUnit l u else u) = s.unitsEvaluated l reached from rfl,
    hany, State.setFaultIf, if_pos rfl, State.hasFault, State.setFault_faults, BitVec.getLsbD_or, FaultFlag.mask_bit,
    Bool.or_true]

/-- A frost evaluation of one event finds the loop's units as they were, and leaves them as the event does. -/
theorem State.fpbEvent_evaluates (s : State) (e : FpbEvent) (l : LoopId) : ∃ t : State, s.Noticed t ∧
    t.fpb.get l = (s.fpbJudged e).fpb.get l ∧ t.unitsEvaluated l (e.reaches s l) = s.unitsAfter e l ∧
    (State.fpbFrost l (e.reaches s l) (e.restart.get l) t).Noticed (s.fpbEvent e) ∧
    ∀ f, (State.fpbFrost l (e.reaches s l) (e.restart.get l) t).hasFault f = true → (s.fpbEvent e).hasFault f = true := by
  have hjudged : s.Noticed (s.fpbJudged e) := by
    refine (State.Noticed.fpbRead s e).trans ?_
    unfold State.fpbJudged
    dsimp only
    split <;> split <;> exact .of_eq (by simp) (by simp)
  have hunits := congrArg Fpb.units (State.fpbEvent_get s e l)
  rw [State.fpbEvent_eq, State.fpbFrost_get] at hunits
  rw [State.fpbEvent_eq]
  cases l with
  | fs0 =>
    refine ⟨s.fpbJudged e, hjudged, rfl, ?_, .fpbFrost .., fun f hf => State.fpbFrost_keeps_fault hf _ _ _⟩
    rw [if_neg (by decide), State.fpbFrost_get, if_pos rfl] at hunits
    exact hunits
  | fs1 =>
    refine ⟨State.fpbFrost .fs0 (e.reaches s .fs0) (e.restart.get .fs0) (s.fpbJudged e), hjudged.trans (.fpbFrost ..), ?_, ?_,
      .of_eq rfl rfl, fun _ => id⟩
    · rw [State.fpbFrost_get, if_neg (by decide)]
    · rw [if_pos rfl] at hunits
      exact hunits

/-- A unit whose frost state an event changes is told, with FROST PROTECT where it enters PROTECT. -/
theorem State.fpbEvent_tells {f : UnitFrost → UnitFrost} {u : UnitFrost} (hall : s.unitsAfter e l = (s.fpb.get l).units.map f)
    (hu : u ∈ (s.fpb.get l).units) (hf : (f u).frost ≠ u.frost) :
    (∀ p, (s.settings.port.get p).notices = true → ((s.fpbEvent e).ports.get p).notices &&& 0x01#8 = 0x01#8) ∧
      ((f u).frost = .protect → (s.fpbEvent e).hasFault .frostProtect = true) := by
  obtain ⟨t, hnoticed, hfpb, hunits, hafter, hfaults⟩ := State.fpbEvent_evaluates s e l
  have hsame : (t.fpb.get l).units = (s.fpb.get l).units := by rw [hfpb, State.fpbJudged_get, State.fpbRead_get]
  have hv : f u ∈ frostChanges (t.fpb.get l).units (t.unitsEvaluated l (e.reaches s l)) := by
    rw [hunits, hall, hsame]
    exact mem_frostChanges hu hf
  exact ⟨fun p hp => hafter.keeps (State.fpbFrost_tells hv (by rw [hnoticed.settings]; exact hp)),
    fun hprotect => hfaults _ (State.fpbFrost_protects hv hprotect)⟩

end

/-! ### Command records with nothing posted -/

/-- The last posted values of a station are unknown. -/
def StationCommands.unposted (c : StationCommands) : Prop := ∀ o, c.forget o = c

/-- Where the last posted values of a loop's stations are unknown, its command records are as they were. -/
def State.UnpostedKept (l : LoopId) (s u : State) : Prop :=
  (∀ c ∈ (s.alloc.get l).commands, c.unposted) → (u.alloc.get l).commands = (s.alloc.get l).commands

theorem State.UnpostedKept.modAlloc {l k : LoopId} (s : State) (F : StationCommands → StationCommands)
    (hF : ∀ c : StationCommands, c.unposted → F c = c) :
    State.UnpostedKept l s (s.modAlloc k fun al => { al with commands := al.commands.map F }) := fun h => by
  rw [State.modAlloc_alloc, PerSeg.get_modify]
  split
  · refine (List.map_congr_left fun c hc => hF c (h c hc)).trans (List.map_id _)
  · rfl

/-- Freeze protection posts nothing anew where nothing is known to be posted (R75). -/
theorem State.UnpostedKept.fpbEvent (l : LoopId) (s : State) (e : FpbEvent) : State.UnpostedKept l s (s.fpbEvent e) :=
  FreezeSteps.fpbEvent (P := State.UnpostedKept l)
    { refl := fun _ _ => rfl
      trans := fun h k hs => (k (by rw [h hs]; exact hs)).trans (h hs)
      modFpb := fun _ _ _ _ => rfl
      setTa := fun _ _ _ => rfl
      repostAll := fun _ _ _ o => .modAlloc _ _ fun c hc => by split <;> simp [hc o]
      repost := fun _ _ _ o => .modAlloc _ _ fun c hc => by split <;> simp [hc o]
      notifyFrost := fun _ _ _ => by simp
      setFaultIf := fun _ _ _ _ => by simp } s e

end Sys2Proof.Machine
end

section
/-! A segment restarted by a write (R165): what each block is left with, what is told, and how discovery begins. -/

namespace Sys2Proof.Machine

/-- The state once every block of a segment has been restarted on new settings. -/
def State.restarted (s : State) (new : Settings) (g : SegId) (changed : Bool) : State :=
  ((s.setSettings new).blocksRestarted g changed).fpbRestart g

/-- The controller of a restarted segment (R43). -/
def Fsc.restarted (f : Fsc) : Fsc := { f with
  activity := abandoned f.activity, passRunning := false, startDue := false, passNumber := 0#16, passTimer := none
  scanPosition := 0, revived := [], readThroughs := [], owed := none, pollArmed := false, starvation := 0 }

/-- The allocator of a restarted segment (R92, R106). -/
def Allocator.restarted (pop : List Nat) (changed : Bool) (al : Allocator) : Allocator := { al with
  passes := 0, order := if changed then unitsOf pop else al.order
  commands := commandsAfterRestart (outputStations pop) al.commands }

/-- Some port's override records of a restarted segment whose station is gone (R136). -/
def State.dropsRecordOf (s : State) (g : SegId) (p : PortId) : Bool :=
  s.overrides.any fun r => !s.overrideStays g r && r.owner == p

section
variable {s : State} {new : Settings} {g : SegId} {changed : Bool}

/-! ### The blocks -/

theorem State.restarted_slots : (s.restarted new g changed).slots = s.slots := by
  rw [State.restarted, State.blocksRestarted_frame]
  simp

theorem State.restarted_fsc : (s.restarted new g changed).fsc.get g = (s.fsc.get g).restarted := by
  have hfsc : (s.restarted new g changed).fsc = s.fsc.modify g Fsc.restarted := by
    rw [State.restarted, State.blocksRestarted_frame]
    simp
    rfl
  rw [hfsc, PerSeg.get_modify_self]

/-- The stations' command records after a restart have nothing posted. -/
theorem commandsAfterRestart_unposted {as : List Nat} {old : List StationCommands} {c : StationCommands}
    (hc : c ∈ commandsAfterRestart as old) : c.unposted := by
  obtain ⟨a, -, rfl⟩ := List.mem_map.1 hc
  intro o
  split <;> cases o <;> rfl

theorem State.blocksRestarted_alloc : (s.blocksRestarted g changed).alloc =
    s.alloc.modify g (Allocator.restarted (s.settings.population g) changed) := by
  rw [State.blocksRestarted_frame]
  rfl

theorem State.restarted_alloc : (s.restarted new g changed).alloc.get g =
    (s.alloc.get g).restarted (new.population g) changed := by
  have hblocks : ((s.setSettings new).blocksRestarted g changed).alloc.get g =
      (s.alloc.get g).restarted (new.population g) changed := by
    rw [State.blocksRestarted_alloc, PerSeg.get_modify_self]
    rfl
  have hunits : (((s.setSettings new).blocksRestarted g changed).modFpb g
      (Fpb.restarted (unitsOf (((s.setSettings new).blocksRestarted g changed).settings.population g)))).alloc.get g =
      (s.alloc.get g).restarted (new.population g) changed := hblocks
  have hcommands := State.UnpostedKept.fpbEvent g _ (.restarted g) fun c hc => by
    rw [hunits] at hc
    exact commandsAfterRestart_unposted hc
  have honly := (State.CommandsOnly.fpbRestart ((s.setSettings new).blocksRestarted g changed) g).alloc g
  rw [State.restarted, honly, State.fpbRestart_eq, hcommands, hunits, hblocks]

/-! ### The notice bits -/

theorem State.blocksRestarted_ports : (s.blocksRestarted g changed).ports = s.noticed fun p =>
    (if ((s.fences.get p).get g).isPending then 0x10#8 else 0#8) ||| if s.dropsRecordOf g p then 0x08#8 else 0#8 := by
  unfold State.blocksRestarted
  generalize hb : (((s.fscRestart g).modImage g fun _ => (s.settings.population g).map Station.fresh).allocRestart g
      changed) = b
  have hports : (b.outputRestart g).ports =
      s.noticed fun p => if ((s.fences.get p).get g).isPending then 0x10#8 else 0#8 := by
    rw [State.outputRestart_eq, ← hb]
    rfl
  have howners : ∀ p, (((b.outputRestart g).overrides.filter fun r => !(b.outputRestart g).overrideStays g r).foldl
      (fun ps r => PortSet.union ps (PortSet.single r.owner)) PortSet.empty).get p = s.dropsRecordOf g p := by
    intro p
    rw [foldl_union_get, PortSet.empty_get, Bool.false_or, List.any_filter, State.outputRestart_eq, ← hb]
    refine congrArg (s.overrides.any) (funext fun r => ?_)
    rw [show (PortSet.single r.owner).get p = (r.owner == p) by cases r.owner <;> cases p <;> rfl]
    rfl
  have hlast : ((b.outputRestart g).overridesRestart g).ports = (b.outputRestart g).noticed fun p =>
      if (((b.outputRestart g).overrides.filter fun r => !(b.outputRestart g).overrideStays g r).foldl
        (fun ps r => PortSet.union ps (PortSet.single r.owner)) PortSet.empty).get p then 0x08#8 else 0#8 := by
    unfold State.overridesRestart
    rw [State.notifySet_eq]
    rfl
  have hsettings : (b.outputRestart g).settings = s.settings := by simp [← hb]
  rw [hlast]
  simp only [howners]
  rw [← State.noticed_noticed]
  unfold State.noticed
  rw [hsettings, hports]
  rfl

/-- A restart gives a port the FENCE bit of a fence that it ends and the OVERRIDE bit of a record that it drops, and neither
otherwise. -/
theorem State.restarted_bits (hport : new.port = s.settings.port) (q : PortId) :
    ((s.restarted new g changed).ports.get q).notices &&& 0x18#8 = ((s.ports.get q).notices &&& 0x18#8) |||
      if (s.settings.port.get q).notices = true then
        (if (s.setSettings new).dropsRecordOf g q then 0x08#8 else 0#8) |||
          (if ((s.fences.get q).get g).isPending = true then 0x10#8 else 0#8)
      else 0#8 := by
  have hfreeze : State.BitsKept 0x18#8 ((s.setSettings new).blocksRestarted g changed) (s.restarted new g changed) := by
    rw [State.restarted]
    generalize (s.setSettings new).blocksRestarted g changed = b
    have hunits : State.BitsKept 0x18#8 b (b.modFpb g (Fpb.restarted (unitsOf (b.settings.population g)))) := fun _ => rfl
    exact hunits.trans (.fpbEvent (by decide) (by decide) _)
  rw [hfreeze q, State.blocksRestarted_ports, State.noticed_get, State.setSettings_settings, hport]
  change (Port.notices (if (s.settings.port.get q).notices = true then _ else s.ports.get q)) &&& _ = _
  by_cases henabled : (s.settings.port.get q).notices = true
  · rw [if_pos henabled, if_pos henabled]
    dsimp only
    rw [BitVec.and_or_distrib_right]
    congr 1
    rw [show (s.setSettings new).fences = s.fences from rfl]
    by_cases hf : ((s.fences.get q).get g).isPending = true <;> by_cases hd : (s.setSettings new).dropsRecordOf g q = true <;>
      simp only [hf, hd, if_true, if_false, Bool.false_eq_true] <;> decide
  · rw [if_neg henabled, if_neg henabled, BitVec.or_zero]

/-! ### Freeze protection -/

/-- What a restart's event of freeze protection starts from. -/
def State.refreezing (s : State) (new : Settings) (g : SegId) (changed : Bool) : State :=
  ((s.setSettings new).blocksRestarted g changed).modFpb g (Fpb.restarted (unitsOf (new.population g)))

theorem State.refreezing_settings : (s.refreezing new g changed).settings = new := by
  rw [State.refreezing, State.blocksRestarted_frame]
  rfl

theorem State.restarted_eq : s.restarted new g changed = (s.refreezing new g changed).fpbEvent (.restarted g) := by
  have hsettings : ((s.setSettings new).blocksRestarted g changed).settings = new := by
    rw [State.blocksRestarted_frame]
    rfl
  rw [State.restarted, State.fpbRestart_eq, hsettings]
  rfl

theorem State.refreezing_ta : (s.refreezing new g changed).ta = s.ta := by
  rw [State.refreezing, State.blocksRestarted_frame]
  rfl

theorem State.refreezing_fpb (h : LoopId) : (s.refreezing new g changed).fpb.get h =
    if h = g then (s.fpb.get h).restarted (unitsOf (new.population g)) else s.fpb.get h := by
  rw [State.refreezing, State.modFpb_fpb, PerSeg.get_modify, State.blocksRestarted_frame]
  rfl

theorem State.refreezing_image (h : SegId) : (s.refreezing new g changed).image.get h =
    if h = g then (new.population g).map Station.fresh else s.image.get h := by
  rw [State.refreezing, State.modFpb_image, State.blocksRestarted_frame]
  exact PerSeg.get_modify ..

theorem Station.fresh_point (a q : Nat) : (Station.fresh a).point q = Point.fresh := by
  rw [Station.point, Station.fresh, List.getD_eq_getElem?_getD, List.getElem?_replicate]
  split <;> rfl

theorem State.point_fresh {u : State} {as : List Nat} (h : u.image.get g = as.map Station.fresh) (a q : Nat) :
    u.point g a q = Point.fresh := by
  unfold State.point State.station?
  rw [h]
  cases hfind : (as.map Station.fresh).find? (fun st => st.addr == a) with
  | none => rfl
  | some st =>
    obtain ⟨b, -, rfl⟩ := List.mem_map.1 (List.mem_of_find?_eq_some hfind)
    exact Station.fresh_point b q

/-- Fresh records have no valid point. -/
theorem State.validPoint_fresh {u : State} {as : List Nat} (h : u.image.get g = as.map Station.fresh) (a q : Nat) :
    u.validPoint g a q = none := by
  rw [State.validPoint, State.point_fresh h]
  rfl

theorem State.refreezing_point (a q : Nat) : (s.refreezing new g changed).validPoint g a q = none :=
  State.validPoint_fresh (by rw [State.refreezing_image, if_pos rfl]) a q

theorem State.refreezing_other {h : SegId} (hh : h ≠ g) (a q : Nat) :
    (s.refreezing new g changed).validPoint h a q = s.validPoint h a q := by
  simp only [State.validPoint, State.point, State.station?, State.refreezing_image, if_neg hh]

/-- The masts that a restart of a segment leaves with a valid reading are the other segment's. -/
theorem State.refreezing_reading (h : SegId) (q : Nat) (v : Int) :
    (s.refreezing new g changed).validPoint h 11 q = some v ↔ h ≠ g ∧ s.validPoint h 11 q = some v := by
  by_cases hh : h = g
  · subst hh
    simp [State.refreezing_point]
  · simp [State.refreezing_other hh, hh]

theorem State.restarted_ta : (s.restarted new g changed).ta = (s.refreezing new g changed).computeTa.ta := by
  rw [State.restarted_eq, State.fpbEvent_ambient]
  rfl

/-- The yard ambient after a restart, from the other segment's masts (R48). -/
theorem State.restarted_ambient :
    let mast := fun v : Int => ∃ h q, h ≠ g ∧ q < 2 ∧ s.validPoint h 11 q = some v
    ((∀ v, ¬mast v) → (s.restarted new g changed).ta = new.designMin ∧
      (s.restarted new g changed).hasFault .ambientLost = true) ∧
    ∀ v, mast v → (∀ w, mast w → v ≤ w) → (s.restarted new g changed).ta = v := by
  intro mast
  refine ⟨fun hnone => ?_, fun v ⟨h, q, hh, hq, hv⟩ hle => ?_⟩
  · have hreadings : ∀ h q, q < 2 → (s.refreezing new g changed).validPoint h 11 q = none := fun h q hq =>
      Option.eq_none_iff_forall_ne_some.2 fun v hv => by
        obtain ⟨hh, hv⟩ := (State.refreezing_reading h q v).1 hv
        exact hnone v ⟨h, q, hh, hq, hv⟩
    refine ⟨?_, ?_⟩
    · rw [State.restarted_ta, State.computeTa_designMin hreadings, State.refreezing_settings]
    · rw [State.restarted_eq]
      exact State.fpbEvent_ambientLost rfl (State.noReading hreadings)
  · rw [State.restarted_ta]
    exact State.computeTa_reading hq ((State.refreezing_reading h q v).2 ⟨hh, hv⟩) fun k r w hr hw => by
      obtain ⟨hk, hw⟩ := (State.refreezing_reading k r w).1 hw
      exact hle w ⟨k, r, hk, hr, hw⟩

/-- The glycol of a restarted loop (R45, R47, R52). -/
theorem State.restarted_glycol :
    let f := (s.restarted new g changed).fpb.get g
    f.cu = (clamp 0 600 (((new.loop.get g).nominal : Int) - 50)).toNat ∧
      f.fp = (if f.cu = (s.fpb.get g).cu then (s.fpb.get g).fp else freezePoint new.freezeTable f.cu) ∧
      f.flowAdequate = false := by
  intro f
  have hold : (s.refreezing new g changed).fpb.get g = (s.fpb.get g).restarted (unitsOf (new.population g)) := by
    rw [State.refreezing_fpb, if_pos rfl]
  have hcu : f.cu = (clamp 0 600 (((new.loop.get g).nominal : Int) - 50)).toNat := by
    change ((s.restarted new g changed).fpb.get g).cu = _
    rw [State.restarted_eq, State.fpbEvent_cu, if_pos (by cases g <;> rfl), State.concentrationFound,
      show loopStation = 12 from rfl, State.refreezing_point, State.refreezing_settings]
    rfl
  refine ⟨hcu, ?_, ?_⟩
  · change ((s.restarted new g changed).fpb.get g).fp = if ((s.restarted new g changed).fpb.get g).cu = _ then _ else
      freezePoint _ ((s.restarted new g changed).fpb.get g).cu
    rw [State.restarted_eq, State.fpbEvent_fp, hold, State.refreezing_settings]
    by_cases hsame : (((s.refreezing new g changed).fpbEvent (.restarted g)).fpb.get g).cu = (s.fpb.get g).cu
    · rw [if_pos hsame]
      exact if_neg fun hc => hc.elim nofun fun hne => hne hsame
    · rw [if_neg hsame]
      exact if_pos (.inr hsame)
  · change ((s.restarted new g changed).fpb.get g).flowAdequate = false
    rw [State.restarted_eq, State.fpbEvent_flow, if_pos (by cases g <;> rfl), State.flowFound,
      show loopStation = 12 from rfl, State.refreezing_point]

theorem FpbEvent.restarted_reaches (u v : State) : reachesMa (.restarted g) u v g = true := by
  have hrestart : (FpbEvent.restarted g).restart.get g = true := PerSeg.get_set_self ..
  simp [reachesMa, hrestart]

/-- The margin, the permission and the cap of a restarted loop (R50, R51, R65). -/
theorem State.restarted_margin :
    let f := (s.restarted new g changed).fpb.get g
    f.ma = (s.restarted new g changed).ta - (f.fp + new.guardBand) ∧ f.permitted = decide (50 ≤ f.ma) ∧
      f.bmax = bypassCap f.units := by
  have hjudged := State.fpbEvent_judged (s := s.refreezing new g changed) (e := .restarted g) (l := g)
    (FpbEvent.restarted_reaches _ _)
  rw [State.refreezing_settings, State.refreezing_fpb, if_pos rfl, ← State.restarted_eq] at hjudged
  obtain ⟨hma, hpermitted⟩ := hjudged
  refine ⟨hma, hpermitted, ?_⟩
  rw [State.restarted_eq, State.fpbEvent_get, show (FpbEvent.restarted g).restart.get g = true from PerSeg.get_set_self ..,
    Bool.not_true, Bool.and_false, if_neg Bool.false_ne_true]

/-- The frost evaluation of a unit on a coil temperature, a freeze point and a guard band (R54, R59). -/
def UnitFrost.evaluated (outlet fp guard : Int) (u : UnitFrost) : UnitFrost :=
  { u with margin := coilMargin outlet fp guard, frost := frostNext u.frost (coilMargin outlet fp guard) }

theorem State.restarted_unitsAfter : (s.refreezing new g changed).unitsAfter (.restarted g) g =
    (unitsAfterRestart (unitsOf (new.population g)) (s.fpb.get g).units).map
      (UnitFrost.evaluated (s.restarted new g changed).ta ((s.restarted new g changed).fpb.get g).fp new.guardBand) := by
  obtain ⟨-, -, hflow⟩ := State.restarted_glycol (s := s) (new := new) (g := g) (changed := changed)
  have hread : ((s.refreezing new g changed).fpbRead (.restarted g)).fpb.get g =
      { (s.refreezing new g changed).fpb.get g with
        cu := ((s.restarted new g changed).fpb.get g).cu
        fp := ((s.restarted new g changed).fpb.get g).fp
        flowAdequate := ((s.restarted new g changed).fpb.get g).flowAdequate } := by
    rw [State.restarted_eq, State.fpbEvent_get, State.fpbJudged_get, State.fpbRead_get]
  have hta : ((s.refreezing new g changed).fpbRead (.restarted g)).ta = (s.restarted new g changed).ta := by
    rw [State.restarted_eq, State.fpbEvent_ta]
  have hunits : ((s.refreezing new g changed).fpb.get g).units =
      unitsAfterRestart (unitsOf (new.population g)) (s.fpb.get g).units := by
    rw [State.refreezing_fpb, if_pos rfl]
    rfl
  rw [State.unitsAfter, hunits]
  refine List.map_congr_left fun x _ => ?_
  rw [if_pos (by simp [FpbEvent.reaches, reachesUnits, FpbEvent.restarted_reaches]), State.evaluateUnit, State.outletUsed,
    if_neg (by rw [hread, hflow]; simp), hta, hread]
  simp only [State.fpbRead_frame, State.refreezing_settings]
  rfl

/-- A unit's values as the restart of its segment finds them: kept with no shortfall, or created in GUARD (R56, R63). -/
theorem unitsAfterRestart_mem {as : List Nat} {old : List UnitFrost} {x : UnitFrost} (hx : x ∈ unitsAfterRestart as old) :
    x.shortfall = 0 ∧ x.frost = ((old.find? fun u => u.addr == x.addr).map UnitFrost.frost).getD .guard ∧
      x.iced = ((old.find? fun u => u.addr == x.addr).map UnitFrost.iced).getD false := by
  obtain ⟨a, -, rfl⟩ := List.mem_map.1 hx
  cases hfind : old.find? (fun u => u.addr == a) with
  | none => simp [hfind]
  | some u =>
    have ha : u.addr = a := by simpa using List.find?_some hfind
    simp [hfind, ha]

/-- The units of a restarted loop (R54, R56, R59, R61, R63). -/
theorem State.restarted_units (hport : new.port = s.settings.port) :
    let u := s.restarted new g changed
    let f := u.fpb.get g
    f.units.map UnitFrost.addr = unitsOf (new.population g) ∧
      ∀ y ∈ f.units, y.margin = coilMargin u.ta f.fp new.guardBand ∧ y.shortfall = 0 ∧
        let before := ((s.unit? g y.addr).map UnitFrost.frost).getD .guard
        y.frost = frostNext before y.margin ∧ y.iced = ((s.unit? g y.addr).map UnitFrost.iced).getD false ∧
        (y.frost = .protect → before ≠ .protect → u.hasFault .frostProtect = true) ∧
        (y.frost ≠ before → ∀ q, (s.settings.port.get q).notices = true →
          (u.ports.get q).notices &&& 0x01#8 = 0x01#8) := by
  intro u f
  have hafter := State.restarted_unitsAfter (s := s) (new := new) (g := g) (changed := changed)
  have hunits : f.units = (unitsAfterRestart (unitsOf (new.population g)) (s.fpb.get g).units).map
      (UnitFrost.evaluated u.ta f.fp new.guardBand) := by
    rw [← hafter]
    change ((s.restarted new g changed).fpb.get g).units = _
    rw [State.restarted_eq, State.fpbEvent_get]
  have hold : ((s.refreezing new g changed).fpb.get g).units =
      unitsAfterRestart (unitsOf (new.population g)) (s.fpb.get g).units := by
    rw [State.refreezing_fpb, if_pos rfl]
    rfl
  refine ⟨?_, fun y hy => ?_⟩
  · rw [hunits, List.map_map]
    exact unitsAfterRestart_addr _ (s.fpb.get g).units
  · rw [hunits] at hy
    obtain ⟨x, hx, rfl⟩ := List.mem_map.1 hy
    obtain ⟨hshort, hfrost, hiced⟩ := unitsAfterRestart_mem hx
    have htells := fun hne => State.fpbEvent_tells (s := s.refreezing new g changed) (e := .restarted g) (l := g)
      (by rw [hold]; exact hafter) (by rw [hold]; exact hx) hne
    rw [State.refreezing_settings, hport, ← State.restarted_eq] at htells
    refine ⟨rfl, hshort, ?_⟩
    intro before
    have hbefore : before = x.frost := hfrost.symm
    rw [hbefore]
    exact ⟨rfl, hiced, fun hprotect hne => (htells (by rw [show _ = FrostState.protect from hprotect]; exact Ne.symm hne)).2 hprotect,
      fun hne => (htells hne).1⟩

/-- The other loop's freeze protection, which a restart reaches through the yard ambient alone. -/
theorem State.restarted_otherLoop {h : LoopId} (hh : h ≠ g) :
    let u := s.restarted new g changed
    (u.fpb.get h).cu = (s.fpb.get h).cu ∧ (u.fpb.get h).fp = (s.fpb.get h).fp ∧
      (u.fpb.get h).flowAdequate = (s.fpb.get h).flowAdequate ∧ (u.ta = s.ta → u.fpb.get h = s.fpb.get h) := by
  intro u
  have hold : (s.refreezing new g changed).fpb.get h = s.fpb.get h := by rw [State.refreezing_fpb, if_neg hh]
  have hnone : (onlyLoop g).get h = false := onlyLoop_other hh
  have hread : ((s.refreezing new g changed).fpbRead (.restarted g)).fpb.get h = s.fpb.get h := by
    rw [State.fpbRead_get, hold]
    simp [FpbEvent.restarted, FpbEvent.nothing, hnone]
  have hget : u.fpb.get h = ((s.refreezing new g changed).fpbEvent (.restarted g)).fpb.get h := by
    rw [← State.restarted_eq]
  refine ⟨?_, ?_, ?_, fun hta => ?_⟩
  · rw [hget, State.fpbEvent_get, State.fpbJudged_get, hread]
  · rw [hget, State.fpbEvent_get, State.fpbJudged_get, hread]
  · rw [hget, State.fpbEvent_get, State.fpbJudged_get, hread]
  · have hsame : ((s.refreezing new g changed).fpbRead (.restarted g)).ta = (s.refreezing new g changed).ta := by
      rw [← State.fpbEvent_ta, ← State.restarted_eq, State.refreezing_ta]
      exact hta
    have hreaches : reachesMa (.restarted g) (s.refreezing new g changed)
        ((s.refreezing new g changed).fpbRead (.restarted g)) h = false := by
      rw [reachesMa, hsame, hread, hold, show (FpbEvent.restarted g).restart.get h = false from hnone,
        show (FpbEvent.restarted g).guard = false from rfl]
      simp
    rw [hget, State.fpbEvent_untouched hreaches (hread.trans hold.symm) (by simp [FpbEvent.restarted, FpbEvent.nothing]), hold]

end

end Sys2Proof.Machine
end

section
/-! What a write that restarts a segment comes to: the read-throughs that stood answered, discovery begun, and obligation
O44. -/

namespace Sys2Proof.Machine

section
variable {s : State} {g : SegId} {p : PortId}

/-! ### Discovery, at once or when the window has run out (R35, R43) -/

/-- A segment that is free begins its discovery; one that waits out a window does so when it has run out. -/
def State.begun (s : State) (g : SegId) : State := if (s.fsc.get g).activity = .free then s.beginDiscovery g else s

/-- The supply that an empty segment's first pass does not find. -/
def State.suppliesLost (s : State) (g : SegId) : BitVec 24 :=
  if (s.fsc.get g).activity = .free then lostSupply (s.settings.population g) g else 0#24

theorem State.begun_eq (hempty : s.settings.population g = [] → s.image.get g = [] ∧ (s.alloc.get g).passes = 0) :
    s.begun g = { s with
      fsc := s.fsc.modify g fun f => if f.activity = .free then
        f.discovering (s.settings.population g) s.now s.settings.passInterval else f
      alloc := s.alloc.modify g fun al => if (s.fsc.get g).activity = .free then
        al.discovering (s.settings.population g) else al
      faults := s.faults ||| s.suppliesLost g
      ports := s.noticed fun _ => if s.faults ||| s.suppliesLost g = s.faults then 0#8 else 0x20#8 } := by
  unfold State.begun State.suppliesLost
  by_cases hfree : (s.fsc.get g).activity = .free
  · have hfsc : (s.fsc.modify g fun f => if f.activity = .free then
        f.discovering (s.settings.population g) s.now s.settings.passInterval else f) =
        s.fsc.modify g (Fsc.discovering (s.settings.population g) s.now s.settings.passInterval) :=
      PerSeg.modify_congr (if_pos hfree)
    simp only [hfree, if_true, hfsc]
    exact State.beginDiscovery_eq hempty
  · have hfsc : (s.fsc.modify g fun f => if f.activity = .free then
        f.discovering (s.settings.population g) s.now s.settings.passInterval else f) = s.fsc :=
      PerSeg.modify_eq_self (if_neg hfree)
    have halloc : (s.alloc.modify g fun al => al) = s.alloc := PerSeg.modify_eq_self rfl
    simp only [hfree, if_false, hfsc, halloc, BitVec.or_zero, if_true, State.noticed_none]

/-- The last steps of a write that restarts a segment: discovery, the reply, and the segment's choice. -/
def State.answeredRestart (s : State) (g : SegId) (p : PortId) : State :=
  ((s.begun g).reply p [0x00#8]).arbitrate g

section
variable (hstopped : (s.fsc.get g).passRunning = false) (hbuffer : s.buffer.get g = [])
  (hempty : s.settings.population g = [] → s.image.get g = [] ∧ (s.alloc.get g).passes = 0)
include hstopped hbuffer hempty

omit hbuffer in
theorem State.begun_stopped : ((s.begun g).fsc.get g).passRunning = false := by
  rw [State.begun_eq hempty]
  dsimp only
  rw [PerSeg.get_modify_self]
  split
  · unfold Fsc.discovering
    split
    · rfl
    · exact hstopped
  · exact hstopped

/-- Nothing but the segment's controller and allocator, the faults and the ports changes by then. -/
theorem State.answeredRestart_eq : s.answeredRestart g p = { s with
    fsc := (s.answeredRestart g p).fsc
    alloc := s.alloc.modify g fun al => if (s.fsc.get g).activity = .free then
      al.discovering (s.settings.population g) else al
    faults := s.faults ||| s.suppliesLost g
    ports := (s.noticed fun _ => if s.faults ||| s.suppliesLost g = s.faults then 0#8 else 0x20#8).modify p
      (Port.form [0x00#8] .none) } := by
  have hstop := State.begun_stopped hstopped hempty
  have hbegun := State.begun_eq hempty
  obtain ⟨hquiet, -⟩ := State.arbitrate_quiet (s := (s.begun g).reply p [0x00#8]) (g := g) hstop
    (by rw [hbegun]; exact hbuffer)
  refine hquiet.trans ?_
  conv_lhs => rw [show (s.begun g).reply p [0x00#8] = (s.begun g).modPort p (Port.form [0x00#8] .none) from rfl]
  rw [show ((s.begun g).modPort p (Port.form [0x00#8] .none)).arbitrate g = s.answeredRestart g p from rfl]
  generalize s.answeredRestart g p = u
  rw [hbegun]
  rfl

omit hstopped hbuffer in
theorem State.answeredRestart_other {k : SegId} (hk : k ≠ g) : (s.answeredRestart g p).fsc.get k = s.fsc.get k := by
  refine (State.arbitrate_other hk).trans ?_
  rw [State.begun_eq hempty]
  exact PerSeg.get_modify_other _ _ hk

omit hstopped hbuffer hempty in
/-- While a window is waited out the segment's controller stands. -/
theorem State.answeredRestart_waits (hwaits : (s.fsc.get g).activity ≠ .free) :
    (s.answeredRestart g p).fsc.get g = s.fsc.get g := by
  have hfsc : ((s.begun g).reply p [0x00#8]).fsc.get g = s.fsc.get g := by
    rw [State.begun, if_neg hwaits]
    rfl
  unfold State.answeredRestart
  rw [State.arbitrate_held fun _ => by rw [hfsc]; exact hwaits, hfsc]

omit hstopped hbuffer in
theorem State.answeredRestart_discovers (hfree : (s.fsc.get g).activity = .free) {a : Nat} {rest : List Nat}
    (hpop : s.settings.population g = a :: rest) : (s.answeredRestart g p).fsc.get g =
      { s.fsc.get g with activity := .busy { job := .discovery a, retries := 2, ends := s.now + 4 } } := by
  have hfsc : ((s.begun g).reply p [0x00#8]).fsc.get g =
      { s.fsc.get g with activity := .busy { job := .discovery a, retries := 2, ends := s.now + 4 } } := by
    rw [State.begun_eq hempty]
    refine (PerSeg.get_modify_self ..).trans ?_
    rw [if_pos hfree, hpop]
    rfl
  unfold State.answeredRestart
  rw [State.arbitrate_held fun _ => by rw [hfsc]; nofun, hfsc]

omit hstopped in
/-- With no address configured the first pass has come and gone, and an asserted line is polled at once. -/
theorem State.answeredRestart_empty (hrun : s.phase = .running) (hfree : (s.fsc.get g).activity = .free)
    (hpop : s.settings.population g = []) (howed : (s.fsc.get g).owed = none)
    (hqueue : (s.fsc.get g).readThroughs = []) : (s.answeredRestart g p).fsc.get g =
      let f := (s.fsc.get g).emptyPass s.now s.settings.passInterval
      if (s.fsc.get g).lineAsserted then { f with
        activity := .busy { job := .poll, retries := 0, ends := s.now + 12 }, pollArmed := false, starvation := 1 }
      else f := by
  have hbegun := State.begun_eq hempty
  generalize ht : (s.begun g).reply p [0x00#8] = t
  have hfsc : t.fsc.get g = (s.fsc.get g).emptyPass s.now s.settings.passInterval := by
    rw [← ht, hbegun]
    refine (PerSeg.get_modify_self ..).trans ?_
    rw [if_pos hfree, hpop]
    rfl
  have hnow : t.now = s.now := by rw [← ht, hbegun]; rfl
  have hphase : t.phase = .running := by rw [← ht, hbegun]; exact hrun
  have hb : t.buffer.get g = [] := by rw [← ht, hbegun]; exact hbuffer
  have himage : t.image.get g = [] := by rw [← ht, hbegun]; exact (hempty hpop).1
  have hguard : t.guardActs g = false := by
    rw [← Bool.not_eq_true, State.guardActs_iff, hfsc]
    rintro ⟨-, hc, -⟩
    cases hc
  have hchoose : t.choose g = t.choosePoll g := State.choose_unguarded (by rw [hfsc]; exact howed) hguard
  have hactivity : (t.fsc.get g).activity = .free := by rw [hfsc]; rfl
  change ((State.reply (s.begun g) p [0x00#8]).arbitrate g).fsc.get g = _
  rw [ht]
  by_cases hline : (s.fsc.get g).lineAsserted = true
  · have hpoll : t.choosePoll g = .poll := State.choosePoll_armed (by rw [hfsc]; rfl) (by rw [hfsc]; exact hline)
    rw [State.arbitrate_starts hphase hactivity (hchoose.trans hpoll) nofun, State.start_poll, State.calling_get, hfsc, hnow]
    dsimp only
    rw [if_pos hline]
    rfl
  · have hnothing : t.choosePoll g = .nothing := by
      rw [State.choosePoll_rest (.inr (by rw [hfsc]; exact Bool.eq_false_iff.2 hline)),
        State.chooseEvent_rest (by rw [himage]; nofun), State.chooseWrite_rest (.inl hb),
        State.chooseReadThrough_rest (by rw [hfsc, show (Fsc.emptyPass _ _ _).readThroughs = _ from hqueue]; nofun),
        State.chooseScan_stopped (by rw [hfsc]; rfl)]
    rw [State.arbitrate_starts hphase hactivity (hchoose.trans hnothing) nofun]
    change t.fsc.get g = _
    rw [hfsc]
    exact (if_neg hline).symm

end

end

/-! ### The write -/

/-- The state once a segment has been restarted and the read-throughs that stood are answered. -/
def State.restartAnswered (s : State) (new : Settings) (g : SegId) (changed : Bool) : State :=
  (s.fsc.get g).readThroughs.foldl (fun t e => t.replyReadThrough g e) (s.restarted new g changed)

section
variable {s : State} {g : SegId} {p : PortId} {t : Telegram} {i : Item} {v : Word} {new : Settings} {changed : Bool}

theorem State.restartSegment_begun :
    (s.setSettings new).restartSegment g changed = (s.restartAnswered new g changed).begun g := rfl

theorem State.restartAnswered_eq : s.restartAnswered new g changed =
    { s.restarted new g changed with ports := (s.restartAnswered new g changed).ports } := by
  rw [State.restartAnswered, State.answerAll_eq]

theorem State.restartAnswered_empty (hpop : (s.restartAnswered new g changed).settings.population g = []) :
    (s.restartAnswered new g changed).image.get g = [] ∧ ((s.restartAnswered new g changed).alloc.get g).passes = 0 := by
  have hrestarted := s.segmentRestarted new g changed
  rw [State.restartAnswered_eq] at hpop ⊢
  dsimp only at hpop ⊢
  rw [show (s.restarted new g changed).settings = new from hrestarted.settings] at hpop
  rw [show (s.restarted new g changed).image.get g = _ from hrestarted.image g, if_pos rfl, hpop, State.restarted_alloc]
  exact ⟨rfl, rfl⟩

/-- A write that changes a population or a mask restarts the segment, is answered, and the segment goes on. -/
theorem State.applySetting_restarts (h : s.settings.accept i v = some new) (hne : new.seg.get g ≠ s.settings.seg.get g)
    (hi : i = .population g ∧ changed = true ∨ i = .mask g ∧ changed = false) :
    s.applySetting p i new = (s.restartAnswered new g changed).answeredRestart g p := by
  have hsettings : (((s.restartAnswered new g changed).begun g).reply p [0x00#8]).settings = new := by
    rw [State.begun_eq State.restartAnswered_empty, State.restartAnswered_eq]
    exact (s.segmentRestarted new g changed).settings
  have hwritten : (s.setSettings new).settingWritten s.settings i = (s.restartAnswered new g changed).begun g := by
    rw [← State.restartSegment_begun]
    rcases hi with ⟨rfl, rfl⟩ | ⟨rfl, rfl⟩
    · exact if_pos (bne_iff_ne.2 fun hc => hne ((Settings.accept_population h).1 hc))
    · exact if_pos (bne_iff_ne.2 fun hc => hne ((Settings.accept_mask h).1 hc))
  rw [State.applySetting, hwritten]
  rcases hi with ⟨rfl, -⟩ | ⟨rfl, -⟩
  · exact if_neg fun hc => hne (by rw [← hsettings]; exact hc)
  · exact if_neg fun hc => hne (by rw [← hsettings]; exact hc)

/-- What a port holds ready, other than notice bits, is as it was once the blocks have been restarted. -/
theorem State.restarted_port (q : PortId) : ((s.restarted new g changed).ports.get q).queue = (s.ports.get q).queue ∧
    ((s.restarted new g changed).ports.get q).replies = (s.ports.get q).replies := by
  have hnoticed := ((s.setSettings new).blocksRestarted_noticed g changed).trans (.fpbRestart _ g)
  rw [show (s.restarted new g changed).ports.get q = _ from hnoticed.get q]
  exact ⟨rfl, rfl⟩

theorem State.restartAnswered_other (h : ∀ e ∈ (s.fsc.get g).readThroughs, e.port ≠ p) :
    ((s.restartAnswered new g changed).ports.get p).queue = (s.ports.get p).queue ∧
      ((s.restartAnswered new g changed).ports.get p).replies = (s.ports.get p).replies := by
  rw [State.restartAnswered, State.answerAll_other h]
  exact State.restarted_port p

/-- A port with one read-through on the segment has its head telegram answered from the fresh records. -/
theorem State.restartAnswered_one {e : ReadThrough} {t' : Telegram}
    (h : (s.fsc.get g).readThroughs.filter (fun x => x.port == e.port) = [e])
    (hhead : (s.ports.get e.port).queue.head? = some t') :
    ((s.restartAnswered new g changed).ports.get e.port).queue = (s.ports.get e.port).queue.tail ∧
      ∀ n, e.target = .point n → ((s.restartAnswered new g changed).ports.get e.port).replies =
        (s.ports.get e.port).replies ++
          [replyFrame t' (0x00#8 :: be16 (wordOf e.address) ++ [0xFF#8, 0xFF#8, 0x03#8, 0xFF#8, 0xFF#8]) .none] := by
  obtain ⟨rest, hqueue⟩ := List.head?_eq_some_iff.1 hhead
  obtain ⟨hsameq, hsamer⟩ := State.restarted_port (s := s) (new := new) (g := g) (changed := changed) e.port
  obtain ⟨hq, hr, -⟩ := Port.form_cons (hsameq.trans hqueue)
    ((s.restarted new g changed).pointReply g e.station e.target e.address) .none
  rw [State.restartAnswered, State.answerAll_one h, hq, hr, hqueue, hsamer]
  refine ⟨rfl, fun n hn => ?_⟩
  have himage : (s.restarted new g changed).image.get g = (new.population g).map Station.fresh :=
    ((s.segmentRestarted new g changed).image g).trans (if_pos rfl)
  have hbody : (s.restarted new g changed).pointReply g e.station e.target e.address =
      [doneByte] ++ be16 (wordOf e.address) ++ ((s.restarted new g changed).point g e.station n).block := by rw [hn]; rfl
  rw [hbody, State.point_fresh himage]
  rfl

/-- The final reply and discovery leave the telegrams and replies of the other ports. -/
theorem State.answered_port {r : PerPort Port} {bits : PortId → Byte} (hr : r = (s.noticed bits).modify p (Port.form [0x00#8] .none))
    (q : PortId) : (q ≠ p → (r.get q).queue = (s.ports.get q).queue ∧ (r.get q).replies = (s.ports.get q).replies) ∧
      ∀ t rest, (s.ports.get p).queue = t :: rest → (r.get p).queue = rest ∧
        (r.get p).replies = (s.ports.get p).replies ++ [replyFrame t [0x00#8] .none] := by
  have hkept : ∀ k, ((s.noticed bits).get k).queue = (s.ports.get k).queue ∧
      ((s.noticed bits).get k).replies = (s.ports.get k).replies := fun k => by
    rw [State.noticed_get]
    split <;> exact ⟨rfl, rfl⟩
  subst hr
  refine ⟨fun hq => ?_, fun t rest hqueue => ?_⟩
  · rw [PerPort.get_modify_other _ _ hq]
    exact hkept q
  · obtain ⟨hq, hr, -⟩ := Port.form_cons ((hkept p).1.trans hqueue) [0x00#8] .none
    rw [PerPort.get_modify_self, hq, hr, (hkept p).2]
    exact ⟨rfl, rfl⟩

/-- The moment up to which a restart waits out an attempt (R43). -/
def Activity.waits : Activity → Option Nat
  | .busy y => some y.ends
  | .quiet e => some e
  | _ => none

/-- An attempt in flight, or one waited out already, is waited out. -/
theorem abandoned_cases (x : Activity) : x.waits = none ∧ abandoned x = .free ∨
    ∃ e, x.waits = some e ∧ abandoned x = .quiet e := by
  cases x with
  | busy y => exact .inr ⟨_, rfl, rfl⟩
  | quiet e => exact .inr ⟨_, rfl, rfl⟩
  | pause e => exact .inl ⟨rfl, rfl⟩
  | free => exact .inl ⟨rfl, rfl⟩

/-- An override record of a port is dropped where its station is configured no more. -/
theorem State.dropsRecordOf_iff : (s.setSettings new).dropsRecordOf g p = true ↔
    ∃ r ∈ s.overrides, r.seg = g ∧ r.station ∉ new.population g ∧ r.owner = p := by
  unfold State.dropsRecordOf State.overrideStays
  simp [and_assoc]

/-- A record stays, and waits where it is of the segment, unless its station is configured no more. -/
theorem State.restarted_overrides {r : OverrideRecord} : r ∈ (s.restarted new g changed).overrides ↔
    ∃ x ∈ s.overrides, (x.seg = g → x.station ∈ new.population g) ∧
      r = if x.seg = g then { x with delivery := .waiting } else x := by
  rw [show (s.restarted new g changed).overrides = _ from (s.segmentRestarted new g changed).overrides, List.mem_map]
  refine exists_congr fun x => ?_
  rw [List.mem_filter, and_assoc]
  refine and_congr_right fun _ => and_congr ?_ ?_
  · by_cases hx : x.seg = g <;> simp [hx]
  · by_cases hx : x.seg = g <;> simp [hx, eq_comm]

theorem commandsAfterRestart_eq (as : List Nat) (l : LoopId) : commandsAfterRestart as (s.alloc.get l).commands =
    as.map fun a => match s.commands? l a with
      | some c => { c with
          fan := { c.fan with posted := none }, valve := { c.valve with posted := none }
          bypass := { c.bypass with posted := none } }
      | none => StationCommands.fresh a := by
  refine List.map_congr_left fun a _ => ?_
  rw [State.commands?]
  cases (s.alloc.get l).commands.find? (fun c => c.addr == a) <;> rfl

/-- What discovery leaves of an allocator, whatever it finds. -/
theorem Allocator.discovering_kept (pop : List Nat) (al : Allocator) : (al.discovering pop).demand = al.demand ∧
    (al.discovering pop).ePrev = al.ePrev ∧ (al.discovering pop).order = al.order ∧
    (al.discovering pop).commands = al.commands := by
  cases pop <;> exact ⟨rfl, rfl, rfl, rfl⟩

/-- The segment's controller after a restart: waiting out a window, calling the lowest address, or past an empty first pass. -/
inductive RestartedTo (s : State) (new : Settings) (g : SegId) (f : Fsc) : Prop
  | waits (e : Nat) (h : abandoned (s.fsc.get g).activity = .quiet e) (hf : f = (s.fsc.get g).restarted)
  | calls (h : abandoned (s.fsc.get g).activity = .free) (a : Nat) (rest : List Nat) (hpop : new.population g = a :: rest)
      (hf : f = { (s.fsc.get g).restarted with activity := .busy { job := .discovery a, retries := 2, ends := s.now + 4 } })
  | empty (h : abandoned (s.fsc.get g).activity = .free) (hpop : new.population g = [])
      (hf : f = if (s.fsc.get g).lineAsserted then { (s.fsc.get g).restarted.emptyPass s.now new.passInterval with
          activity := .busy { job := .poll, retries := 0, ends := s.now + 12 }, pollArmed := false, starvation := 1 }
        else (s.fsc.get g).restarted.emptyPass s.now new.passInterval)

/-- What a restarted controller holds whichever way it goes on. -/
theorem RestartedTo.cleared {f : Fsc} (h : RestartedTo s new g f) : f.readThroughs = [] ∧ f.owed = none ∧
    f.passRunning = false ∧ f.startDue = false ∧ f.revived = [] := by
  cases h with
  | waits e h hf => subst hf; exact ⟨rfl, rfl, rfl, rfl, rfl⟩
  | calls h a rest hpop hf => subst hf; exact ⟨rfl, rfl, rfl, rfl, rfl⟩
  | empty h hpop hf => subst hf; split <;> exact ⟨rfl, rfl, rfl, rfl, rfl⟩

end

section
variable {s : State} {g : SegId} {p : PortId} {new : Settings} {changed : Bool} {q : PortId}

/-- What the last steps of the restart leave, told over the state with its blocks restarted. -/
structure State.RestartEnds (s : State) (new : Settings) (g : SegId) (p : PortId) (changed : Bool) (u : State) : Prop where
  frame : u = { s.restarted new g changed with fsc := u.fsc, alloc := u.alloc, faults := u.faults, ports := u.ports }
  controller : RestartedTo s new g (u.fsc.get g)
  others : ∀ h, h ≠ g → u.fsc.get h = s.fsc.get h
  alloc : u.alloc.get g = if abandoned (s.fsc.get g).activity = .free then
    ((s.alloc.get g).restarted (new.population g) changed).discovering (new.population g)
    else (s.alloc.get g).restarted (new.population g) changed
  faults : ∀ f, (s.restarted new g changed).hasFault f = true → u.hasFault f = true
  lost : abandoned (s.fsc.get g).activity = .free → new.population g = [] → u.hasFault (.supplyLost g) = true
  ports : ∃ b, (b = 0#8 ∨ b = 0x20#8) ∧ u.ports =
    ((s.restartAnswered new g changed).noticed fun _ => b).modify p (Port.form [0x00#8] .none)

theorem State.restartEnds (hrun : s.phase = .running) :
    s.RestartEnds new g p changed ((s.restartAnswered new g changed).answeredRestart g p) := by
  have hblocks : s.SegmentRestarted new g changed (s.restarted new g changed) := s.segmentRestarted new g changed
  have hA : s.restartAnswered new g changed = { s.restarted new g changed with
      ports := (s.restartAnswered new g changed).ports } := State.restartAnswered_eq
  have hempty := State.restartAnswered_empty (s := s) (new := new) (g := g) (changed := changed)
  have hfsc : (s.restartAnswered new g changed).fsc.get g = (s.fsc.get g).restarted := by
    rw [hA]; exact State.restarted_fsc
  have hstopped : ((s.restartAnswered new g changed).fsc.get g).passRunning = false := by rw [hfsc]; rfl
  have hbuffer : (s.restartAnswered new g changed).buffer.get g = [] := by
    rw [hA]; exact (hblocks.buffer g).trans (if_pos rfl)
  have hsettings : (s.restartAnswered new g changed).settings = new := by rw [hA]; exact hblocks.settings
  have hphase : (s.restartAnswered new g changed).phase = .running := by rw [hA]; exact hblocks.phase.trans hrun
  have hnow : (s.restartAnswered new g changed).now = s.now := by rw [hA]; exact hblocks.now
  have halloc : (s.restartAnswered new g changed).alloc.get g = (s.alloc.get g).restarted (new.population g) changed := by
    rw [hA]; exact State.restarted_alloc
  have hother : ∀ h, h ≠ g → (s.restartAnswered new g changed).fsc.get h = s.fsc.get h := fun h hh => by
    rw [hA]; exact hblocks.fsc h hh
  have hfault : ∀ f, (s.restartAnswered new g changed).hasFault f = (s.restarted new g changed).hasFault f := fun f => by
    rw [hA]; rfl
  have hactivity : ((s.restartAnswered new g changed).fsc.get g).activity = abandoned (s.fsc.get g).activity := by
    rw [hfsc]; rfl
  have heq := State.answeredRestart_eq (p := p) hstopped hbuffer hempty
  have hwaits := State.answeredRestart_waits (s := s.restartAnswered new g changed) (g := g) (p := p)
  have hdiscovers := State.answeredRestart_discovers (p := p) hempty
  have hpassed := State.answeredRestart_empty (p := p) hbuffer hempty hphase
  have hothers := fun {h} (hh : h ≠ g) => State.answeredRestart_other (p := p) hempty hh
  have hlost : (s.restartAnswered new g changed).suppliesLost g =
      if abandoned (s.fsc.get g).activity = .free then lostSupply (new.population g) g else 0#24 := by
    rw [State.suppliesLost, hactivity, hsettings]
  generalize (s.restartAnswered new g changed).answeredRestart g p = u at *
  obtain ⟨fsc, alloc, faults, ports, hframe⟩ : ∃ fsc alloc faults ports,
      u = { s.restarted new g changed with fsc := fsc, alloc := alloc, faults := faults, ports := ports } :=
    ⟨_, _, _, _, heq.trans (by rw [hA])⟩
  rw [hfsc, hsettings] at heq
  rw [hfsc] at hwaits
  rw [hfsc, hnow, hsettings] at hdiscovers hpassed
  refine { frame := ?_, controller := ?_, others := fun h hh => (hothers hh).trans (hother h hh), alloc := ?_,
           faults := fun f hf => ?_, lost := fun hfree hpop => ?_, ports := ?_ }
  · rw [hframe]
  · cases habandoned : abandoned (s.fsc.get g).activity with
    | quiet e => exact .waits e habandoned (hwaits (by change abandoned _ ≠ _; rw [habandoned]; nofun))
    | free =>
      cases hpop : new.population g with
      | cons a rest => exact .calls habandoned a rest hpop (hdiscovers habandoned hpop)
      | nil => exact .empty habandoned hpop (hpassed habandoned hpop rfl rfl)
    | busy x => cases hx : (s.fsc.get g).activity <;> rw [hx] at habandoned <;> cases habandoned
    | pause e => cases hx : (s.fsc.get g).activity <;> rw [hx] at habandoned <;> cases habandoned
  · rw [heq]
    dsimp only
    rw [PerSeg.get_modify_self, halloc]
    rfl
  · rw [State.hasFault, heq]
    dsimp only
    rw [BitVec.getLsbD_or, show (s.restartAnswered new g changed).faults.getLsbD f.bit = true from (hfault f).trans hf,
      Bool.true_or]
  · rw [State.hasFault, heq]
    dsimp only
    rw [hlost, if_pos hfree, lostSupply, if_pos hpop, BitVec.getLsbD_or, FaultFlag.mask_bit, Bool.or_true]
  · refine ⟨_, ?_, congrArg State.ports heq⟩
    split
    · exact .inl rfl
    · exact .inr rfl

theorem State.RestartEnds.bits {u : State} (h : s.RestartEnds new g p changed u) {m : Byte} (hm : m = 0x18#8 ∨ m = 0x01#8) :
    (u.ports.get q).notices &&& m = ((s.restarted new g changed).ports.get q).notices &&& m := by
  obtain ⟨b, hb, hports⟩ := h.ports
  have hform : (u.ports.get q).notices = (((s.restartAnswered new g changed).noticed fun _ => b).get q).notices := by
    rw [hports, PerPort.get_modify]
    split
    · exact Port.form_notices ..
    · rfl
  have hkept : State.BitsKept m (s.restartAnswered new g changed)
      { s.restartAnswered new g changed with ports := (s.restartAnswered new g changed).noticed fun _ => b } :=
    .noticed (bits := fun _ => b) rfl fun _ => by rcases hb with rfl | rfl <;> rcases hm with rfl | rfl <;> decide
  rw [hform, show (((s.restartAnswered new g changed).noticed fun _ => b).get q).notices &&& m = _ from hkept q,
    State.restartAnswered, State.answerAll_notices]

end

/-- Settles O44: the blocks restarted one by one, the read-throughs that stood answered, then discovery, the reply and the
segment's choice. -/
theorem writeSettingRestartsSegment : Obligations.WriteSettingRestartsSegment := by
  intro s p t b i g new hready hkind hbody hcls hsaving hpending hi hv hitem hne waits
  obtain ⟨hrun, hidle, hhead⟩ := id hready
  have hbusy : s.settingsBusy = false := Bool.eq_false_iff.2 fun hc => by
    rcases State.settingsBusy_iff.1 hc with h | h
    · exact h hsaving
    · rw [hpending] at h; cases h
  obtain ⟨changed, hchanged⟩ : ∃ changed, i = .population g ∧ changed = true ∨ i = .mask g ∧ changed = false := by
    rcases hitem with h | h
    · exact ⟨true, .inl ⟨h, rfl⟩⟩
    · exact ⟨false, .inr ⟨h, rfl⟩⟩
  have hport : new.port = s.settings.port := by rw [Settings.accept_seg hv hitem]
  have hexec : exec (.writeSetting p) s =
      .next ((s.restartAnswered new g changed).answeredRestart g p).kickPorts := by
    rw [exec_writeSetting_ready hready hkind, State.writeSetting_accepted hbody hcls hi hbusy hv,
      State.applySetting_restarts hv hne hchanged]
  have hblocks : s.SegmentRestarted new g changed (s.restarted new g changed) := s.segmentRestarted new g changed
  have hends := State.restartEnds (p := p) (g := g) (new := new) (changed := changed) hrun
  have hnone : ∀ e ∈ (s.fsc.get g).readThroughs, e.port ≠ p := fun e he hp => by
    rw [State.portWaits_of_mem he hp] at hidle
    cases hidle
  have hunits := State.restarted_units (g := g) (changed := changed) hport
  obtain ⟨rest, hqueue⟩ := List.head?_eq_some_iff.1 hhead
  generalize (s.restartAnswered new g changed).answeredRestart g p = u at hexec hends
  have hkeptbits := fun q => hends.bits (q := q) (m := 0x01#8) (.inr rfl)
  obtain ⟨hframe, hcontroller, hothers, halloc, hfaults, hlost, b, hb, hports⟩ := id hends
  obtain ⟨hcleared, howed, hstopped, hdue, hrevived⟩ := hcontroller.cleared
  obtain ⟨hdemand, hprev, horder, hcommands⟩ := Allocator.discovering_kept (new.population g)
    ((s.alloc.get g).restarted (new.population g) changed)
  have hmine := State.answered_port (s := s.restartAnswered new g changed) hports
  have hwaits : waits = none ∧ abandoned (s.fsc.get g).activity = .free ∨
      ∃ e, waits = some e ∧ abandoned (s.fsc.get g).activity = .quiet e := abandoned_cases _
  have hfreed : waits = none → abandoned (s.fsc.get g).activity = .free := fun hnowait => by
    rcases hwaits with ⟨-, hfree⟩ | ⟨e, he, -⟩
    · exact hfree
    · rw [hnowait] at he; cases he
  have hta : u.ta = (s.restarted new g changed).ta := by rw [hframe]
  have hfpb : u.fpb = (s.restarted new g changed).fpb := by rw [hframe]
  refine ⟨u, hexec, ?settings, ?accessMap, ?slots, ?queue, ?replies, ?otherPorts, ?readThroughs, ?image, ?buffer, ?settle,
    ?fences, hcleared, howed, hstopped, hdue, hrevived, ?demand, ?ePrev, ?orderNew, ?orderKept, ?overrides, ?commands,
    ?freeze, ?bits, ?otherSegment, ?passKept, ?waiting, ?discovers, ?empty⟩
  case settings => rw [hframe]; exact hblocks.settings
  case accessMap => rw [hframe]; exact hblocks.accessMap
  case slots => rw [hframe]; exact State.restarted_slots
  case queue =>
    obtain ⟨hsameq, hsamer⟩ := State.restartAnswered_other (new := new) (changed := changed) hnone
    rw [((hmine p).2 t rest (hsameq.trans hqueue)).1, hqueue, List.tail_cons]
  case replies =>
    obtain ⟨hsameq, hsamer⟩ := State.restartAnswered_other (new := new) (changed := changed) hnone
    rw [((hmine p).2 t rest (hsameq.trans hqueue)).2, hsamer]
  case otherPorts =>
    intro q hq hfree
    obtain ⟨hsameq, hsamer⟩ := State.restartAnswered_other (new := new) (changed := changed) hfree
    rw [((hmine q).1 hq).1, ((hmine q).1 hq).2]
    exact ⟨hsameq, hsamer⟩
  case readThroughs =>
    intro e t' hone hhead'
    have he : e ∈ (s.fsc.get g).readThroughs :=
      (List.mem_filter.1 (show e ∈ (s.fsc.get g).readThroughs.filter (fun x => x.port == e.port) by rw [hone]; simp)).1
    rw [((hmine e.port).1 (hnone e he)).1, ((hmine e.port).1 (hnone e he)).2]
    exact State.restartAnswered_one hone hhead'
  case image => rw [hframe]; exact (hblocks.image g).trans (if_pos rfl)
  case buffer => rw [hframe]; exact (hblocks.buffer g).trans (if_pos rfl)
  case settle => rw [hframe]; exact (hblocks.settle g).trans (if_pos rfl)
  case fences =>
    intro q
    rw [hframe]
    refine (hblocks.fences q g).trans ?_
    by_cases hq : ((s.fences.get q).get g).isPending = true <;> simp [hq]
  case demand =>
    rw [halloc]
    split
    · exact hdemand
    · rfl
  case ePrev =>
    rw [halloc]
    split
    · exact hprev
    · rfl
  case orderNew =>
    rintro rfl
    obtain ⟨-, rfl⟩ := hchanged.resolve_right fun hc => nomatch hc.1
    rw [halloc]
    split
    · exact horder
    · rfl
  case orderKept =>
    rintro rfl
    obtain ⟨-, rfl⟩ := hchanged.resolve_left fun hc => nomatch hc.1
    rw [halloc]
    split
    · exact horder
    · rfl
  case overrides =>
    intro r
    rw [hframe]
    exact State.restarted_overrides
  case commands =>
    rw [halloc]
    split
    · rw [hcommands]
      exact commandsAfterRestart_eq _ g
    · exact commandsAfterRestart_eq _ g
  case freeze =>
    obtain ⟨haddr, hunits⟩ := hunits
    obtain ⟨hcu, hfp, hflow⟩ := State.restarted_glycol (s := s) (new := new) (g := g) (changed := changed)
    obtain ⟨hma, hpermitted, hcap⟩ := State.restarted_margin (s := s) (new := new) (g := g) (changed := changed)
    obtain ⟨hnomast, hmast⟩ := State.restarted_ambient (s := s) (new := new) (g := g) (changed := changed)
    simp only [hfpb, hta]
    refine ⟨hcu, hfp, hflow, fun h => ⟨(hnomast h).1, hfaults _ (hnomast h).2⟩, hmast, hma, hpermitted, haddr, hcap,
      fun y hy => ?_, fun h hh => State.restarted_otherLoop hh⟩
    obtain ⟨hmargin, hshort, hfrost, hiced, hprotects, htells⟩ := hunits y hy
    exact ⟨hmargin, hshort, hfrost, hiced, fun hp hb => hfaults _ (hprotects hp hb),
      fun hc q hq => (hkeptbits q).trans (htells hc q hq)⟩
  case bits =>
    intro q
    rw [hends.bits (.inl rfl), State.restarted_bits hport]
    simp only [State.dropsRecordOf_iff]
  case otherSegment =>
    intro h hh
    refine ⟨?_, ?_, ?_, hothers h hh⟩
    · rw [hframe]; exact (hblocks.image h).trans (if_neg hh)
    · rw [hframe]; exact (hblocks.buffer h).trans (if_neg hh)
    · rw [hframe]; exact (hblocks.settle h).trans (if_neg hh)
  case passKept =>
    intro hkept
    have hpasses : (u.alloc.get g).passes = 0 := by
      rw [halloc]
      split
      · next hfree =>
        rcases hwaits with ⟨hnowait, -⟩ | ⟨e, -, hquiet⟩
        · obtain ⟨a, as, hpop⟩ := List.exists_cons_of_ne_nil (hkept.resolve_left fun hc => hc hnowait)
          rw [hpop]
          rfl
        · rw [hfree] at hquiet; cases hquiet
      · rfl
    cases hcontroller with
    | waits e hquiet hf => rw [hf]; exact ⟨rfl, rfl, rfl, rfl, hpasses⟩
    | calls hfree a as hpop hf => rw [hf]; exact ⟨rfl, rfl, rfl, rfl, hpasses⟩
    | empty hfree hpop hf =>
      rcases hwaits with ⟨hnowait, -⟩ | ⟨e, -, hquiet⟩
      · exact absurd hpop (hkept.resolve_left fun hc => hc hnowait)
      · rw [hfree] at hquiet; cases hquiet
  case waiting =>
    intro e he
    rcases hwaits with ⟨hnowait, -⟩ | ⟨e', he', hquiet⟩
    · rw [hnowait] at he; cases he
    · rw [he'] at he
      cases he
      cases hcontroller with
      | waits e hquiet' hf => rw [hf]; exact hquiet
      | calls hfree => rw [hfree] at hquiet; cases hquiet
      | empty hfree => rw [hfree] at hquiet; cases hquiet
  case discovers =>
    intro hnowait a as hpop
    have hfree := hfreed hnowait
    cases hcontroller with
    | waits e hquiet => rw [hfree] at hquiet; cases hquiet
    | calls _ a' as' hpop' hf =>
      rw [hpop] at hpop'
      cases hpop'
      rw [hf]
    | empty _ hpop' => rw [hpop] at hpop'; cases hpop'
  case empty =>
    intro hnowait hpop
    have hfree := hfreed hnowait
    rw [if_pos hfree, hpop] at halloc
    rw [halloc]
    cases hcontroller with
    | waits e hquiet => rw [hfree] at hquiet; cases hquiet
    | calls _ a as hpop' => rw [hpop] at hpop'; cases hpop'
    | empty _ _ hf =>
      rw [hf]
      split
      · exact ⟨rfl, rfl, rfl, rfl, hlost hfree hpop, rfl, rfl, rfl⟩
      · exact ⟨rfl, rfl, rfl, rfl, hlost hfree hpop, rfl, rfl, rfl⟩

end Sys2Proof.Machine
end

section
/-! Operations that look at no controller: they do the same whatever the segments' controllers hold. With them a failed
attempt ends the same whenever its window would have ended (R21). -/

namespace Sys2Proof.Machine

/-- The state with other controllers. -/
def State.withFsc (s : State) (fsc : PerSeg Fsc) : State := { s with fsc := fsc }

/-- An operation looks at no controller, and leaves them. -/
def IgnoresFsc (F : State → State) : Prop := ∀ s fsc, F (s.withFsc fsc) = (F s).withFsc fsc

section
variable {F G : State → State} {c : State → Prop} [DecidablePred c]

theorem IgnoresFsc.comp (hG : IgnoresFsc G) (hF : IgnoresFsc F) : IgnoresFsc fun s => G (F s) := fun s fsc => by
  dsimp only
  rw [hF s fsc, hG (F s) fsc]

theorem IgnoresFsc.ite (hc : ∀ s fsc, c (s.withFsc fsc) ↔ c s) (hF : IgnoresFsc F) (hG : IgnoresFsc G) :
    IgnoresFsc fun s => if c s then F s else G s := fun s fsc => by
  dsimp only
  by_cases h : c s
  · rw [if_pos h, if_pos ((hc s fsc).2 h), hF s fsc]
  · rw [if_neg h, if_neg fun h' => h ((hc s fsc).1 h'), hG s fsc]

theorem IgnoresFsc.id : IgnoresFsc fun s => s := fun _ _ => rfl

theorem IgnoresFsc.setFault (f : FaultFlag) : IgnoresFsc fun s => s.setFault f :=
  .ite (c := fun s => s.hasFault f = true) (fun _ _ => .rfl) .id fun _ _ => rfl

theorem IgnoresFsc.notifyIf {cause : State → Bool} (hc : ∀ s fsc, cause (s.withFsc fsc) = cause s) (b : NoticeBit) :
    IgnoresFsc fun s => s.notifyIf (cause s) b :=
  .ite (c := fun s => cause s = true) (fun s fsc => by rw [hc]) (fun _ _ => rfl) .id

/-! ### Freeze protection -/

theorem IgnoresFsc.computeTa : IgnoresFsc State.computeTa := fun s fsc => by
  unfold State.computeTa
  rw [show (s.withFsc fsc).ambientReadings = s.ambientReadings from rfl]
  cases lowest s.ambientReadings with
  | some t => rfl
  | none => exact IgnoresFsc.setFault .ambientLost (s.setTa s.settings.designMin) fsc

theorem IgnoresFsc.fpbRead (e : FpbEvent) : IgnoresFsc fun s => s.fpbRead e :=
  .comp (G := State.fpbAmbient e) (F := fun s => State.fpbGlycol e .fs1 (State.fpbGlycol e .fs0 s))
    (.ite (c := fun _ => e.ta = true) (fun _ _ => .rfl) .computeTa .id) fun _ _ => rfl

theorem IgnoresFsc.computeMa (l : LoopId) : IgnoresFsc fun s => s.computeMa l :=
  .ite (c := fun s => isolationNext (s.fpb.get l).permitted (marginOver s.ta (s.fpb.get l).fp s.settings.guardBand) =
    (s.fpb.get l).permitted) (fun _ _ => .rfl) (fun _ _ => rfl) fun _ _ => rfl

theorem IgnoresFsc.recomputeCap (l : LoopId) : IgnoresFsc fun s => s.recomputeCap l :=
  .ite (c := fun s => bypassCap (s.fpb.get l).units = (s.fpb.get l).bmax) (fun _ _ => .rfl) (fun _ _ => rfl) fun _ _ => rfl

theorem State.reachesMa_withFsc {e : FpbEvent} {s u : State} {fsc : PerSeg Fsc} {l : LoopId} :
    reachesMa e (s.withFsc fsc) (u.withFsc fsc) l = reachesMa e s u l := rfl

theorem IgnoresFsc.fpbJudged (e : FpbEvent) : IgnoresFsc fun s => s.fpbJudged e := fun s fsc => by
  have hread := IgnoresFsc.fpbRead e s fsc
  have hstep : ∀ l (u : State), (if reachesMa e s (s.fpbRead e) l then (u.withFsc fsc).computeMa l else u.withFsc fsc) =
      (if reachesMa e s (s.fpbRead e) l then u.computeMa l else u).withFsc fsc := fun l u => by
    split
    · exact IgnoresFsc.computeMa l u fsc
    · rfl
  unfold State.fpbJudged
  dsimp only at hread ⊢
  rw [hread, State.reachesMa_withFsc, State.reachesMa_withFsc, hstep .fs0]
  exact hstep .fs1 _

theorem IgnoresFsc.setFaultIf (cause : Bool) (f : FaultFlag) : IgnoresFsc fun s => s.setFaultIf cause f :=
  .ite (c := fun _ => cause = true) (fun _ _ => .rfl) (.setFault f) .id

/-- What a frost evaluation does once it has found the units' new values and those that changed. -/
def State.frostEvaluated (l : LoopId) (new changed : List UnitFrost) (restart : Bool) (s : State) : State :=
  let as := changed.map UnitFrost.addr
  let s1 := (s.modFpb l fun f => { f with units := new }).repostAll l as .fan
  let s2 := s1.repostAll l as .valve
  let s3 := if changed.isEmpty && !restart then s2 else s2.recomputeCap l
  (s3.notifyIf (!changed.isEmpty) .frost).setFaultIf (changed.any fun u => u.frost == .protect) .frostProtect

theorem IgnoresFsc.frostEvaluated (l : LoopId) (new changed : List UnitFrost) (restart : Bool) :
    IgnoresFsc (State.frostEvaluated l new changed restart) := by
  have hunits : IgnoresFsc fun s => ((s.modFpb l fun f => { f with units := new }).repostAll l
      (changed.map UnitFrost.addr) .fan).repostAll l (changed.map UnitFrost.addr) .valve := fun _ _ => rfl
  have hcap : IgnoresFsc fun s => if changed.isEmpty && !restart then s else s.recomputeCap l :=
    .ite (c := fun _ => (changed.isEmpty && !restart) = true) (fun _ _ => .rfl) .id (.recomputeCap l)
  have hall := IgnoresFsc.comp (.setFaultIf (changed.any fun u => u.frost == .protect) .frostProtect)
    (.comp (.notifyIf (cause := fun _ => !changed.isEmpty) (fun _ _ => rfl) .frost) (.comp hcap hunits))
  exact hall

theorem IgnoresFsc.fpbFrost (l : LoopId) (reached : UnitFrost → Bool) (restart : Bool) :
    IgnoresFsc (State.fpbFrost l reached restart) := fun s fsc =>
  IgnoresFsc.frostEvaluated l (s.unitsEvaluated l reached) (frostChanges (s.fpb.get l).units (s.unitsEvaluated l reached))
    restart s fsc

theorem IgnoresFsc.fpbEvent (e : FpbEvent) : IgnoresFsc fun s => s.fpbEvent e := fun s fsc => by
  have hreaches : ∀ l, e.reaches (s.withFsc fsc) l = e.reaches s l := fun l => by
    have hread := IgnoresFsc.fpbRead e s fsc
    dsimp only at hread
    funext u
    unfold FpbEvent.reaches
    rw [hread]
    rfl
  have hjudged := IgnoresFsc.fpbJudged e s fsc
  dsimp only at hjudged ⊢
  rw [State.fpbEvent_eq, State.fpbEvent_eq, hreaches, hreaches, hjudged, IgnoresFsc.fpbFrost, IgnoresFsc.fpbFrost]

/-! ### The entry into LOST -/

theorem IgnoresFsc.discardEntries (g : SegId) (a : Nat) : IgnoresFsc fun s => s.discardEntries g a := fun _ _ => rfl

theorem IgnoresFsc.fpbUnitLost (l : LoopId) (a : Nat) : IgnoresFsc fun s => s.fpbUnitLost l a :=
  .ite (c := fun _ => kindOf a = .unit) (fun _ _ => .rfl)
    (.comp (.fpbEvent { FpbEvent.nothing with unit := some (l, a) })
      (F := fun s => s.modUnit l a fun u => { u with shortfall := 0 }) fun _ _ => rfl) .id

/-- What an entry into LOST does before the station's read-throughs leave. -/
def State.lostBefore (s : State) (g : SegId) (a : Nat) : State :=
  (((s.setFault .stationLost).modStation g a fun st => { st with attention := false }).discardEntries g a).fpbUnitLost g a

theorem State.enterLost_eq (s : State) (g : SegId) (a : Nat) :
    s.enterLost g a = (s.lostBefore g a).leaveReadThroughs g fun e => e.station == a := rfl

theorem IgnoresFsc.lostBefore (g : SegId) (a : Nat) : IgnoresFsc fun s => s.lostBefore g a :=
  .comp (.fpbUnitLost g a) (.comp (.discardEntries g a)
    (.comp (G := fun s => s.modStation g a fun st => { st with attention := false }) (fun _ _ => rfl) (.setFault .stationLost)))

end

/-! ### What the controller does meanwhile -/

/-- An operation leaves what the segment's controller does as it is, and goes by nothing of it. -/
def IgnoresActivity (g : SegId) (F : State → State) : Prop := ∀ s x, F (s.setActivity g x) = (F s).setActivity g x

section
variable {g : SegId} {F G : State → State}

theorem IgnoresFsc.activity (h : IgnoresFsc F) (hfsc : ∀ s, (F s).fsc = s.fsc) : IgnoresActivity g F := fun s x => by
  refine (h s (s.fsc.modify g fun f => { f with activity := x })).trans ?_
  rw [State.setActivity, State.modFsc, hfsc]
  rfl

theorem IgnoresActivity.comp (hG : IgnoresActivity g G) (hF : IgnoresActivity g F) : IgnoresActivity g fun s => G (F s) :=
  fun s x => by
    dsimp only
    rw [hF s x, hG (F s) x]

theorem IgnoresActivity.ite {c : State → Prop} [DecidablePred c] (hc : ∀ s x, c (s.setActivity g x) ↔ c s)
    (hF : IgnoresActivity g F) (hG : IgnoresActivity g G) : IgnoresActivity g fun s => if c s then F s else G s := fun s x => by
  dsimp only
  by_cases h : c s
  · rw [if_pos h, if_pos ((hc s x).2 h), hF s x]
  · rw [if_neg h, if_neg fun h' => h ((hc s x).1 h'), hG s x]

theorem IgnoresActivity.leaveReadThroughs (leaves : ReadThrough → Bool) :
    IgnoresActivity g fun s => s.leaveReadThroughs g leaves := fun s x => by
  have hqueue : ((s.setActivity g x).fsc.get g).readThroughs = (s.fsc.get g).readThroughs := by
    rw [show (s.setActivity g x).fsc.get g = { s.fsc.get g with activity := x } from PerSeg.get_modify_self ..]
  have hfsc : (s.fsc.modify g fun f => { f with activity := x }).modify g
      (fun f => { f with readThroughs := f.readThroughs.filter fun e => !leaves e }) =
      (s.fsc.modify g fun f => { f with readThroughs := f.readThroughs.filter fun e => !leaves e }).modify g
        fun f => { f with activity := x } := by rw [PerSeg.modify_modify, PerSeg.modify_modify]
  dsimp only
  rw [State.leaveReadThroughs_replies, State.leaveReadThroughs_replies, hqueue, State.answerAll_eq, State.answerAll_eq]
  exact congrArg (fun fsc => { s with
    ports := ((s.fsc.get g).readThroughs.filter leaves).foldl
      (fun ports (e : ReadThrough) => ports.modify e.port (Port.form (s.pointReply g e.station e.target e.address) .none)) s.ports
    fsc := fsc }) hfsc

theorem IgnoresActivity.enterLost (a : Nat) : IgnoresActivity g fun s => s.enterLost g a := by
  simp only [State.enterLost_eq]
  exact .comp (.leaveReadThroughs fun e => e.station == a)
    ((IgnoresFsc.lostBefore g a).activity fun s => by simp [State.lostBefore])

theorem IgnoresActivity.setCounter (a c : Nat) : IgnoresActivity g fun s => s.setCounter g a c := by
  have hcount : IgnoresActivity g fun s => (s.modStation g a fun st => { st with counter := c }).notifyIf
      (linkFor c != s.link g a) .station :=
    IgnoresFsc.activity (.ite (c := fun s => (linkFor c != s.link g a) = true) (fun _ _ => .rfl) (fun _ _ => rfl) fun _ _ => rfl)
      fun s => by simp
  exact .ite (c := fun s => linkFor c = .lost ∧ s.link g a ≠ .lost) (fun _ _ => .rfl) (.comp (.enterLost a) hcount) hcount

theorem IgnoresActivity.countBad (a : Nat) : IgnoresActivity g fun s => s.countBad g a := fun s x =>
  IgnoresActivity.setCounter a (s.counter g a - 2) s x

theorem IgnoresActivity.concluded (a : Nat) (found : Bool) : IgnoresActivity g fun s => s.concluded g a found := by
  have hcount : IgnoresActivity g fun s =>
      (s.modStation g a fun st => { st with counter := if found then 12 else 0 }).notifyAll .station := fun _ _ => rfl
  exact .ite (c := fun _ => found = true) (fun _ _ => .rfl) hcount (.comp (.enterLost a) hcount)

end

end Sys2Proof.Machine
end

section
/-! A failed attempt (R21, R22): when it ends, and what a READ, a WRITE, a discovery and a probe come to. -/

namespace Sys2Proof.Machine

section
variable {s : State} {g : SegId} {a : Nat} {x : Transaction}

/-! ### The window of a call -/

theorem State.setActivity_setActivity (s : State) (g : SegId) (x y : Activity) :
    (s.setActivity g x).setActivity g y = s.setActivity g y := s.modFsc_modFsc g _ _

/-- How an attempt that fails ends does not depend on when its window would have ended. -/
theorem State.attemptFailed_window (ends : Nat) (hjob : x.job ≠ .poll) :
    (s.setActivity g (.busy { x with ends := ends })).attemptFailed g { x with ends := ends } = s.attemptFailed g x := by
  have hbad : ∀ a, (s.setActivity g (.busy { x with ends := ends })).countBad g a =
      (s.countBad g a).setActivity g (.busy { x with ends := ends }) := fun a => IgnoresActivity.countBad a s _
  have hretry : ∀ u : State, (u.setActivity g (.busy { x with ends := ends })).retry g { x with ends := ends } = u.retry g x :=
    fun u => u.setActivity_setActivity g _ _
  unfold State.attemptFailed
  dsimp only
  split
  · next a hx =>
    have hconcluded : (s.setActivity g (.busy { x with ends := ends })).concluded g a false =
        (s.concluded g a false).setActivity g (.busy { x with ends := ends }) := IgnoresActivity.concluded a false s _
    split
    · exact hretry s
    · rw [State.conclude_eq, State.conclude_eq, hconcluded]
      generalize s.concluded g a false = u
      cases hnext : (u.settings.population g).find? fun b => decide (a < b) with
      | some b =>
        rw [State.discoverFrom_some hnext, State.discoverFrom_some (by exact hnext)]
        exact u.setActivity_setActivity g _ _
      | none =>
        rw [State.discoverFrom_none hnext, State.discoverFrom_none (by exact hnext), State.setActivity_setActivity]
  · next a hx => rw [State.endProbe, State.setActivity_setActivity]; rfl
  · next j hx =>
    rw [hbad]
    generalize s.countBad g j.station = u
    change (if 0 < x.retries ∧ u.isLost g j.station = false then _ else _) = _
    split
    · exact hretry u
    · rw [State.setActivity_setActivity]
  · next a hx =>
    rw [hbad]
    generalize s.countBad g a = u
    change (if u.isLost g a = true then _ else _) = _
    split
    · rw [State.setActivity_setActivity]
    · split
      · exact hretry u
      · exact (u.writeReturn g).setActivity_setActivity g _ _
  · next hx => exact absurd hx hjob

theorem exec_windowExpiry_busy (hbusy : (s.fsc.get g).activity = .busy x) (hjob : x.job ≠ .poll) :
    exec (.responseWindowExpiry g) s =
      .next ((((s.advanceTo x.ends).attemptFailed g x).arbitrate g).kickPorts) := by
  have hawaits : awaiting (.busy x) = some x := by
    rw [awaiting]
    split
    · next hpoll => exact absurd hpoll hjob
    · rfl
  change Host.Outcome.next (s.windowExpired g) = _
  rw [State.windowExpired, hbusy]
  dsimp only
  rw [hawaits]

/-- Characters that are no answer to a call are a failed attempt. -/
theorem State.answer_failed {chars : List Byte} (hfails : match x.job with
      | .discovery a => ∀ h, hear a chars = some h → h.data.length ≠ 1
      | .probe a => ∀ h, hear a chars = some h → h.data.length ≠ 1
      | .read j => ∀ h, hear j.station chars = some h → readContent j.next h = none
      | .write a => ∀ h, hear a chars = some h → h.data ≠ []
      | .poll => False) : s.answer g x chars = s.attemptFailed g x := by
  have hidentify : ∀ a, (∀ h, hear a chars = some h → h.data.length ≠ 1) → (hear a chars).bind identifyContent = none := by
    intro a hlength
    cases hheard : hear a chars with
    | none => rfl
    | some h =>
      rw [Option.bind_some, identifyContent]
      split
      · next k hdata => exact absurd (by rw [hdata]; rfl) (hlength h hheard)
      · rfl
  unfold State.answer
  cases hx : x.job with
  | discovery a => rw [hx] at hfails; dsimp only; rw [hidentify a hfails]
  | probe a => rw [hx] at hfails; dsimp only; rw [hidentify a hfails]
  | read j =>
    rw [hx] at hfails
    dsimp only
    cases hheard : hear j.station chars with
    | none => rfl
    | some h => dsimp only; rw [hfails h hheard]
  | write a =>
    rw [hx] at hfails
    dsimp only
    cases hheard : hear a chars with
    | none => rfl
    | some h => exact if_neg (by simpa using hfails h hheard)
  | poll => rw [hx] at hfails; exact hfails.elim

/-! ### The counter of a failed attempt -/

theorem State.counter_eq {st : Station} (hst : s.station? g a = some st) : s.counter g a = st.counter := by
  rw [State.counter, hst]

/-- A failed attempt that leaves the counter above 0 puts it down, with the STATION bits of a changed link state. -/
theorem State.countBad_answers {st : Station} (hst : s.station? g a = some st) (hcounter : 2 < st.counter) :
    s.countBad g a = (s.modStation g a fun st => { st with counter := s.counter g a - 2 }).notifyIf
      (linkFor (s.counter g a - 2) != s.link g a) .station :=
  State.setCounter_notLost (.inl fun h => by rw [linkFor_lost_iff, State.counter_eq hst] at h; omega)

/-- Nothing else comes of it. -/
theorem State.countBad_counted {st : Station} (hst : s.station? g a = some st) (hcounter : 2 < st.counter) :
    ∃ b, s.countBad g a = { s with
      image := s.image.modify g fun sts => sts.map fun x => if x.addr = a then { x with counter := st.counter - 2 } else x
      ports := s.noticed fun _ => b } ∧ (b = 0#8 ∨ b = 0x02#8) ∧
    (s.countBad g a).station? g a = some { st with counter := st.counter - 2 } ∧ (s.countBad g a).isLost g a = false := by
  have hlost : linkFor (st.counter - 2) ≠ .lost := fun h => by rw [linkFor_lost_iff] at h; omega
  have hstation : (s.countBad g a).station? g a = some { st with counter := st.counter - 2 } := by
    rw [State.countBad_answers hst hcounter, State.notifyIf_eq]
    refine (State.station?_modStation s g a).trans ?_
    rw [hst, State.counter_eq hst]
    rfl
  refine ⟨if linkFor (s.counter g a - 2) != s.link g a then NoticeBit.station.mask else 0#8, ?_, ?_, hstation, ?_⟩
  · rw [State.countBad_answers hst hcounter, State.notifyIf_eq, State.counter_eq hst]
    rfl
  · split
    · exact .inr rfl
    · exact .inl rfl
  · rw [← Bool.not_eq_true, State.isLost_iff, State.link, hstation]
    exact hlost

end

end Sys2Proof.Machine
end

section
/-! A station that enters LOST (R9, R116): its entries discarded with their marks, what its read-throughs are answered with, and
what stays so as the segment goes on. -/

namespace Sys2Proof.Machine

/-! ### What a reply to a read-through looks at -/

theorem State.pointReply_congr {u v : State} {g : SegId} {a : Nat} (hnow : u.now = v.now)
    (hpoint : ∀ q, u.point g a q = v.point g a q) (hcommands : u.commands g a = v.commands g a)
    (hbuffer : u.buffer.get g = v.buffer.get g) (hsettle : u.settle.get g = v.settle.get g)
    (hover : ∀ o, (u.override? g a o).map OverrideRecord.value = (v.override? g a o).map OverrideRecord.value) (t : Target)
    (d : Nat) : u.pointReply g a t d = v.pointReply g a t d := by
  cases t with
  | point q => rw [State.pointReply, State.pointReply, hpoint]
  | output o =>
    have hsome : (u.override? g a o).isSome = (v.override? g a o).isSome := by
      rw [← Option.isSome_map (f := OverrideRecord.value), hover, Option.isSome_map]
    simp only [State.pointReply, State.outputReply, hnow, hpoint, hcommands, hbuffer, hsettle, hover, hsome]

section
variable {s : State} {g : SegId} {a : Nat} {p : PortId}

/-! ### The entries discarded (R116) -/

/-- The ports that some entries of a station's are for, by their marks or by their origins. -/
def State.goneSets (s : State) (g : SegId) (a : Nat) (set : Entry → PortSet) : PortSet :=
  ((s.buffer.get g).filter fun e => e.station == a).foldl (fun m e => m.union (set e)) PortSet.empty

theorem State.goneSets_get (set : Entry → PortSet) :
    (s.goneSets g a set).get p = true ↔ ∃ e ∈ s.buffer.get g, e.station = a ∧ (set e).get p = true := by
  rw [State.goneSets, foldl_union_get, PortSet.empty_get, Bool.false_or, List.any_filter, List.any_eq_true]
  simp

/-- What discarding a station's entries does before their marks fail. -/
def State.discarded (s : State) (g : SegId) (a : Nat) : State := { s with
  buffer := s.buffer.modify g fun es => es.filter fun e => !(e.station == a)
  alloc := s.alloc.modify g fun al => { al with commands := al.commands.map fun c => if c.addr = a then c.forgetAll else c }
  overrides := s.overrides.map fun r => if r.seg = g ∧ r.station = a then { r with delivery := .waiting } else r
  ports := s.noticed fun p => if (s.goneSets g a Entry.origins).get p then 0x08#8 else 0#8 }

theorem State.discardEntries_eq :
    s.discardEntries g a = ((s.discarded g a).failMarks g (s.goneSets g a Entry.marks)).completeFences g := by
  unfold State.discardEntries
  dsimp only
  rw [State.notifySet_eq]
  rfl

/-- Marks left once a station's entries are gone: those of other stations' entries, and of the settle list. -/
theorem State.discarded_marked : (s.discarded g a).marked g p = true ↔
    (∃ e ∈ s.buffer.get g, e.station ≠ a ∧ e.marks.get p = true) ∨ ∃ i ∈ s.settle.get g, i.marks.get p = true := by
  have hbuffer : (s.discarded g a).buffer.get g = (s.buffer.get g).filter fun e => !(e.station == a) :=
    PerSeg.get_modify_self ..
  have hsettle : (s.discarded g a).settle.get g = s.settle.get g := rfl
  rw [State.marked, hbuffer, hsettle, List.any_filter, Bool.or_eq_true, List.any_eq_true, List.any_eq_true]
  simp

theorem State.discardEntries_pending {failed : Bool} (h : (s.fences.get p).get g = .pending failed) :
    ((s.discardEntries g a).fences.get p).get g = if (s.discarded g a).marked g p then
        .pending ((s.goneSets g a Entry.marks).get p || failed)
      else if ((s.goneSets g a Entry.marks).get p || failed) then .incomplete else .settled := by
  have hfence : ((s.discarded g a).fences.get p).get g = .pending failed := h
  rw [State.discardEntries_eq, State.failMarks_completeFences_get, if_pos rfl, hfence]
  cases (s.goneSets g a Entry.marks).get p <;> cases (s.discarded g a).marked g p <;> cases failed <;> rfl

theorem State.discardEntries_other (h : ((s.fences.get p).get g).isPending = false) :
    ((s.discardEntries g a).fences.get p).get g = (s.fences.get p).get g := by
  have hfence : ((s.discarded g a).fences.get p).get g = (s.fences.get p).get g := rfl
  rw [State.discardEntries_eq, State.failMarks_completeFences_get, if_pos rfl, hfence]
  cases hr : (s.fences.get p).get g with
  | pending failed => rw [hr] at h; cases h
  | _ => cases (s.goneSets g a Entry.marks).get p <;> rfl

/-- A port is told of its discarded entries, and of its fence that so ends. -/
theorem State.discardEntries_bits : ((s.discardEntries g a).ports.get p).notices &&& 0x18#8 =
    ((s.ports.get p).notices &&& 0x18#8) ||| if (s.settings.port.get p).notices = true then
      (if (s.goneSets g a Entry.origins).get p then 0x08#8 else 0#8) |||
        (if ((s.fences.get p).get g).isPending = true ∧ (s.discarded g a).marked g p = false then 0x10#8 else 0#8)
    else 0#8 := by
  have hports : (s.discardEntries g a).ports = s.noticed fun p =>
      (if (s.goneSets g a Entry.origins).get p then 0x08#8 else 0#8) |||
        if ((s.fences.get p).get g).isPending = true ∧ (s.discarded g a).marked g p = false then 0x10#8 else 0#8 := by
    rw [State.discardEntries_eq, State.failMarks_completeFences_eq, ← State.noticed_noticed]
    rfl
  rw [hports, State.noticed_get]
  by_cases henabled : (s.settings.port.get p).notices = true
  · rw [if_pos henabled, if_pos henabled]
    dsimp only
    rw [BitVec.and_or_distrib_right]
    congr 1
    by_cases ho : (s.goneSets g a Entry.origins).get p = true <;>
      by_cases hd : ((s.fences.get p).get g).isPending = true ∧ (s.discarded g a).marked g p = false <;>
      simp only [ho, hd, if_true, if_false, Bool.false_eq_true] <;> decide
  · rw [if_neg henabled, if_neg henabled, BitVec.or_zero]

/-! ### The entry into LOST (R9) -/

/-- The station's record as it enters LOST, with STATION LOST and the STATION bits. -/
def State.lostFound (s : State) (g : SegId) (a : Nat) : State :=
  (((s.modStation g a fun st => { st with counter := 0 }).notifyIf true .station).setFault .stationLost).modStation g a
    fun st => { st with attention := false }

/-- What a failed attempt at a station that so enters LOST comes to before its read-throughs leave. -/
def State.lostThrough (s : State) (g : SegId) (a : Nat) : State := ((s.lostFound g a).discardEntries g a).fpbUnitLost g a

/-- A failed attempt that brings the counter to 0 makes the station LOST. -/
theorem State.countBad_lost {st : Station} (hst : s.station? g a = some st) (hlow : 1 ≤ st.counter) (hhigh : st.counter ≤ 2) :
    s.countBad g a = (s.lostThrough g a).leaveReadThroughs g fun e => e.station == a := by
  have hzero : s.counter g a - 2 = 0 := by rw [State.counter_eq hst]; omega
  have hlink : s.link g a = linkFor st.counter := by rw [State.link, hst]; rfl
  have hbefore : s.link g a ≠ .lost := fun h => by rw [hlink, linkFor_lost_iff] at h; omega
  have hchanges : (linkFor 0 != s.link g a) = true := bne_iff_ne.2 fun h => hbefore (h.symm.trans rfl)
  rw [State.countBad, hzero, State.setCounter_lost rfl hbefore, hchanges]
  rfl

theorem State.lostFound_eq : ∃ b faults, (s.lostFound g a) = { s with
      image := s.image.modify g fun sts => sts.map fun x => if x.addr = a then { x with counter := 0, attention := false } else x
      faults := faults, ports := s.noticed fun _ => b } ∧ b &&& 0x18#8 = 0#8 := by
  have himage : (s.image.modify g fun sts => sts.map fun x => if x.addr = a then { x with counter := 0 } else x).modify g
      (fun sts => sts.map fun x => if x.addr = a then { x with attention := false } else x) =
      s.image.modify g fun sts => sts.map fun x => if x.addr = a then { x with counter := 0, attention := false } else x := by
    rw [PerSeg.modify_modify]
    refine PerSeg.modify_congr ((List.map_map ..).trans (List.map_congr_left fun x _ => ?_))
    by_cases hx : x.addr = a <;> simp [hx]
  have hset : ∀ u : State, u.setFault .stationLost = u.setFaultIf true .stationLost := fun _ => rfl
  have hbits : ∀ (c : Prop) [Decidable c], (0x02#8 ||| if c then 0#8 else 0x20#8) &&& 0x18#8 = 0#8 := fun c _ => by
    split <;> decide
  refine ⟨_, s.faults ||| FaultFlag.stationLost.mask, ?_, hbits (s.faults ||| FaultFlag.stationLost.mask = s.faults)⟩
  rw [← himage, ← State.noticed_noticed s (fun _ => 0x02#8)]
  unfold State.lostFound
  rw [State.notifyIf_eq, hset, State.setFaultIf_noticed (faults := s.faults ||| FaultFlag.stationLost.mask) rfl]
  rfl

/-- Where a station's last posted values are unknown, its command records are as they were. -/
def State.StationKept (l : LoopId) (a : Nat) (s u : State) : Prop :=
  (∀ c, s.commands? l a = some c → c.unposted) → u.commands? l a = s.commands? l a

theorem State.StationKept.modAlloc {l k : LoopId} (s : State) {F : StationCommands → StationCommands}
    (haddr : ∀ c, (F c).addr = c.addr) (hF : ∀ c : StationCommands, c.unposted → F c = c) :
    State.StationKept l a s (s.modAlloc k fun al => { al with commands := al.commands.map F }) := fun h => by
  by_cases hl : l = k
  · subst hl
    rw [State.modAlloc_commands haddr rfl]
    cases hc : s.commands? l a with
    | none => rfl
    | some c => exact congrArg some (hF c (h c hc))
  · unfold State.commands?
    rw [State.modAlloc_alloc, PerSeg.get_modify_other _ _ hl]

theorem State.StationKept.steps (l : LoopId) (a : Nat) : FreezeSteps (State.StationKept l a) := by
  have hforget : ∀ (c : StationCommands) (o : OutputId), (c.forget o).addr = c.addr := fun c o => by cases o <;> rfl
  exact
    { refl := fun _ _ => rfl
      trans := fun h k hs => (k (by rw [h hs]; exact hs)).trans (h hs)
      modFpb := fun _ _ _ _ => rfl
      setTa := fun _ _ _ => rfl
      repostAll := fun s _ _ o => .modAlloc s (fun c => by split <;> simp [hforget]) fun c hc => by split <;> simp [hc o]
      repost := fun s _ _ o => .modAlloc s (fun c => by split <;> simp [hforget]) fun c hc => by split <;> simp [hc o]
      notifyFrost := fun _ _ _ => by simp [State.commands?]
      setFaultIf := fun _ _ _ _ => by simp [State.commands?] }

theorem State.StationKept.fpbEvent (l : LoopId) (a : Nat) (s : State) (e : FpbEvent) :
    State.StationKept l a s (s.fpbEvent e) := (State.StationKept.steps l a).fpbEvent s e

theorem StationCommands.forgetAll_unposted (c : StationCommands) : c.forgetAll.unposted := fun o => by cases o <;> rfl

/-- The station's outputs, as its read-throughs are answered when it enters LOST (log entry 32). -/
def State.lostOutputs (s : State) (g : SegId) (a : Nat) : State := { s with
  buffer := s.buffer.modify g fun es => es.filter fun e => e.station != a
  alloc := s.alloc.modify g fun al => { al with commands := al.commands.map fun c =>
    if c.addr = a then { c with
      fan := { c.fan with posted := none }, valve := { c.valve with posted := none }
      bypass := { c.bypass with posted := none } } else c } }

theorem State.discarded_commands (s : State) (g : SegId) (a : Nat) :
    (s.discarded g a).commands? g a = (s.commands? g a).map StationCommands.forgetAll := by
  have hmapped : (s.discarded g a).commands? g a = (s.commands? g a).map fun c => if c.addr = a then c.forgetAll else c :=
    State.modAlloc_commands (s := s) (fun c => by split <;> rfl) rfl a
  rw [hmapped]
  cases hc : s.commands? g a with
  | none => rfl
  | some c => exact congrArg some (if_pos (State.commands?_addr hc))

theorem State.fpbUnitLost_commands (u : State) (g : SegId) (a : Nat) (h : ∀ c, u.commands? g a = some c → c.unposted) :
    (u.fpbUnitLost g a).commands? g a = u.commands? g a := by
  unfold State.fpbUnitLost
  split
  · exact State.StationKept.fpbEvent g a (u.modUnit g a fun x => { x with shortfall := 0 }) _ h
  · rfl

theorem State.lostThrough_commands : (s.lostThrough g a).commands? g a = (s.commands? g a).map StationCommands.forgetAll := by
  obtain ⟨b, faults, hfound, -⟩ := s.lostFound_eq (g := g) (a := a)
  have hdiscard : ((s.lostFound g a).discardEntries g a).commands? g a = (s.commands? g a).map StationCommands.forgetAll := by
    rw [State.discardEntries_eq, State.failMarks_completeFences_eq]
    refine (State.discarded_commands (s.lostFound g a) g a).trans ?_
    rw [hfound]
    rfl
  rw [State.lostThrough, State.fpbUnitLost_commands _ _ _ fun c hc => ?_, hdiscard]
  rw [hdiscard] at hc
  obtain ⟨x, -, rfl⟩ := Option.map_eq_some_iff.1 hc
  exact x.forgetAll_unposted

theorem State.lostThrough_fields : (s.lostThrough g a).now = s.now ∧ (s.lostThrough g a).settings = s.settings ∧
    (s.lostThrough g a).fsc = s.fsc ∧ (s.lostThrough g a).settle = s.settle ∧
    (s.lostThrough g a).buffer.get g = (s.buffer.get g).filter (fun e => e.station != a) ∧
    (s.lostThrough g a).overrides =
      s.overrides.map fun r => if r.seg = g ∧ r.station = a then { r with delivery := .waiting } else r := by
  obtain ⟨b, faults, hfound, -⟩ := s.lostFound_eq (g := g) (a := a)
  unfold State.lostThrough
  simp only [State.fpbUnitLost_frame]
  rw [State.discardEntries_eq, State.failMarks_completeFences_eq, hfound]
  exact ⟨rfl, rfl, rfl, rfl, PerSeg.get_modify_self .., rfl⟩

theorem State.lostThrough_station (b : Nat) : (s.lostThrough g a).station? g b = (s.station? g b).map fun st =>
    if st.addr = a then { st with counter := 0, attention := false } else st := by
  obtain ⟨bits, faults, hfound, -⟩ := s.lostFound_eq (g := g) (a := a)
  have himage : (s.lostThrough g a).image = s.image.modify g fun sts => sts.map fun x =>
      if x.addr = a then { x with counter := 0, attention := false } else x := by
    unfold State.lostThrough
    rw [(State.fpbUnitLost_frame _ g a).2.2.2.2.2.2.1, (State.discardEntries_frame _ g a).2.2.2.2.2.2.2.1, hfound]
  unfold State.station?
  rw [himage, PerSeg.get_modify_self, List.find?_map]
  congr 1
  exact congrArg (fun P => (s.image.get g).find? P) (funext fun x => by dsimp only [Function.comp]; split <;> rfl)

/-- What a read-through of the station is answered with as it enters LOST. -/
theorem State.lostThrough_reply (t : Target) (d : Nat) :
    (s.lostThrough g a).pointReply g a t d = (s.lostOutputs g a).pointReply g a t d := by
  obtain ⟨hnow, -, -, hsettle, hbuffer, hover⟩ := s.lostThrough_fields (g := g) (a := a)
  have hspec : (s.lostOutputs g a).buffer.get g = (s.buffer.get g).filter fun e => e.station != a := PerSeg.get_modify_self ..
  refine State.pointReply_congr (v := s.lostOutputs g a) hnow (fun q => ?_) ?_ (hbuffer.trans hspec.symm) (congrArg (PerSeg.get · g) hsettle)
    (fun o => ?_) t d
  · unfold State.point
    rw [State.lostThrough_station, show (s.lostOutputs g a).station? g a = s.station? g a from rfl]
    cases s.station? g a with
    | none => rfl
    | some st => dsimp only [Option.map]; split <;> rfl
  · have hspec : (s.lostOutputs g a).commands? g a = (s.commands? g a).map StationCommands.forgetAll :=
      s.discarded_commands g a
    rw [State.commands, State.commands, State.lostThrough_commands, hspec]
  · unfold State.override?
    rw [hover, List.find?_map, Option.map_map]
    have hsame : (fun r : OverrideRecord => r.seg == g && r.station == a && r.value.output == o) ∘
        (fun r => if r.seg = g ∧ r.station = a then { r with delivery := .waiting } else r) =
        fun r => r.seg == g && r.station == a && r.value.output == o := by
      funext r
      dsimp only [Function.comp]
      split <;> rfl
    rw [hsame, show (s.lostOutputs g a).overrides = s.overrides from rfl]
    refine congrArg (fun F => Option.map F _) (funext fun r => ?_)
    dsimp only [Function.comp]
    split <;> rfl

end

end Sys2Proof.Machine
end

section
/-! What stays as a segment goes on, its read-throughs leaving on the way: what a station that has entered LOST has lost. -/

namespace Sys2Proof.Machine

section
variable {s u t : State} {g : SegId} {a : Nat} {p : PortId}

/-! ### Read-throughs that leave (R37) -/

theorem State.leaveReadThroughs_port (leaves : ReadThrough → Bool) (p : PortId) :
    (s.leaveReadThroughs g leaves).ports.get p =
      ((s.fsc.get g).readThroughs.filter leaves |>.foldl (fun t e => t.replyReadThrough g e) s).ports.get p := by
  rw [State.leaveReadThroughs_replies]
  rfl

/-- A port with none among the read-throughs that leave is as it was. -/
theorem State.leaveReadThroughs_other {leaves : ReadThrough → Bool}
    (h : ∀ e ∈ (s.fsc.get g).readThroughs, leaves e = true → e.port ≠ p) :
    (s.leaveReadThroughs g leaves).ports.get p = s.ports.get p := by
  rw [State.leaveReadThroughs_port]
  exact State.answerAll_other fun e he => h e (List.mem_filter.1 he).1 (List.mem_filter.1 he).2

/-- A port whose one read-through leaves has its head telegram answered. -/
theorem State.leaveReadThroughs_one {leaves : ReadThrough → Bool} {e : ReadThrough}
    (hone : (s.fsc.get g).readThroughs.filter (fun x => x.port == e.port) = [e]) (he : leaves e = true) :
    (s.leaveReadThroughs g leaves).ports.get e.port =
      (s.ports.get e.port).form (s.pointReply g e.station e.target e.address) .none := by
  have hleaves : ((s.fsc.get g).readThroughs.filter leaves).filter (fun x => x.port == e.port) = [e] := by
    rw [List.filter_comm, hone, List.filter_cons_of_pos he, List.filter_nil]
  rw [State.leaveReadThroughs_port, State.answerAll_one hleaves]

theorem State.leaveReadThroughs_queue (leaves : ReadThrough → Bool) : ((s.leaveReadThroughs g leaves).fsc.get g).readThroughs =
    (s.fsc.get g).readThroughs.filter fun e => !leaves e := by
  rw [State.leaveReadThroughs_fsc, PerSeg.get_modify_self]

/-- A port that forms the reply to its head telegram has answered it. -/
theorem Port.form_answers {port : Port} {t : Telegram} {body : List Byte} (h : port.queue.head? = some t) :
    (port.form body .none).queue = port.queue.tail ∧ (port.form body .none).replies =
      port.replies ++ [replyFrame t body .none] := by
  obtain ⟨rest, hqueue⟩ := List.head?_eq_some_iff.1 h
  obtain ⟨hq, hr, -⟩ := Port.form_cons hqueue body .none
  exact ⟨by rw [hq, hqueue, List.tail_cons], hr⟩

/-! ### What stays as the segment goes on -/

/-- What stays as a segment goes on, read-throughs leaving on the way: the fences and their bits, every flag that is set, all of a
station's record but its points, and everything that a station that does not answer has no more. -/
structure State.Remains (g : SegId) (s u : State) : Prop where
  settle : u.settle = s.settle := by exact rfl
  fences : u.fences = s.fences := by exact rfl
  faults : ∀ f, s.hasFault f = true → u.hasFault f = true := by exact fun _ => id
  seen : ∀ a, (u.station? g a).map Station.seen = (s.station? g a).map Station.seen := by exact fun _ => rfl
  bits : State.BitsKept 0x18#8 s u
  readThroughs : ∀ e ∈ (u.fsc.get g).readThroughs, e ∈ (s.fsc.get g).readThroughs
  ports : ∀ p, (∀ e ∈ (s.fsc.get g).readThroughs, e.port ≠ p) →
    (u.ports.get p).queue = (s.ports.get p).queue ∧ (u.ports.get p).replies = (s.ports.get p).replies
  entries : ∀ e ∈ u.buffer.get g, (∃ x ∈ s.buffer.get g, x.station = e.station) ∨ s.answers g e.station = true
  posted : ∀ a, s.answers g a = false → ∀ o, (u.commands g a).postedValue o = (s.commands g a).postedValue o
  delivered : ∀ r ∈ u.overrides, r ∈ s.overrides ∨ (r.seg = g ∧ s.answers g r.station = true)

theorem State.Onward.remains (h : s.Onward g u) : s.Remains g u where
  settle := by rw [h.frame]
  fences := by rw [h.frame]
  faults f := h.hasFault
  seen := h.pass.seen
  bits := by
    obtain ⟨b, hb, hports⟩ := h.ports
    exact .noticed hports fun _ => by rcases hb with rfl | rfl <;> decide
  readThroughs e he := by rwa [h.readThroughs] at he
  ports p _ := by
    obtain ⟨b, -, hports⟩ := h.ports
    rw [hports, State.noticed_get]
    split <;> exact ⟨rfl, rfl⟩
  entries := h.entries
  posted := h.posted
  delivered := h.delivered

theorem State.Remains.answers (h : s.Remains g u) (a : Nat) : u.answers g a = s.answers g a := State.answers_of_seen (h.seen a)

theorem State.Remains.trans (h : s.Remains g u) (k : u.Remains g t) : s.Remains g t where
  settle := k.settle.trans h.settle
  fences := k.fences.trans h.fences
  faults f hf := k.faults f (h.faults f hf)
  seen a := (k.seen a).trans (h.seen a)
  bits := h.bits.trans k.bits
  readThroughs e he := h.readThroughs e (k.readThroughs e he)
  ports p hp := by
    obtain ⟨hq, hr⟩ := h.ports p hp
    obtain ⟨kq, kr⟩ := k.ports p fun e he => hp e (h.readThroughs e he)
    exact ⟨kq.trans hq, kr.trans hr⟩
  entries e he := by
    rcases k.entries e he with ⟨x, hx, hstation⟩ | hanswers
    · rw [← hstation]
      exact h.entries x hx
    · exact .inr (h.answers _ ▸ hanswers)
  posted a ha o := (k.posted a ((h.answers a).trans ha) o).trans (h.posted a ha o)
  delivered r hr := by
    rcases k.delivered r hr with hr | ⟨hseg, hanswers⟩
    · exact h.delivered r hr
    · exact .inr ⟨hseg, h.answers _ ▸ hanswers⟩

theorem State.Remains.leaveReadThroughs (leaves : ReadThrough → Bool) : s.Remains g (s.leaveReadThroughs g leaves) where
  settle := by simp
  fences := by simp
  faults f hf := by simpa [State.hasFault] using hf
  seen a := by rw [State.station?_congr (s := s) (by simp) a]
  bits p := by rw [State.leaveReadThroughs_port, State.answerAll_notices]
  readThroughs e he := by
    rw [State.leaveReadThroughs_queue] at he
    exact (List.mem_filter.1 he).1
  ports p hp := by rw [State.leaveReadThroughs_other fun e he _ => hp e he]; exact ⟨rfl, rfl⟩
  entries e he := .inl ⟨e, by simpa using he, rfl⟩
  posted a _ o := by rw [State.commands_congr (s := s) (by simp)]
  delivered r hr := .inl (by simpa using hr)

theorem State.Remains.setActivity (x : Activity) : s.Remains g (s.setActivity g x) :=
  (State.Onward.modFsc rfl (.inl rfl) rfl rfl).remains

/-- A READ that ends lets read-throughs leave, and a scan READ moves the scan on. -/
theorem State.Remains.endRead (j : ReadJob) : s.Remains g (s.endRead g j) := by
  unfold State.endRead
  dsimp only
  split
  · exact .trans (.leaveReadThroughs _) (State.Onward.dealtWith _).remains
  · exact .leaveReadThroughs _
  · exact .leaveReadThroughs _

/-! ### A station that has entered LOST -/

/-- What a station that has entered LOST holds no more, however the segment has gone on. -/
structure State.LostAt (s : State) (g : SegId) (a : Nat) (u : State) : Prop where
  station : ∀ st, s.station? g a = some st → (u.station? g a).map Station.seen =
    some { st with points := [], counter := 0, attention := false }
  fault : u.hasFault .stationLost = true
  entries : ∀ e ∈ u.buffer.get g, e.station ≠ a
  readThroughs : ∀ e ∈ (u.fsc.get g).readThroughs, e ∈ (s.fsc.get g).readThroughs ∧ e.station ≠ a
  answered : ∀ e t, e.station = a → (s.fsc.get g).readThroughs.filter (fun y => y.port == e.port) = [e] →
    (s.ports.get e.port).queue.head? = some t → (u.ports.get e.port).queue = (s.ports.get e.port).queue.tail ∧
      (u.ports.get e.port).replies = (s.ports.get e.port).replies ++
        [replyFrame t ((s.lostOutputs g a).pointReply g e.station e.target e.address) .none]
  posted : ∀ o, (u.commands g a).postedValue o = none
  fences : ∀ p, (u.fences.get p).get g = match (s.fences.get p).get g with
    | .pending failed => if (s.discarded g a).marked g p then .pending ((s.goneSets g a Entry.marks).get p || failed)
        else if ((s.goneSets g a Entry.marks).get p || failed) then .incomplete else .settled
    | r => r
  bits : ∀ p, (u.ports.get p).notices &&& 0x18#8 = ((s.ports.get p).notices &&& 0x18#8) |||
    if (s.settings.port.get p).notices = true then
      (if (s.goneSets g a Entry.origins).get p then 0x08#8 else 0#8) |||
        (if ((s.fences.get p).get g).isPending = true ∧ (s.discarded g a).marked g p = false then 0x10#8 else 0#8)
    else 0#8
  overrides : ∀ r ∈ u.overrides, r.seg = g → r.station = a → r.delivery = .waiting

theorem State.LostAt.remains (h : s.LostAt g a u) {st : Station} (hst : s.station? g a = some st) (k : u.Remains g t) :
    s.LostAt g a t := by
  have hanswers : u.answers g a = false := by
    rw [← Bool.not_eq_true, State.answers_iff]
    rintro ⟨st', hst', hcounter, -⟩
    have hseen := h.station st hst
    rw [hst'] at hseen
    exact hcounter (congrArg (fun x => (x.map Station.counter).getD 0) hseen)
  exact {
    station := fun st hst => (k.seen a).trans (h.station st hst)
    fault := k.faults _ h.fault
    entries := fun e he hea => by
      rcases k.entries e he with ⟨x, hx, hstation⟩ | hanswer
      · exact h.entries x hx (hstation.trans hea)
      · rw [hea, hanswers] at hanswer; cases hanswer
    readThroughs := fun e he => h.readThroughs e (k.readThroughs e he)
    answered := fun e t' hea hone hhead => by
      obtain ⟨hq, hr⟩ := h.answered e t' hea hone hhead
      obtain ⟨kq, kr⟩ := k.ports e.port fun x hx hport => by
        obtain ⟨hxs, hxa⟩ := h.readThroughs x hx
        have hxe : x ∈ (s.fsc.get g).readThroughs.filter fun y => y.port == e.port :=
          List.mem_filter.2 ⟨hxs, beq_iff_eq.2 hport⟩
        rw [hone, List.mem_singleton] at hxe
        exact hxa (by rw [hxe, hea])
      exact ⟨kq.trans hq, kr.trans hr⟩
    posted := fun o => (k.posted a hanswers o).trans (h.posted o)
    fences := fun p => by rw [k.fences]; exact h.fences p
    bits := fun p => (k.bits p).trans (h.bits p)
    overrides := fun r hr hseg hra => by
      rcases k.delivered r hr with hr | ⟨-, hanswer⟩
      · exact h.overrides r hr hseg hra
      · rw [hra, hanswers] at hanswer; cases hanswer }

theorem State.fpbUnitLost_bits : State.BitsKept 0x18#8 s (s.fpbUnitLost g a) := by
  unfold State.fpbUnitLost
  split
  · exact State.BitsKept.trans (u := s.modUnit g a fun x => { x with shortfall := 0 }) (fun _ => rfl)
      (.fpbEvent (by decide) (by decide) _)
  · exact fun _ => rfl

/-- Of freeze protection's notices and the station's own, none is a FENCE or OVERRIDE bit. -/
theorem State.lostThrough_bits : ((s.lostThrough g a).ports.get p).notices &&& 0x18#8 =
    ((s.ports.get p).notices &&& 0x18#8) ||| if (s.settings.port.get p).notices = true then
      (if (s.goneSets g a Entry.origins).get p then 0x08#8 else 0#8) |||
        (if ((s.fences.get p).get g).isPending = true ∧ (s.discarded g a).marked g p = false then 0x10#8 else 0#8)
    else 0#8 := by
  obtain ⟨b, faults, hfound, hb⟩ := s.lostFound_eq (g := g) (a := a)
  have hfoundbits : State.BitsKept 0x18#8 s (s.lostFound g a) := .noticed (by rw [hfound]) fun _ => hb
  rw [State.lostThrough, State.fpbUnitLost_bits p, State.discardEntries_bits, hfoundbits p, hfound]
  rfl

theorem State.lostThrough_fence : ((s.lostThrough g a).fences.get p).get g = match (s.fences.get p).get g with
    | .pending failed => if (s.discarded g a).marked g p then .pending ((s.goneSets g a Entry.marks).get p || failed)
        else if ((s.goneSets g a Entry.marks).get p || failed) then .incomplete else .settled
    | r => r := by
  obtain ⟨b, faults, hfound, -⟩ := s.lostFound_eq (g := g) (a := a)
  have hfences : (s.lostThrough g a).fences = ((s.lostFound g a).discardEntries g a).fences := by simp [State.lostThrough]
  have hsame : (s.lostFound g a).fences = s.fences := by rw [hfound]
  have hmarked : ((s.lostFound g a).discarded g a).marked g p = (s.discarded g a).marked g p := by rw [hfound]; rfl
  have hgone : (s.lostFound g a).goneSets g a Entry.marks = s.goneSets g a Entry.marks := by rw [hfound]; rfl
  rw [hfences]
  cases hr : (s.fences.get p).get g with
  | pending failed =>
    rw [State.discardEntries_pending (failed := failed) (by rw [hsame, hr]), hmarked, hgone]
  | none => rw [State.discardEntries_other (by rw [hsame, hr]; rfl), hsame, hr]
  | settled => rw [State.discardEntries_other (by rw [hsame, hr]; rfl), hsame, hr]
  | incomplete => rw [State.discardEntries_other (by rw [hsame, hr]; rfl), hsame, hr]

theorem State.lostThrough_hasFault : (s.lostThrough g a).hasFault .stationLost = true := by
  have hlost : (s.lostThrough g a).faults.getLsbD FaultFlag.stationLost.bit = true := by
    refine State.fpbUnitLost_keeps_fault ?_ g a
    have hset : (s.lostFound g a).faults.getLsbD FaultFlag.stationLost.bit = true := by
      change (State.setFault _ .stationLost).faults.getLsbD FaultFlag.stationLost.bit = true
      rw [State.setFault_faults, BitVec.getLsbD_or, FaultFlag.mask_bit, Bool.or_true]
    simpa using hset
  exact hlost

theorem State.fpbUnitLost_noticed : s.Noticed (s.fpbUnitLost g a) := by
  unfold State.fpbUnitLost
  split
  · exact State.Noticed.trans (u := s.modUnit g a fun x => { x with shortfall := 0 }) (.of_eq rfl rfl) (.fpbEvent _ _)
  · exact .of_eq rfl rfl

theorem State.lostThrough_port (p : PortId) : ((s.lostThrough g a).ports.get p).queue = (s.ports.get p).queue ∧
    ((s.lostThrough g a).ports.get p).replies = (s.ports.get p).replies := by
  obtain ⟨b, faults, hfound, -⟩ := s.lostFound_eq (g := g) (a := a)
  have hnoticed : s.Noticed (s.lostThrough g a) := by
    have hfirst : s.Noticed (s.lostFound g a) := ⟨by rw [hfound], _, by rw [hfound]⟩
    have hdiscarded : (s.lostFound g a).Noticed ((s.lostFound g a).discarded g a) := ⟨rfl,
      fun p => if ((s.lostFound g a).goneSets g a Entry.origins).get p then 0x08#8 else 0#8, rfl⟩
    have hcompleted : ((s.lostFound g a).discarded g a).Noticed ((s.lostFound g a).discardEntries g a) := by
      rw [State.discardEntries_eq]
      exact ⟨by simp, _, by rw [State.failMarks_completeFences_eq]⟩
    exact ((hfirst.trans hdiscarded).trans hcompleted).trans State.fpbUnitLost_noticed
  rw [hnoticed.get p]
  exact ⟨rfl, rfl⟩

theorem State.station?_addr {st : Station} (h : s.station? g a = some st) : st.addr = a := by
  have hfound := List.find?_some (p := fun st : Station => st.addr == a) h
  exact beq_iff_eq.1 hfound

/-- A failed attempt that brings the counter to 0 leaves the station with nothing. -/
theorem State.countBad_lostAt {st : Station} (hst : s.station? g a = some st) (hlow : 1 ≤ st.counter) (hhigh : st.counter ≤ 2) :
    s.LostAt g a (s.countBad g a) := by
  obtain ⟨hnow, hsettings, hfsc, hsettle, hbuffer, hover⟩ := s.lostThrough_fields (g := g) (a := a)
  have hleave := State.Remains.leaveReadThroughs (s := s.lostThrough g a) (g := g) fun e => e.station == a
  have hqueue := State.leaveReadThroughs_queue (s := s.lostThrough g a) (g := g) fun e => e.station == a
  rw [hfsc] at hqueue
  rw [State.countBad_lost hst hlow hhigh]
  exact {
    station := fun st hst => by
      rw [hleave.seen, State.lostThrough_station, hst]
      dsimp only [Option.map]
      rw [if_pos (State.station?_addr hst)]
      rfl
    fault := hleave.faults _ State.lostThrough_hasFault
    entries := fun e he => by
      have he : e ∈ (s.lostThrough g a).buffer.get g := by simpa using he
      rw [hbuffer] at he
      simpa using (List.mem_filter.1 he).2
    readThroughs := fun e he => by
      rw [hqueue] at he
      obtain ⟨he, hne⟩ := List.mem_filter.1 he
      exact ⟨he, by simpa using hne⟩
    answered := fun e t hea hone hhead => by
      obtain ⟨hq, hr⟩ := s.lostThrough_port (g := g) (a := a) e.port
      obtain ⟨hfq, hfr⟩ := Port.form_answers (body := (s.lostThrough g a).pointReply g e.station e.target e.address)
        (by rw [hq]; exact hhead)
      rw [State.leaveReadThroughs_one (by rw [hfsc]; exact hone) (by simp [hea]), hfq, hfr, hq, hr, hea,
        State.lostThrough_reply]
      exact ⟨rfl, rfl⟩
    posted := fun o => by
      rw [State.commands_congr (s := s.lostThrough g a) (by simp), State.commands, State.lostThrough_commands]
      cases s.commands? g a <;> cases o <;> rfl
    fences := fun p => by rw [hleave.fences, State.lostThrough_fence]
    bits := fun p => (hleave.bits p).trans State.lostThrough_bits
    overrides := fun r hr hseg hra => by
      have hr : r ∈ (s.lostThrough g a).overrides := by simpa using hr
      rw [hover] at hr
      obtain ⟨x, -, rfl⟩ := List.mem_map.1 hr
      split
      · rfl
      · next hx =>
        rw [if_neg hx] at hseg hra
        exact absurd ⟨hseg, hra⟩ hx }

end

end Sys2Proof.Machine
end

section
/-! What a failed attempt comes to (R21, R22, R93), call by call. -/

namespace Sys2Proof.Machine

section
variable {s u : State} {g : SegId} {a : Nat} {x : Transaction} {st : Station}

/-! ### A READ or a WRITE -/

/-- The call is a READ of the station or a WRITE to it. -/
def Transaction.Calls (x : Transaction) (a : Nat) : Prop := (∃ j, x.job = .read j ∧ j.station = a) ∨ x.job = .write a

theorem Transaction.Calls.not_poll (h : x.Calls a) : x.job ≠ .poll := by
  rcases h with ⟨j, hj, -⟩ | hw
  · rw [hj]; exact nofun
  · rw [hw]; exact nofun

/-- While the retries last, and the station answers, the same call follows at once. -/
theorem State.attemptFailed_again (hcalls : x.Calls a) (hst : s.station? g a = some st) (hretries : 0 < x.retries)
    (hcounter : 2 < st.counter) : s.attemptFailed g x = (s.countBad g a).retry g x := by
  obtain ⟨b, -, -, -, hanswers⟩ := State.countBad_counted hst hcounter
  unfold State.attemptFailed
  rcases hcalls with ⟨j, hj, rfl⟩ | hw
  · rw [hj]
    exact if_pos ⟨hretries, hanswers⟩
  · rw [hw]
    dsimp only
    rw [if_neg (by rw [hanswers]; exact Bool.false_ne_true), if_pos hretries]

/-- Past the last retry a READ ends. -/
theorem State.attemptFailed_readEnds {j : ReadJob} (hj : x.job = .read j) (hretries : x.retries = 0) :
    s.attemptFailed g x = ((s.countBad g j.station).setActivity g .free).endRead g j := by
  unfold State.attemptFailed
  rw [hj]
  exact if_neg fun h => by omega

/-- Past the last retry a WRITE's entry is back at the head. -/
theorem State.attemptFailed_writeReturns (hw : x.job = .write a) (hst : s.station? g a = some st) (hretries : x.retries = 0)
    (hcounter : 2 < st.counter) : s.attemptFailed g x = ((s.countBad g a).writeReturn g).setActivity g .free := by
  obtain ⟨b, -, -, -, hanswers⟩ := State.countBad_counted hst hcounter
  unfold State.attemptFailed
  rw [hw]
  dsimp only
  rw [if_neg (by rw [hanswers]; exact Bool.false_ne_true), if_neg (by omega)]

theorem State.LostAt.isLost (h : s.LostAt g a u) (hst : s.station? g a = some st) : u.isLost g a = true := by
  obtain ⟨st', hst', hseen⟩ := Option.map_eq_some_iff.1 (h.station st hst)
  have hzero : st'.counter = 0 := congrArg (fun x => x.counter) hseen
  rw [State.isLost_iff, State.link, hst']
  exact (Station.link_lost_iff _).2 hzero

/-- A counter that reaches 0 makes the station LOST, and the segment goes on. -/
theorem State.attemptFailed_lostAt (hcalls : x.Calls a) (hst : s.station? g a = some st) (hlow : 1 ≤ st.counter)
    (hhigh : st.counter ≤ 2) : s.LostAt g a ((s.attemptFailed g x).arbitrate g) := by
  have hlost := State.countBad_lostAt hst hlow hhigh
  have hisLost := hlost.isLost hst
  refine State.LostAt.remains ?_ hst State.Onward.arbitrate.remains
  unfold State.attemptFailed
  rcases hcalls with ⟨j, hj, rfl⟩ | hw
  · rw [hj]
    dsimp only
    rw [if_neg fun h => by rw [hisLost] at h; cases h.2]
    exact hlost.remains hst ((State.Remains.setActivity .free).trans (.endRead j))
  · rw [hw]
    dsimp only
    rw [if_pos hisLost]
    exact hlost.remains hst (.setActivity .free)

/-! ### A READ that ends -/

/-- The read-throughs that leave as a READ ends. -/
def ReadJob.leaving (j : ReadJob) (e : ReadThrough) : Bool := j.served e || j.purpose == .readThrough e.port

theorem ReadJob.leaving_iff (j : ReadJob) (e : ReadThrough) : j.leaving e = true ↔ j.purpose = .readThrough e.port ∨
    (j.serves.get e.port = true ∧ e.station = j.station ∧ j.first ≤ e.target.number ∧ e.target.number < j.next) := by
  simp only [ReadJob.leaving, ReadJob.served, Bool.or_eq_true, Bool.and_eq_true, beq_iff_eq, decide_eq_true_eq, and_assoc]
  exact or_comm

theorem State.endRead_onward (s : State) (j : ReadJob) : (s.leaveReadThroughs g j.leaving).Onward g (s.endRead g j) := by
  unfold State.endRead
  dsimp only
  split
  · exact State.Onward.dealtWith j.station
  · exact State.Onward.refl ..
  · exact State.Onward.refl ..

/-- The read-throughs that stay once a READ has ended, and the replies of those that have left. -/
theorem State.endRead_leaves {j : ReadJob} (h : (s.endRead g j).Onward g u) :
    (u.fsc.get g).readThroughs = (s.fsc.get g).readThroughs.filter (fun e => !j.leaving e) ∧
    ∀ e t, j.leaving e = true → (s.fsc.get g).readThroughs.filter (fun x => x.port == e.port) = [e] →
      (s.ports.get e.port).queue.head? = some t → (u.ports.get e.port).queue = (s.ports.get e.port).queue.tail ∧
        (u.ports.get e.port).replies = (s.ports.get e.port).replies ++
          [replyFrame t (s.pointReply g e.station e.target e.address) .none] := by
  have honward := (s.endRead_onward j).trans h
  have hqueue := State.leaveReadThroughs_queue (s := s) (g := g) j.leaving
  refine ⟨honward.readThroughs.trans hqueue, fun e t hleaves hone hhead => ?_⟩
  obtain ⟨kq, kr⟩ := honward.remains.ports e.port fun x hx hport => by
    rw [hqueue] at hx
    obtain ⟨hx, hstays⟩ := List.mem_filter.1 hx
    have hxe : x ∈ (s.fsc.get g).readThroughs.filter fun y => y.port == e.port := List.mem_filter.2 ⟨hx, beq_iff_eq.2 hport⟩
    rw [hone, List.mem_singleton] at hxe
    rw [hxe, hleaves] at hstays
    cases hstays
  obtain ⟨hq, hr⟩ := Port.form_answers (body := s.pointReply g e.station e.target e.address) hhead
  rw [kq, kr, State.leaveReadThroughs_one hone hleaves]
  exact ⟨hq, hr⟩

theorem State.point_modCounter (c b q : Nat) :
    (s.modStation g a fun st => { st with counter := c }).point g b q = s.point g b q := by
  have hstation : (s.modStation g a fun st => { st with counter := c }).station? g b =
      (s.station? g b).map fun x => if x.addr = a then { x with counter := c } else x := by
    unfold State.station?
    refine (congrArg (List.find? _) (PerSeg.get_modify_self ..)).trans ?_
    rw [List.find?_map]
    congr 1
    exact congrArg (fun P => (s.image.get g).find? P) (funext fun x => by dsimp only [Function.comp]; split <;> rfl)
  unfold State.point
  rw [hstation]
  cases s.station? g b with
  | none => rfl
  | some x => dsimp only [Option.map]; split <;> rfl

/-- A counter that changes leaves what read-throughs are answered with. -/
theorem State.countBad_reply (hst : s.station? g a = some st) (hcounter : 2 < st.counter) (b : Nat) (t : Target) (d : Nat) :
    ((s.countBad g a).setActivity g .free).pointReply g b t d = s.pointReply g b t d := by
  have hpoint := s.point_modCounter (g := g) (a := a) (s.counter g a - 2) b
  rw [State.countBad_answers hst hcounter, State.notifyIf_eq]
  refine State.pointReply_congr ?_ ?_ ?_ ?_ ?_ ?_ t d
  · rfl
  · exact hpoint
  · rfl
  · rfl
  · rfl
  · exact fun _ => rfl

end

end Sys2Proof.Machine
end

section
/-! The end of a call's window (R20 to R22, R44). -/

namespace Sys2Proof.Machine

section
variable {s : State} {g : SegId} {a : Nat} {x : Transaction} {st : Station}

/-- A call that is on keeps the choice of the next one waiting. -/
theorem State.arbitrate_calling (h : (s.fsc.get g).activity = .busy x) : s.arbitrate g = s :=
  State.arbitrate_held fun _ hfree => by rw [h] at hfree; cases hfree

theorem State.kickPorts_activity (s : State) (g : SegId) : (s.kickPorts.fsc.get g).activity = (s.fsc.get g).activity := by
  rw [State.kickPorts_eq]

/-- The same call follows at once, its counter put down and nothing else changed. -/
theorem State.windowEnds_again (hcalls : x.Calls a) (hbusy : (s.fsc.get g).activity = .busy x) (hst : s.station? g a = some st)
    (hretries : 0 < x.retries) (hcounter : 2 < st.counter) :
    ∃ u : State, exec (.responseWindowExpiry g) s = .next u ∧ (u.fsc.get g).activity =
      .busy { job := x.job, retries := x.retries - 1, ends := max s.now x.ends + 4 } ∧
      u.station? g a = some { st with counter := st.counter - 2 } ∧ u.buffer = s.buffer := by
  have hst0 : (s.advanceTo x.ends).station? g a = some st := hst
  obtain ⟨b, hcounted, -, hstation, -⟩ := State.countBad_counted hst0 hcounter
  have hnow : ((s.advanceTo x.ends).countBad g a).now = max s.now x.ends := by rw [hcounted]; rfl
  have hbuffer : ((s.advanceTo x.ends).countBad g a).buffer = s.buffer := by rw [hcounted]; rfl
  have hagain : ((((s.advanceTo x.ends).countBad g a).retry g x).fsc.get g).activity =
      .busy { job := x.job, retries := x.retries - 1, ends := max s.now x.ends + 4 } := by
    rw [State.retry, State.startJob, State.setActivity_activity, hnow]
    rfl
  refine ⟨_, exec_windowExpiry_busy hbusy hcalls.not_poll, ?_⟩
  rw [State.attemptFailed_again hcalls hst0 hretries hcounter, State.arbitrate_calling hagain, State.kickPorts_activity,
    State.station?_kickPorts]
  refine ⟨hagain, hstation, ?_⟩
  rw [State.kickPorts_eq]
  exact hbuffer

/-- A WRITE's window that ends past its last retry. -/
theorem State.writeReturns_eq (hst : s.station? g a = some st) (hcounter : 2 < st.counter) :
    ∃ ports, ((s.countBad g a).writeReturn g).setActivity g .free = { s with
      image := s.image.modify g fun sts => sts.map fun x => if x.addr = a then { x with counter := st.counter - 2 } else x
      ports := ports, buffer := s.buffer.modify g bufferReturned
      fsc := s.fsc.modify g fun f => { f with activity := .free } } := by
  obtain ⟨b, hcounted, -⟩ := State.countBad_counted hst hcounter
  refine ⟨s.noticed fun _ => b, ?_⟩
  rw [State.writeReturn_eq, hcounted]
  rfl

theorem State.windowEnds_abandoned {e : Nat} {rest : List Nat} (hquiet : (s.fsc.get g).activity = .quiet e) (hpopulation : s.settings.population g = a :: rest) (hpos : 0 < a) :
    ∃ u : State, exec (.responseWindowExpiry g) s = .next u ∧ u.callOnSegment g = some (.identify a) ∧ u.now = max s.now e ∧
      u.image = s.image := by
  have hexec : exec (.responseWindowExpiry g) s =
      .next (((((s.advanceTo e).setActivity g .free).beginDiscovery g).arbitrate g).kickPorts) := by
    change Host.Outcome.next (s.windowExpired g) = _
    rw [State.windowExpired, hquiet]
  have hfirst : (((s.advanceTo e).setActivity g .free).settings.population g).find? (fun b => decide (0 < b)) = some a := by
    change (s.settings.population g).find? _ = _
    rw [hpopulation]
    exact List.find?_cons_of_pos (by simpa using hpos)
  have hcall : (((s.advanceTo e).setActivity g .free).identify g a).fsc.get g = _ := PerSeg.get_modify_self ..
  have hbusy := congrArg Fsc.activity hcall
  refine ⟨_, hexec, ?_⟩
  rw [State.beginDiscovery, State.discoverFrom_some hfirst, State.arbitrate_calling hbusy, State.kickPorts_eq]
  refine ⟨?_, rfl, rfl⟩
  unfold State.callOnSegment
  dsimp only
  rw [hbusy]
  rfl

/-- The probe's station is dealt with, and stands as it did. -/
theorem State.endProbe_some {b : Nat} (h : (s.settings.population g).find? (fun b => decide (a < b)) = some b) :
    s.endProbe g a = { s with fsc := s.fsc.modify g fun f => { f with activity := .free, scanPosition := b } } := by
  rw [State.endProbe, State.dealtWith_some (by exact h)]
  exact s.modFsc_modFsc g _ _

theorem State.endProbe_none (h : (s.settings.population g).find? (fun b => decide (a < b)) = none) :
    s.endProbe g a = State.endPass { s with
      fsc := s.fsc.modify g fun f => { f with activity := .free, scanPosition := 13 } } g := by
  rw [State.endProbe, State.dealtWith_none (by exact h)]
  exact congrArg (State.endPass · g) (s.modFsc_modFsc g _ _)

/-- Characters that are no answer to a call count as its window's end at once. -/
theorem exec_responseTaken_failed {chars : List Byte} (hbusy : (s.fsc.get g).activity = .busy x) (hjob : x.job ≠ .poll)
    (hchars : chars ≠ []) (hanswer : s.answer g x chars = s.attemptFailed g x) :
    exec (.responseTaken g chars) s =
      exec (.responseWindowExpiry g) (s.setActivity g (.busy { x with ends := s.now })) := by
  have hnow : (s.setActivity g (.busy { x with ends := s.now })).advanceTo s.now =
      s.setActivity g (.busy { x with ends := s.now }) :=
    congrArg (fun now => { s.setActivity g (.busy { x with ends := s.now }) with now := now }) (max_self s.now)
  rw [exec_responseTaken hbusy hjob hchars, hanswer, exec_windowExpiry_busy
    (x := { x with ends := s.now }) (State.setActivity_activity ..) hjob, hnow,
    State.attemptFailed_window s.now hjob]

/-- What a station holds no more once it is LOST, in the terms of the fences and the ports' bits. -/
theorem State.LostAt.told {u : State} (h : s.LostAt g a u) (p : PortId) :
    let gone := fun (set : Entry → PortSet) p => ∃ e ∈ s.buffer.get g, e.station = a ∧ (set e).get p = true
    let bears := fun p => (∃ e ∈ s.buffer.get g, e.station ≠ a ∧ e.marks.get p = true) ∨
      ∃ i ∈ s.settle.get g, i.marks.get p = true
    (u.fences.get p).get g = (match (s.fences.get p).get g with
      | .pending failed =>
        if bears p then .pending (if gone Entry.marks p then true else failed)
        else if gone Entry.marks p ∨ failed = true then .incomplete else .settled
      | r => r) ∧
    (u.ports.get p).notices &&& 0x18#8 = ((s.ports.get p).notices &&& 0x18#8) |||
      if (s.settings.port.get p).notices = true then
        (if gone Entry.origins p then 0x08#8 else 0#8) |||
          (if ((s.fences.get p).get g).isPending = true ∧ ¬bears p then 0x10#8 else 0#8)
      else 0#8 := by
  intro gone bears
  have hgone : ∀ set p, (s.goneSets g a set).get p = decide (gone set p) := fun set p => by
    rw [Bool.eq_iff_iff, decide_eq_true_eq]
    exact State.goneSets_get set
  have hbears : (s.discarded g a).marked g p = decide (bears p) := by
    rw [Bool.eq_iff_iff, decide_eq_true_eq]
    exact State.discarded_marked
  have hfence := h.fences p
  have hbits := h.bits p
  simp only [hgone, hbears, decide_eq_true_eq, decide_eq_false_iff_not] at hfence hbits
  refine ⟨hfence.trans ?_, hbits⟩
  cases (s.fences.get p).get g with
  | pending failed =>
    by_cases hm : gone Entry.marks p <;> simp [hm]
  | none => rfl
  | settled => rfl
  | incomplete => rfl

/-- A READ's window that ends past its last retry: the read-throughs that leave, and what stays. -/
theorem State.windowEnds_read {j : ReadJob} (hj : x.job = .read j) (ha : j.station = a) (hst : s.station? g a = some st)
    (hretries : x.retries = 0) (hcounter : 2 < st.counter) :
    let u := (s.attemptFailed g x).arbitrate g
    (u.fsc.get g).readThroughs = (s.fsc.get g).readThroughs.filter (fun e => !j.leaving e) ∧
    (∀ e t, j.leaving e = true → (s.fsc.get g).readThroughs.filter (fun x => x.port == e.port) = [e] →
      (s.ports.get e.port).queue.head? = some t → (u.ports.get e.port).queue = (s.ports.get e.port).queue.tail ∧
        (u.ports.get e.port).replies = (s.ports.get e.port).replies ++
          [replyFrame t (s.pointReply g e.station e.target e.address) .none]) ∧
    (u.station? g a).map Station.seen = some { st with points := [], counter := st.counter - 2 } ∧ u.settle = s.settle := by
  intro u
  obtain ⟨b, hcounted, -, hstation, -⟩ := State.countBad_counted hst hcounter
  have hends : u = ((((s.countBad g j.station).setActivity g .free).endRead g j).arbitrate g) :=
    congrArg (State.arbitrate · g) (State.attemptFailed_readEnds hj hretries)
  obtain ⟨hqueue, hanswered⟩ := State.endRead_leaves (g := g) (s := (s.countBad g a).setActivity g .free) (j := j)
    State.Onward.arbitrate
  have hremains := ((State.Remains.setActivity (s := s.countBad g a) (g := g) .free).trans (.endRead j)).trans State.Onward.arbitrate.remains
  have hbefore : (((s.countBad g a).setActivity g .free).fsc.get g).readThroughs = (s.fsc.get g).readThroughs := by
    rw [show ((s.countBad g a).setActivity g .free).fsc.get g = _ from PerSeg.get_modify_self .., hcounted]
  have hport : ∀ p, (((s.countBad g a).setActivity g .free).ports.get p).queue = (s.ports.get p).queue ∧
      (((s.countBad g a).setActivity g .free).ports.get p).replies = (s.ports.get p).replies := fun p => by
    rw [hcounted]
    change ((s.noticed fun _ => b).get p).queue = _ ∧ ((s.noticed fun _ => b).get p).replies = _
    rw [State.noticed_get]
    split <;> exact ⟨rfl, rfl⟩
  rw [hbefore] at hqueue hanswered
  rw [hends, ha]
  refine ⟨hqueue, fun e t hleaves hone hhead => ?_, ?_, ?_⟩
  · obtain ⟨hq, hr⟩ := hport e.port
    obtain ⟨kq, kr⟩ := hanswered e t hleaves hone (by rw [hq]; exact hhead)
    rw [kq, kr, hq, hr, State.countBad_reply hst hcounter]
    exact ⟨rfl, rfl⟩
  · rw [hremains.seen, hstation]
    rfl
  · rw [hremains.settle, hcounted]

end

/-- Settles O50, call by call: the call follows again, a station enters LOST (`State.LostAt`), or the call ends. -/
theorem responseWindowEnds : Obligations.ResponseWindowEnds := by
  intro s g
  refine ⟨fun x st a hbusy hst => ?_, fun x chars hbusy hchars hfails => ?_, fun e a rest _ hquiet hpopulation hpos =>
    State.windowEnds_abandoned hquiet hpopulation hpos⟩
  · intro next run now again alone answered
    have hst0 : (s.advanceTo x.ends).station? g a = some st := hst
    have hexec : x.job ≠ .poll → run = _ := exec_windowExpiry_busy hbusy
    refine ⟨fun hcalls => ⟨fun hretries hcounter => State.windowEnds_again hcalls hbusy hst hretries hcounter,
      fun hlow hhigh => ?_⟩, ?_, ?_, ?_, ?_⟩
    · have hlost := State.attemptFailed_lostAt hcalls hst0 hlow hhigh
      obtain ⟨st', hst', hseen⟩ := Option.map_eq_some_iff.1 (hlost.station st hst)
      exact ⟨_, st', hexec (Transaction.Calls.not_poll hcalls), hst', congrArg (fun x => x.counter) hseen,
        congrArg (fun x => x.attention) hseen, hlost.fault, hlost.entries, fun e he => (hlost.readThroughs e he).2,
        hlost.answered, hlost.posted, hlost.told, hlost.overrides⟩
    · rintro j hj rfl hretries hcounter
      obtain ⟨hqueue, hanswered, hseen, hsettle⟩ := State.windowEnds_read (s := s.advanceTo x.ends) (g := g) (x := x) hj rfl
        hst0 hretries hcounter
      obtain ⟨st', hst', hsame⟩ := Option.map_eq_some_iff.1 hseen
      refine ⟨_, st', hexec (by rw [hj]; exact nofun), hst', congrArg (fun x => x.counter) hsame,
        congrArg (fun x => x.mode) hsame, congrArg (fun x => x.attention) hsame, hsettle, fun e => ?_, fun e t hleaves => ?_⟩
      · rw [hqueue, List.mem_filter, Bool.not_eq_true', ← Bool.not_eq_true, ReadJob.leaving_iff]
        rfl
      · exact hanswered e t ((j.leaving_iff e).2 hleaves)
    · rintro e es sent hw hretries hcounter hbuffer hea hsent
      have hends := State.attemptFailed_writeReturns hw hst0 hretries hcounter
      obtain ⟨ports, hreturns⟩ := State.writeReturns_eq hst0 hcounter
      have hreturned : (s.buffer.modify g bufferReturned).get g = bufferReturned (e :: es) := by
        rw [PerSeg.get_modify_self, hbuffer]
      have hstation : (State.modStation (s.advanceTo x.ends) g a fun y => { y with counter := st.counter - 2 }).station? g a =
          some { st with counter := st.counter - 2 } := by rw [State.station?_modStation, hst0]; rfl
      have hrun := hexec (by rw [hw]; exact nofun)
      rw [hends, hreturns] at hrun
      refine ⟨_, hrun, congrArg Fsc.activity (PerSeg.get_modify_self ..),
        rfl, hstation, rfl, rfl, fun halone => ?_, fun before after n hes hbefore hn hopen => ?_⟩
      · exact hreturned.trans (bufferReturned_alone hsent (by rw [hea]; exact halone))
      · refine hreturned.trans ?_
        rw [hes, bufferReturned_combined hsent (by rw [hea]; exact hbefore) (by rw [hn, hea]) hopen, Fields.over_eq, hea]
    · rintro hx
      refine ⟨fun hretries => ?_, fun hretries => ?_⟩
      · have hagain : (s.advanceTo x.ends).attemptFailed g x = (s.advanceTo x.ends).setActivity g again := by
          unfold State.attemptFailed
          rw [hx]
          exact if_pos hretries
        rw [hexec (by rw [hx]; exact nofun), hagain, State.arbitrate_calling (State.setActivity_activity ..)]
        rfl
      · have hconcludes : (s.advanceTo x.ends).attemptFailed g x = (s.advanceTo x.ends).conclude g a false := by
          unfold State.attemptFailed
          rw [hx]
          exact if_neg (by omega)
        have hseen := (State.Onward.arbitrate.pass.seen a).trans (State.conclude_seen false hst0)
        obtain ⟨st', hst', hsame⟩ := Option.map_eq_some_iff.1 hseen
        have hstation := (State.station?_kickPorts (((s.advanceTo x.ends).conclude g a false).arbitrate g) g a).trans hst'
        refine ⟨_, st', (hexec (by rw [hx]; exact nofun)).trans (by rw [hconcludes]), hstation, congrArg (fun x => x.counter) hsame,
          congrArg (fun x => x.attention) hsame, congrArg (fun x => x.mode) hsame, ?_, fun b hb => ?_, fun hnone => ?_⟩
        · rw [State.kickPorts_eq]
          exact State.Onward.arbitrate.hasFault (State.conclude_hasFault false (.inr ⟨rfl, rfl⟩))
        · have hcall := State.conclude_next (s := s.advanceTo x.ends) (g := g) false hb
          rw [State.arbitrate_calling hcall, State.kickPorts_activity]
          exact hcall
        · obtain ⟨hnumber, hdue⟩ := State.conclude_first (s := s.advanceTo x.ends) (g := g) false hnone
          rw [State.kickPorts_eq]
          obtain ⟨hkept, -⟩ := State.Onward.arbitrate.stays hdue
          exact hkept.trans hnumber
    · rintro hx passed
      have hprobe : (s.advanceTo x.ends).attemptFailed g x = (s.advanceTo x.ends).endProbe g a := by
        unfold State.attemptFailed
        rw [hx]
      rw [hexec (by rw [hx]; exact nofun), hprobe]
      exact ⟨fun b hb => by rw [State.endProbe_some (s := s.advanceTo x.ends) hb]; rfl, fun hnone => by
        rw [State.endProbe_none (s := s.advanceTo x.ends) hnone]; rfl⟩
  · refine exec_responseTaken_failed hbusy (fun hpoll => ?_) hchars (State.answer_failed hfails)
    rw [hpoll] at hfails
    exact hfails

end Sys2Proof.Machine
end

section
/-! The values a READ delivers (R3, R4): the range each is brought into, and the points of the station once they are stored. -/

namespace Sys2Proof.Machine

/-- R3's table: each value delivered is brought into the range of its point. -/
theorem bringInto_table (v : Int) :
    (∀ q ∈ [0, 1], ∀ k, bringInto k q v = max (-600) (min 800 v)) ∧
    (∀ x ∈ [(StationKind.unit, 2), (.unit, 4), (.loop, 4), (.loop, 5), (.ambient, 2)],
      bringInto x.1 x.2 v = max 0 (min 1000 v)) ∧
    bringInto .loop 3 v = max 0 (min 600 v) ∧ bringInto .unit 5 v = max 0 (min 8 v) ∧
    (∀ x ∈ [(StationKind.loop, 2), (.ambient, 3), (.ambient, 4)],
      bringInto x.1 x.2 v = if 0 ≤ v ∧ v ≤ 32767 then v else 0) ∧
    bringInto .unit 3 v = (if v = 0 ∨ v = 1 ∨ v = 2 then v else 3) ∧
    bringInto .ambient 5 v = (if v = 0 then 0 else 1) ∧
    ∀ k, bringInto k 6 v = (if v = 0 then 0 else 1) ∧ 0 ≤ bringInto k 7 v ∧ bringInto k 7 v < 8 ∧
      8 ∣ v - bringInto k 7 v := by
  have hclamp : ∀ hi : Int, 0 ≤ hi → clamp 0 hi v = max 0 (min hi v) := fun hi h => clamp_eq_max_min h v
  have htemperature : clamp (-600) 800 v = max (-600) (min 800 v) := clamp_eq_max_min (by decide) v
  refine ⟨?_, ?_, hclamp 600 (by decide), hclamp 8 (by decide), ?_, ?_, rfl, fun k => ?_⟩
  · simp only [List.mem_cons, List.not_mem_nil, or_false]
    rintro q (rfl | rfl) k <;> cases k <;> exact htemperature
  · simp only [List.mem_cons, List.not_mem_nil, or_false]
    rintro x (rfl | rfl | rfl | rfl | rfl) <;> exact hclamp 1000 (by decide)
  · simp only [List.mem_cons, List.not_mem_nil, or_false]
    rintro x (rfl | rfl | rfl) <;> rfl
  · simp only [bringInto]
    split <;> split <;> omega
  · have hflags : bringInto k 7 v = v % 8 := by cases k <;> rfl
    have hmode : bringInto k 6 v = if v = 0 then 0 else 1 := by cases k <;> rfl
    rw [hflags]
    exact ⟨hmode, by omega, by omega, by omega⟩

/-- A station's points once a READ's values are stored. -/
theorem Station.takeFrom_point (stamp : Word) (vs : List Int) {q : Nat} (n : Nat) (st : Station) (hq : q < st.points.length) :
    (Station.takeFrom stamp n vs st).point q = if n ≤ q ∧ q < n + vs.length then
      (st.point q).take st.kind q stamp (vs.getD (q - n) 0) else st.point q := by
  induction vs generalizing n st with
  | nil => exact (if_neg (by simp)).symm
  | cons v vs ih =>
    have hlength : q < (st.points.set n ((st.point n).take st.kind n stamp v)).length := by rwa [List.length_set]
    have hset : ∀ x, ({ st with points := st.points.set n x } : Station).point q = if n = q then x else st.point q := fun x => by
      simp only [Station.point, List.getD_eq_getElem?_getD, List.getElem?_set]
      split
      · next h => rw [if_pos (h ▸ hq)]; rfl
      · rfl
    rw [Station.takeFrom, ih (n + 1) _ hlength, hset]
    rcases lt_trichotomy n q with h | rfl | h
    · rw [if_neg (Nat.ne_of_lt h), show q - n = q - (n + 1) + 1 by omega, List.getD_cons_succ]
      refine if_congr ?_ rfl rfl
      rw [List.length_cons]
      omega
    · rw [if_neg (by omega), if_pos rfl, if_pos (by simp), Nat.sub_self, List.getD_cons_zero]
    · rw [if_neg (by omega), if_neg (by omega), if_neg (by omega)]

/-- The points delivered with a value. -/
theorem mem_valuedFrom {q : Nat} (vs : List Int) (n : Nat) :
    q ∈ valuedFrom n vs ↔ (n ≤ q ∧ q < n + vs.length) ∧ vs.getD (q - n) 0 ≠ -32768 := by
  induction vs generalizing n with
  | nil => simp [valuedFrom]
  | cons v vs ih =>
    have hmem : q ∈ valuedFrom n (v :: vs) ↔ (q = n ∧ v ≠ -32768) ∨ q ∈ valuedFrom (n + 1) vs := by
      rw [valuedFrom]
      by_cases hv : v = Config.noReading
      · rw [if_pos hv]
        simp [show v = -32768 from hv]
      · rw [if_neg hv, List.mem_cons]
        simp [show ¬v = -32768 from hv]
    rw [hmem, ih, List.length_cons]
    rcases lt_trichotomy n q with h | rfl | h
    · rw [show q - n = q - (n + 1) + 1 by omega, List.getD_cons_succ]
      constructor
      · rintro (⟨rfl, -⟩ | ⟨⟨h1, h2⟩, hv⟩)
        · omega
        · exact ⟨⟨by omega, by omega⟩, hv⟩
      · exact fun ⟨⟨h1, h2⟩, hv⟩ => .inr ⟨⟨by omega, by omega⟩, hv⟩
    · rw [Nat.sub_self, List.getD_cons_zero]
      constructor
      · rintro (⟨-, hv⟩ | ⟨⟨h1, h2⟩, hv⟩)
        · exact ⟨⟨by omega, by omega⟩, hv⟩
        · omega
      · exact fun ⟨_, hv⟩ => .inl ⟨rfl, hv⟩
    · exact ⟨fun hdelivered => by omega, fun hdelivered => by omega⟩

end Sys2Proof.Machine
end

section
/-! A READ's answer up to the station's mode (R3, R8, R14, R16): what it leaves before any reader of the points has seen them. -/

namespace Sys2Proof.Machine

section
variable {s : State} {g : SegId} {a : Nat} {st : Station} {j : ReadJob} {vs : List Int} {p : PortId} {m : Mode}

/-! ### The mode (R14) -/

theorem State.setMode_other {k : SegId} {b : Nat} (h : ¬(k = g ∧ b = a)) : (s.setMode g a m).station? k b = s.station? k b := by
  have hset : ∀ u : State, u.image = (s.modStation g a fun st => { st with mode := m }).image → u.station? k b = s.station? k b := by
    intro u hu
    refine (State.station?_congr (s := s.modStation g a fun st => { st with mode := m }) (by rw [hu]) b).trans ?_
    by_cases hk : k = g
    · subst hk
      exact State.station?_modStation_other s k fun hb => h ⟨rfl, hb⟩
    · exact State.station?_congr (PerSeg.get_modify_other _ _ hk) b
  unfold State.setMode
  split
  · split
    · rfl
    · split
      · exact hset _ (by simp)
      · exact hset _ (by simp)
  · rfl

theorem State.setMode_noticed : s.Noticed (s.setMode g a m) := by
  have hnotified : s.Noticed ((s.modStation g a fun st => { st with mode := m }).notifyAll .station) :=
    State.Noticed.trans (u := s.modStation g a fun st => { st with mode := m }) (.of_eq rfl rfl) (.notifyAll _ _)
  unfold State.setMode
  split
  · split
    · exact .of_eq rfl rfl
    · split
      · exact hnotified.trans (.of_eq (by simp) (by simp))
      · exact hnotified
  · exact .of_eq rfl rfl

theorem State.setMode_bits : State.BitsKept 0x10#8 s (s.setMode g a m) := by
  have hnotified : State.BitsKept 0x10#8 s ((s.modStation g a fun st => { st with mode := m }).notifyAll .station) :=
    .noticed (bits := fun _ => 0x02#8) (by rw [State.notifyAll_eq]; rfl) fun _ => by decide
  unfold State.setMode
  split
  · split
    · exact .of_eq rfl
    · split
      · exact hnotified.trans (.of_eq (by simp))
      · exact hnotified
  · exact .of_eq rfl

theorem State.setMode_same (hst : s.station? g a = some st) (h : st.mode = m) : s.setMode g a m = s := by
  rw [State.setMode, hst]
  exact if_pos h

theorem State.setMode_changes (hst : s.station? g a = some st) (h : st.mode ≠ m) : s.setMode g a m =
    if m = .inLocal then
      ((((s.modStation g a fun st => { st with mode := m }).notifyAll .station).modCommands g a StationCommands.forgetAll).overridesWait
        g a)
    else (s.modStation g a fun st => { st with mode := m }).notifyAll .station := by
  rw [State.setMode, hst]
  exact if_neg h

/-- A change of the mode is told to every port. -/
theorem State.setMode_tells (hst : s.station? g a = some st) (h : st.mode ≠ m) (henabled : (s.settings.port.get p).notices = true) :
    ((s.setMode g a m).ports.get p).notices &&& 0x02#8 = 0x02#8 := by
  have hnotified : (((s.modStation g a fun st => { st with mode := m }).notifyAll .station).ports.get p).notices &&& 0x02#8 =
      0x02#8 := by
    rw [State.notifyAll_eq]
    dsimp only
    rw [State.noticed_get, if_pos (by exact henabled)]
    exact and_eq_of_or (.inr rfl)
  rw [State.setMode_changes hst h]
  split
  · simpa using hnotified
  · exact hnotified

theorem State.forgotten_commands (u : State) : ((u.modCommands g a StationCommands.forgetAll).overridesWait g a).commands? g a =
    (u.commands? g a).map StationCommands.forgetAll := State.modCommands_commands? fun _ => rfl

/-- A station that enters LOCAL has its last posted values unknown and its overrides WAITING. -/
theorem State.setMode_local (hst : s.station? g a = some st) (h : st.mode ≠ .inLocal) :
    (∀ c, (s.setMode g a .inLocal).commands? g a = some c → c.unposted) ∧
      ∀ r ∈ (s.setMode g a .inLocal).overrides, r.seg = g → r.station = a → r.delivery = .waiting := by
  rw [State.setMode_changes hst h, if_pos rfl]
  refine ⟨fun c hc => ?_, fun r hr hseg hra => ?_⟩
  · rw [State.forgotten_commands] at hc
    obtain ⟨x, -, rfl⟩ := Option.map_eq_some_iff.1 hc
    exact x.forgetAll_unposted
  · obtain ⟨x, -, rfl⟩ := List.mem_map.1 hr
    split
    · rfl
    · next hx =>
      rw [if_neg hx] at hseg hra
      exact absurd ⟨hseg, hra⟩ hx

theorem State.setMode_written : ((s.setMode g a m).commands g a).fan.written = (s.commands g a).fan.written := by
  have hset : ((s.modStation g a fun st => { st with mode := m }).notifyAll .station).commands g a = s.commands g a :=
    State.commands_congr (by simp)
  unfold State.setMode
  split
  · split
    · rfl
    · split
      · rw [← hset, State.commands, State.commands, State.forgotten_commands]
        cases State.commands? _ g a <;> rfl
      · rw [hset]
  · rfl

/-! ### The answer heard -/

/-- The part with the points of a READ's answer stored, before their readers have seen them. -/
def State.heard (s : State) (g : SegId) (j : ReadJob) (vs : List Int) : State :=
  (((s.modStation g j.station (Station.takeFrom (s.fsc.get g).passNumber j.next vs)).countGood g j.station).clearAttention g
    j).modeFromPoint g j.station (valuedFrom j.next vs)

/-- The part as the mode finds it. -/
def State.counted (s : State) (g : SegId) (j : ReadJob) (vs : List Int) : State :=
  ((s.modStation g j.station (Station.takeFrom (s.fsc.get g).passNumber j.next vs)).countGood g j.station).clearAttention g j

theorem State.heard_eq : s.heard g j vs = (s.counted g j vs).modeFromPoint g j.station (valuedFrom j.next vs) := rfl

theorem State.clearAttention_station {b : Nat} (h : b = j.station) : (s.clearAttention g j).station? g b = (s.station? g b).map
    fun st => { st with attention := st.attention && !(j.next == 0) } := by
  subst h
  unfold State.clearAttention
  split
  · next hnext =>
    rw [State.station?_modStation]
    simp [hnext]
  · next hnext =>
    have hsame : (fun st : Station => { st with attention := st.attention && !(j.next == 0) }) = id := by
      funext st
      rw [beq_false_of_ne hnext, Bool.not_false, Bool.and_true]
      rfl
    rw [hsame, Option.map_id]
    rfl

/-- The station once its points are stored and its answer counted. -/
def Station.counted (st : Station) (pass : Word) (j : ReadJob) (vs : List Int) : Station :=
  { Station.takeFrom pass j.next vs st with
    counter := min 15 (st.counter + 1), attention := st.attention && !(j.next == 0) }

theorem State.counted_station (hst : s.station? g j.station = some st) :
    (s.counted g j vs).station? g j.station = some (st.counted (s.fsc.get g).passNumber j vs) := by
  have haddr : ∀ x : Station, (Station.takeFrom (s.fsc.get g).passNumber j.next vs x).addr = x.addr := fun x => by
    rw [(Station.takeFrom_only _ vs j.next x).1]
  rw [State.counted, State.clearAttention_station rfl, State.countGood_station, State.station?_modStation s g _ haddr, hst]
  simp only [Option.map_some, Station.counted]
  rw [(Station.takeFrom_only _ vs j.next st).1]

theorem State.counted_kept : (s.counted g j vs).now = s.now ∧ (s.counted g j vs).settings = s.settings ∧
    (s.counted g j vs).fsc = s.fsc ∧ (s.counted g j vs).ta = s.ta ∧ (s.counted g j vs).fpb = s.fpb ∧
    (s.counted g j vs).buffer = s.buffer ∧ (s.counted g j vs).settle = s.settle ∧ (s.counted g j vs).fences = s.fences ∧
    (s.counted g j vs).alloc = s.alloc := by
  unfold State.counted State.clearAttention
  rw [State.countGood_eq, State.notifyIf_eq]
  split <;> exact ⟨rfl, rfl, rfl, rfl, rfl, rfl, rfl, rfl, rfl⟩

end

end Sys2Proof.Machine
end

section
/-! What a READ's answer leaves before its readers have seen the points: the station, the mode's notices and outputs. -/

namespace Sys2Proof.Machine

/-- The mode that a READ's point 6 gives, if it was delivered with a value (R14). -/
def ReadJob.modeRead (j : ReadJob) (ds : List Int) (m : Mode) : Mode :=
  if 6 ∈ valuedFrom j.next ds then if ds.getD (6 - j.next) 0 = 0 then .auto else .inLocal else m

/-- The station's record once a READ's answer has been taken. -/
def Station.read (st : Station) (pass : Word) (j : ReadJob) (accept : Bool) (ds : List Int) : Station :=
  { Station.takeFrom pass j.next ds st with
    counter := min 15 (st.counter + 1)
    attention := st.attention && !(accept && j.next == 0)
    mode := j.modeRead ds st.mode }

section
variable {s : State} {g : SegId} {a : Nat} {st : Station} {j : ReadJob} {vs : List Int} {p : PortId} {pass : Word}

theorem Station.counted_eq : st.counted pass j vs = { st with
    points := (Station.takeFrom pass j.next vs st).points
    counter := min 15 (st.counter + 1), attention := st.attention && !(j.next == 0) } := by
  unfold Station.counted
  rw [(Station.takeFrom_only pass vs j.next st).1]

theorem Station.read_eq (accept : Bool) : st.read pass j accept vs = { st with
    points := (Station.takeFrom pass j.next vs st).points
    counter := min 15 (st.counter + 1), attention := st.attention && !(accept && j.next == 0)
    mode := j.modeRead vs st.mode } := by
  unfold Station.read
  rw [(Station.takeFrom_only pass vs j.next st).1]

/-- The value stored of a point that was delivered with one. -/
theorem Station.takeFrom_valued {q : Nat} (hq : q ∈ valuedFrom j.next vs) (hlength : q < st.points.length) :
    (Station.takeFrom pass j.next vs st).point q =
      { stored := some { value := bringInto st.kind q (vs.getD (q - j.next) 0), stamp := pass }, quality := .good } := by
  obtain ⟨hcame, hvalue⟩ := (mem_valuedFrom vs j.next).1 hq
  rw [Station.takeFrom_point _ _ _ _ hlength, if_pos hcame]
  exact if_neg hvalue

theorem State.storedValue_eq {q : Nat} (hst : s.station? g a = some st) :
    s.storedValue g a q = ((st.point q).stored.map Stored.value).getD 0 := by
  rw [State.storedValue, State.point, hst]
  dsimp only
  cases (st.point q).stored <;> rfl

theorem State.clearAttention_other {k : SegId} {b : Nat} (h : ¬(k = g ∧ b = j.station)) :
    (s.clearAttention g j).station? k b = s.station? k b := by
  unfold State.clearAttention
  split
  · by_cases hk : k = g
    · subst hk
      exact State.station?_modStation_other s k fun hb => h ⟨rfl, hb⟩
    · exact State.station?_congr (PerSeg.get_modify_other _ _ hk) b
  · rfl

theorem State.modStation_elsewhere {f : Station → Station} {k : SegId} {b : Nat} (h : ¬(k = g ∧ b = a))
    (hf : ∀ st, (f st).addr = st.addr := by exact fun _ => rfl) : (s.modStation g a f).station? k b = s.station? k b := by
  by_cases hk : k = g
  · subst hk
    exact State.station?_modStation_other s k (fun hb => h ⟨rfl, hb⟩) hf
  · exact State.station?_congr (PerSeg.get_modify_other _ _ hk) b

theorem State.countGood_other {k : SegId} {b : Nat} (h : ¬(k = g ∧ b = a)) :
    (s.countGood g a).station? k b = s.station? k b := by
  rw [State.countGood_eq, State.notifyIf_eq]
  exact State.modStation_elsewhere (s := s) h

theorem State.countGood_bits : State.BitsKept 0x10#8 s (s.countGood g a) := by
  rw [State.countGood_eq]
  exact State.BitsKept.trans (u := s.modStation g a fun st => { st with counter := min 15 (s.counter g a + 1) }) (.of_eq rfl)
    (.notifyIf (by decide) _)

theorem State.countGood_noticed : s.Noticed (s.countGood g a) := by
  rw [State.countGood_eq]
  exact State.Noticed.trans (u := s.modStation g a fun st => { st with counter := min 15 (s.counter g a + 1) }) (.of_eq rfl rfl)
    (.notifyIf ..)

theorem State.counted_other {k : SegId} {b : Nat} (h : ¬(k = g ∧ b = j.station)) :
    (s.counted g j vs).station? k b = s.station? k b := by
  rw [State.counted, State.clearAttention_other h, State.countGood_other h]
  exact State.modStation_elsewhere h fun x => by rw [(Station.takeFrom_only _ vs j.next x).1]

theorem State.counted_bits : State.BitsKept 0x10#8 s (s.counted g j vs) := by
  refine State.BitsKept.trans (u := s.modStation g j.station (Station.takeFrom (s.fsc.get g).passNumber j.next vs)) (.of_eq rfl)
    ((State.countGood_bits (g := g) (a := j.station)).trans (.of_eq ?_))
  unfold State.counted State.clearAttention
  split <;> rfl

theorem State.counted_noticed : s.Noticed (s.counted g j vs) := by
  refine State.Noticed.trans (u := s.modStation g j.station (Station.takeFrom (s.fsc.get g).passNumber j.next vs))
    (.of_eq rfl rfl) ((State.countGood_noticed (g := g) (a := j.station)).trans (.of_eq ?_ ?_))
  all_goals
    unfold State.counted State.clearAttention
    split <;> rfl

/-- The mode follows a point 6 delivered with a value. -/
theorem State.heard_mode (hst : s.station? g j.station = some st) (hlength : st.points.length = 8) :
    s.heard g j vs = (s.counted g j vs).setMode g j.station (j.modeRead vs st.mode) := by
  have hcounted := State.counted_station (j := j) (vs := vs) hst
  rw [State.heard_eq, State.modeFromPoint, ReadJob.modeRead]
  by_cases h6 : 6 ∈ valuedFrom j.next vs
  · have hstored := Station.takeFrom_valued (st := st) (pass := (s.fsc.get g).passNumber) h6 (by omega)
    have hvalue : (s.counted g j vs).storedValue g j.station 6 = if vs.getD (6 - j.next) 0 = 0 then 0 else 1 := by
      rw [State.storedValue_eq hcounted,
        show (st.counted (s.fsc.get g).passNumber j vs).point 6 = _ from hstored]
      cases st.kind <;> rfl
    have hzero : (s.counted g j vs).storedValue g j.station 6 = 0 ↔ vs.getD (6 - j.next) 0 = 0 := by
      rw [hvalue]
      exact ite_eq_left_iff.trans ⟨fun h => of_not_not fun hne => absurd (h hne) (by decide), fun h hne => absurd h hne⟩
    rw [if_pos (List.contains_iff_mem.2 h6), if_pos h6]
    exact congrArg (State.setMode _ g j.station) (if_congr hzero rfl rfl)
  · rw [if_neg (by simpa using h6), if_neg h6, State.setMode_same hcounted]
    rw [Station.counted_eq]

section
variable (hst : s.station? g j.station = some st) (hlength : st.points.length = 8)
include hst hlength

theorem State.heard_station : (s.heard g j vs).station? g j.station = some (st.read (s.fsc.get g).passNumber j true vs) := by
  rw [State.heard_mode hst hlength, State.setMode_station, State.counted_station hst, Station.read_eq, Station.counted_eq]
  rfl

theorem State.heard_other {k : SegId} {b : Nat} (h : ¬(k = g ∧ b = j.station)) : (s.heard g j vs).station? k b = s.station? k b := by
  rw [State.heard_mode hst hlength, State.setMode_other h, State.counted_other h]

theorem State.heard_kept : (s.heard g j vs).now = s.now ∧ (s.heard g j vs).settings = s.settings ∧
    (s.heard g j vs).fsc = s.fsc ∧ (s.heard g j vs).ta = s.ta ∧ (s.heard g j vs).fpb = s.fpb ∧
    (s.heard g j vs).buffer = s.buffer ∧ (s.heard g j vs).settle = s.settle ∧ (s.heard g j vs).fences = s.fences := by
  obtain ⟨hnow, hsettings, hfsc, hta, hfpb, hbuffer, hsettle, hfences, -⟩ := s.counted_kept (g := g) (j := j) (vs := vs)
  rw [State.heard_mode hst hlength]
  simp only [State.setMode_frame]
  exact ⟨hnow, hsettings, hfsc, hta, hfpb, hbuffer, hsettle, hfences⟩

theorem State.heard_bits : State.BitsKept 0x10#8 s (s.heard g j vs) := by
  rw [State.heard_mode hst hlength]
  exact State.counted_bits.trans State.setMode_bits

theorem State.heard_noticed : s.Noticed (s.heard g j vs) := by
  rw [State.heard_mode hst hlength]
  exact State.counted_noticed.trans State.setMode_noticed

theorem State.heard_tells (h : j.modeRead vs st.mode ≠ st.mode) (henabled : (s.settings.port.get p).notices = true) :
    ((s.heard g j vs).ports.get p).notices &&& 0x02#8 = 0x02#8 := by
  obtain ⟨-, hsettings, -⟩ := s.counted_kept (g := g) (j := j) (vs := vs)
  rw [State.heard_mode hst hlength]
  refine State.setMode_tells (State.counted_station hst) (fun hm => h ?_) (by rw [hsettings]; exact henabled)
  rw [← hm, Station.counted_eq]

theorem State.heard_local (h : j.modeRead vs st.mode ≠ st.mode) (hlocal : j.modeRead vs st.mode = .inLocal) :
    (∀ c, (s.heard g j vs).commands? g j.station = some c → c.unposted) ∧
      ∀ r ∈ (s.heard g j vs).overrides, r.seg = g → r.station = j.station → r.delivery = .waiting := by
  rw [State.heard_mode hst hlength, hlocal]
  refine State.setMode_local (State.counted_station hst) fun hm => h ?_
  rw [hlocal, ← hm, Station.counted_eq]

theorem State.heard_written : ((s.heard g j vs).commands g j.station).fan.written = (s.commands g j.station).fan.written := by
  obtain ⟨-, -, -, -, -, -, -, -, halloc⟩ := s.counted_kept (g := g) (j := j) (vs := vs)
  rw [State.heard_mode hst hlength, State.setMode_written, State.commands_congr (s := s) (by rw [halloc])]

end

end

end Sys2Proof.Machine
end

section
/-! A READ's points as freeze protection sees them (R54, R67 to R69): the unit that was read, its loop, and the yard ambient. -/

namespace Sys2Proof.Machine

section
variable {s : State} {g : SegId} {a : Nat} {st : Station} {j : ReadJob} {ds : List Int} {x y : UnitFrost}

/-! ### The unit read -/

/-- A READ reached a unit's outlet temperature or its valve. -/
def outletRead (first next : Nat) : Bool :=
  (decide (first ≤ 0) && decide (0 < next)) || (decide (first ≤ 3) && decide (3 < next))

theorem readEvent_unit (h : kindOf a = .unit) (first next : Nat) : readEvent g a first next =
    { FpbEvent.nothing with unit := if outletRead first next then some (g, a) else none } := by
  rw [readEvent, h]
  rfl

theorem readEvent_loop (h : kindOf a = .loop) (first next : Nat) : readEvent g a first next = { FpbEvent.nothing with
    cu := if decide (first ≤ 3) && decide (3 < next) then onlyLoop g else noLoop
    flow := if decide (first ≤ 2) && decide (2 < next) then onlyLoop g else noLoop } := by
  rw [readEvent, h]

theorem readEvent_ambient (h : kindOf a = .ambient) (first next : Nat) : readEvent g a first next = { FpbEvent.nothing with
    ta := (decide (first ≤ 0) && decide (0 < next)) || (decide (first ≤ 1) && decide (1 < next)) } := by
  rw [readEvent, h]

/-- An event of one unit evaluates that unit alone. -/
theorem State.unitsAfter_unit (u : Option (LoopId × Nat)) (l : LoopId) :
    s.unitsAfter { FpbEvent.nothing with unit := u } l =
      (s.fpb.get l).units.map fun x => if u = some (l, x.addr) then s.evaluateUnit l x else x := by
  have hread : (s.fpbRead { FpbEvent.nothing with unit := u }).fpb.get l = s.fpb.get l := by
    rw [State.fpbRead_get]
    cases l <;> simp [FpbEvent.nothing, noLoop, PerSeg.get]
  have hta : (s.fpbRead { FpbEvent.nothing with unit := u }).ta = s.ta := by rw [State.fpbRead_ta]; rfl
  have hsame : (s.fpbRead { FpbEvent.nothing with unit := u }).evaluateUnit l = s.evaluateUnit l :=
    State.evaluateUnit_congr (by simp) (by simp) hta (by rw [hread]) (by rw [hread])
  have hloop : reachesUnits { FpbEvent.nothing with unit := u } s (s.fpbRead { FpbEvent.nothing with unit := u }) l = false := by
    simp only [reachesUnits, reachesMa, hread, hta, bne_self_eq_false, Bool.or_false]
    cases l <;> rfl
  rw [State.unitsAfter, hsame]
  refine List.map_congr_left fun x _ => if_congr ?_ rfl rfl
  rw [FpbEvent.reaches, hloop, Bool.false_or, beq_iff_eq]

theorem find?_map_unit {F : UnitFrost → UnitFrost} (hF : ∀ x, (F x).addr = x.addr) (us : List UnitFrost) :
    (us.map F).find? (fun u => u.addr == a) = (us.find? fun u => u.addr == a).map F := by
  rw [List.find?_map]
  congr 2
  funext x
  simp [hF]

theorem State.unit?_addr (h : s.unit? g a = some x) : x.addr = a := by
  have hfound := List.find?_some (p := fun u : UnitFrost => u.addr == a) h
  exact beq_iff_eq.1 hfound

theorem State.unit?_modUnit {f : UnitFrost → UnitFrost} (hf : ∀ x, (f x).addr = x.addr := by exact fun _ => rfl) :
    (s.modUnit g a f).unit? g a = (s.unit? g a).map f := by
  have hunits : ((s.modUnit g a f).fpb.get g).units = (s.fpb.get g).units.map fun x => if x.addr = a then f x else x :=
    congrArg Fpb.units (PerSeg.get_modify_self ..)
  unfold State.unit?
  rw [hunits, find?_map_unit fun x => by split <;> simp [hf]]
  cases hx : (s.fpb.get g).units.find? fun u => u.addr == a with
  | none => rfl
  | some x => exact congrArg some (if_pos (State.unit?_addr hx))

/-- A unit's frost state as an event of a unit leaves it, and what it tells. -/
theorem State.fpbEvent_unit (u : Option (LoopId × Nat)) (hx : s.unit? g a = some x) :
    let v := s.fpbEvent { FpbEvent.nothing with unit := u }
    v.unit? g a = some (if u = some (g, a) then s.evaluateUnit g x else x) ∧
    (u = some (g, a) → (s.evaluateUnit g x).frost ≠ x.frost →
      (∀ p, (s.settings.port.get p).notices = true → (v.ports.get p).notices &&& 0x01#8 = 0x01#8) ∧
      ((s.evaluateUnit g x).frost = .protect → v.hasFault .frostProtect = true)) := by
  intro v
  have hunits : (v.fpb.get g).units = _ := (congrArg Fpb.units (State.fpbEvent_get s _ g)).trans (State.unitsAfter_unit u g)
  have haddr := State.unit?_addr hx
  refine ⟨?_, fun hu hfrost => ?_⟩
  · unfold State.unit?
    rw [hunits, find?_map_unit fun x => by split <;> simp, show (s.fpb.get g).units.find? _ = some x from hx, Option.map_some, haddr]
  · have hf : (if u = some (g, x.addr) then s.evaluateUnit g x else x) = s.evaluateUnit g x := if_pos (by rw [haddr]; exact hu)
    have htells := State.fpbEvent_tells (State.unitsAfter_unit u g) (List.mem_of_find?_eq_some hx) (by rw [hf]; exact hfrost)
    rwa [hf] at htells

/-! ### The shortfall comparison (R67 to R69) -/

theorem State.shortfallFrom_cases (valued : List Nat) : s.shortfallFrom g j valued = s ∨ ∃ n,
    s.shortfallFrom g j valued = s.modUnit g j.station (fun u => { u with shortfall := n }) ∨
    s.shortfallFrom g j valued = (s.modUnit g j.station fun u => { u with shortfall := n }).setIcing g j.station := by
  unfold State.shortfallFrom State.shortfall
  split
  · split
    · next u st _ _ =>
      generalize (if st.mode = .inLocal then 0 else shortfallNext u.shortfall _ _) = n
      refine .inr ⟨n, ?_⟩
      dsimp only
      split
      · exact .inr rfl
      · exact .inl rfl
    · exact .inl rfl
  · exact .inl rfl

theorem State.shortfallFrom_ta (valued : List Nat) : (s.shortfallFrom g j valued).ta = s.ta := by
  have hicing : ∀ u : State, (u.setIcing g j.station).ta = u.ta := fun u => by simp [State.setIcing, State.repost]
  rcases s.shortfallFrom_cases (g := g) (j := j) valued with h | ⟨n, h | h⟩
  · rw [h]
  · rw [h]; rfl
  · rw [h, hicing]; rfl

/-- The comparison is made of what an event of freeze protection is made of. -/
theorem FreezeSteps.shortfallFrom {P : State → State → Prop} (h : FreezeSteps P) (s : State) (valued : List Nat) :
    P s (s.shortfallFrom g j valued) := by
  have hicing : ∀ u : State, P u (u.setIcing g j.station) := fun u =>
    h.trans (h.trans (h.trans (h.modFpb u g _) (h.setFaultIf _ true .icing)) (h.notifyFrost _ true)) (h.repost _ g j.station .fan)
  rcases s.shortfallFrom_cases (g := g) (j := j) valued with hs | ⟨n, hs | hs⟩
  · rw [hs]; exact h.refl s
  · rw [hs]; exact h.modFpb s g _
  · rw [hs]; exact h.trans (h.modFpb s g _) (hicing _)

theorem State.shortfallFrom_not {valued : List Nat} (h : ¬(j.purpose = .scan ∧ kindOf j.station = .unit ∧ 2 ∈ valued)) :
    s.shortfallFrom g j valued = s := if_neg (by simpa using h)

/-- The shortfall count a comparison leaves. -/
def State.countFound (s : State) (g : SegId) (a : Nat) (st : Station) (x : UnitFrost) : Nat :=
  if st.mode = .inLocal then 0 else shortfallNext x.shortfall (s.fanWritten g a) (s.storedValue g a 2)

/-- A scan READ of a unit that delivers point 2 with a value counts a shortfall, and sets the icing mark at the third. -/
theorem State.shortfallFrom_unit {valued : List Nat} (h : j.purpose = .scan ∧ kindOf j.station = .unit ∧ 2 ∈ valued)
    (hx : s.unit? g j.station = some x) (hst : s.station? g j.station = some st) :
    let count := s.countFound g j.station st x
    let v := s.shortfallFrom g j valued
    v.unit? g j.station = some { x with
      shortfall := count, iced := if x.shortfall = 2 ∧ count = 3 then true else x.iced } ∧
    (x.shortfall = 2 → count = 3 → v.hasFault .icing = true) := by
  intro count v
  have hv : v = if x.shortfall = 2 ∧ count = 3 then
      (s.modUnit g j.station fun u => { u with shortfall := count }).setIcing g j.station
      else s.modUnit g j.station fun u => { u with shortfall := count } := by
    refine (if_pos (by simpa using h)).trans ?_
    rw [State.shortfall, hx, hst]
    rfl
  have hcounted : (s.modUnit g j.station fun u => { u with shortfall := count }).unit? g j.station =
      some { x with shortfall := count } := by
    rw [State.unit?_modUnit, hx]
    rfl
  rw [hv]
  by_cases hthird : x.shortfall = 2 ∧ count = 3
  · rw [if_pos hthird, if_pos hthird]
    have hicing : ∀ u : State, (u.setIcing g j.station).unit? g j.station =
        (u.modUnit g j.station fun u => { u with iced := true }).unit? g j.station := fun u => by
      simp [State.setIcing, State.unit?, State.repost]
    refine ⟨?_, fun _ _ => ?_⟩
    · rw [hicing, State.unit?_modUnit, hcounted]
      rfl
    · have hset : ∀ u : State, (u.setIcing g j.station).hasFault .icing = true := fun u => by
        change (State.repost _ g j.station .fan).faults.getLsbD FaultFlag.icing.bit = true
        simp [State.repost, State.setFault_faults, FaultFlag.mask_bit]
      exact hset _
  · rw [if_neg hthird, if_neg hthird]
    exact ⟨hcounted, fun hs hc => absurd ⟨hs, hc⟩ hthird⟩

end

end Sys2Proof.Machine
end

section
/-! A READ's answer taken: what it leaves of the station, freeze protection, the settle list and the fences, before the READ goes
on or ends (R6, R14, R16, R54, R67, R118, R123). -/

namespace Sys2Proof.Machine

/-- A READ's answer delivers the point. -/
def ReadJob.Delivers (j : ReadJob) (ds : List Int) (q : Nat) : Prop := j.next ≤ q ∧ q < j.next + ds.length

/-- The values that a station's points hold. -/
def Station.value (st : Station) (q : Nat) : Int := ((st.point q).stored.map Stored.value).getD 0

/-- What a READ's points make of the unit that was read. -/
structure State.UnitRead (s u : State) (g : SegId) (j : ReadJob) (ds : List Int) (mode : Mode) (new : Station) (x y : UnitFrost) :
    Prop where
  judged : j.Delivers ds 0 ∨ j.Delivers ds 3 →
    y.margin = coilMargin
      (if (new.point 3).validValue = some 0 ∧ (s.fpb.get g).flowAdequate = true then ((new.point 0).validValue).getD s.ta
        else s.ta) (s.fpb.get g).fp s.settings.guardBand ∧
    y.frost = frostNext x.frost y.margin ∧
    (y.frost = .protect → x.frost ≠ .protect → u.hasFault .frostProtect = true) ∧
    (y.frost ≠ x.frost → ∀ q, (s.settings.port.get q).notices = true → (u.ports.get q).notices &&& 0x01#8 = 0x01#8)
  unjudged : ¬(j.Delivers ds 0 ∨ j.Delivers ds 3) → y.margin = x.margin ∧ y.frost = x.frost
  compared : j.purpose = .scan → 2 ∈ valuedFrom j.next ds →
    y.shortfall = (if mode = .inLocal then 0
      else shortfallNext x.shortfall ((s.commands g j.station).fan.written.getD 0) (new.value 2)) ∧
    (y.iced = true ↔ x.iced = true ∨ (x.shortfall = 2 ∧ y.shortfall = 3)) ∧
    (x.shortfall = 2 → y.shortfall = 3 → u.hasFault .icing = true)
  uncompared : ¬(j.purpose = .scan ∧ 2 ∈ valuedFrom j.next ds) → y.shortfall = x.shortfall ∧ y.iced = x.iced

/-- A READ's answer has been taken: its delivered values, none of a refused one, have reached their readers. -/
structure State.ReadTaken (s : State) (g : SegId) (j : ReadJob) (accept : Bool) (ds : List Int) (st : Station) (u : State) :
    Prop where
  now : u.now = s.now
  settings : u.settings = s.settings
  station : u.station? g j.station = some (st.read (s.fsc.get g).passNumber j accept ds)
  others : ∀ k b, ¬(k = g ∧ b = j.station) → u.station? k b = s.station? k b
  told : j.modeRead ds st.mode ≠ st.mode → ∀ q, (s.settings.port.get q).notices = true →
    (u.ports.get q).notices &&& 0x02#8 = 0x02#8
  unposted : j.modeRead ds st.mode ≠ st.mode → j.modeRead ds st.mode = .inLocal →
    (∀ o, (u.commands g j.station).postedValue o = none) ∧
      ∀ r ∈ u.overrides, r.seg = g → r.station = j.station → r.delivery = .waiting
  unit : ∀ x, kindOf j.station = .unit → s.unit? g j.station = some x → ∃ y, u.unit? g j.station = some y ∧
    s.UnitRead u g j ds (j.modeRead ds st.mode) (Station.takeFrom (s.fsc.get g).passNumber j.next ds st) x y
  loop : kindOf j.station = .loop →
    (u.fpb.get g).cu = (if j.next ≤ 3 ∧ 3 < j.next + ds.length then concentrationInUse
        ((Station.takeFrom (s.fsc.get g).passNumber j.next ds st).point 3).validValue (s.settings.loop.get g).nominal
      else (s.fpb.get g).cu) ∧
    ((u.fpb.get g).flowAdequate = true ↔ if j.next ≤ 2 ∧ 2 < j.next + ds.length then
        ∃ v, ((Station.takeFrom (s.fsc.get g).passNumber j.next ds st).point 2).validValue = some v ∧
          ((s.settings.loop.get g).minFlow : Int) ≤ v
      else (s.fpb.get g).flowAdequate = true)
  ambient : kindOf j.station = .ambient → j.Delivers ds 0 ∨ j.Delivers ds 1 →
    (u.ambientReadings = [] → u.ta = s.settings.designMin ∧ u.hasFault .ambientLost = true) ∧
      ∀ v ∈ u.ambientReadings, (∀ w ∈ u.ambientReadings, v ≤ w) → u.ta = v
  ta : kindOf j.station ≠ .ambient → u.ta = s.ta
  settle : u.settle.get g = (s.settle.get g).filter fun i => !(accept && i.station == j.station &&
    settles i.value (j.valued ++ valuedFrom j.next ds) (Station.takeFrom (s.fsc.get g).passNumber j.next ds st).value)
  fences : ∀ p k, (u.fences.get p).get k = if k = g ∧ accept = true ∧ ((s.fences.get p).get g).isPending = true ∧
      u.marked g p = false then ((s.fences.get p).get k).complete else (s.fences.get p).get k
  buffer : u.buffer.get g = s.buffer.get g
  bits : ∀ p, (u.ports.get p).notices &&& 0x10#8 = ((s.ports.get p).notices &&& 0x10#8) |||
    if (s.settings.port.get p).notices = true ∧ ((s.fences.get p).get g).isPending = true ∧ accept = true ∧
      u.marked g p = false then 0x10#8 else 0#8

section
variable {s : State} {g : SegId} {a : Nat} {st : Station} {j : ReadJob} {vs : List Int}

/-! ### What stays through freeze protection -/

/-- The last written FAN of a station is as it was. -/
def State.WrittenKept (g : SegId) (a : Nat) (s u : State) : Prop :=
  (u.commands g a).fan.written = (s.commands g a).fan.written

theorem State.WrittenKept.modAlloc {k : SegId} (s : State) {F : StationCommands → StationCommands}
    (haddr : ∀ c, (F c).addr = c.addr) (hF : ∀ c, (F c).fan.written = c.fan.written) :
    State.WrittenKept g a s (s.modAlloc k fun al => { al with commands := al.commands.map F }) := by
  unfold State.WrittenKept State.commands
  by_cases hk : g = k
  · subst hk
    rw [State.modAlloc_commands haddr rfl]
    cases s.commands? g a with
    | none => rfl
    | some c => exact hF c
  · rw [show (s.modAlloc k _).commands? g a = s.commands? g a by
      unfold State.commands?
      rw [State.modAlloc_alloc, PerSeg.get_modify_other _ _ hk]]

theorem writtenSteps (g : SegId) (a : Nat) : FreezeSteps (State.WrittenKept g a) where
  refl _ := rfl
  trans h k := Eq.trans k h
  modFpb _ _ _ := rfl
  setTa _ _ := rfl
  repostAll s _ _ o := .modAlloc s (fun c => by split <;> cases o <;> rfl) fun c => by split <;> cases o <;> rfl
  repost s _ _ o := .modAlloc s (fun c => by split <;> cases o <;> rfl) fun c => by split <;> cases o <;> rfl
  notifyFrost _ _ := by simp [State.WrittenKept, State.commands, State.commands?]
  setFaultIf _ _ _ := by simp [State.WrittenKept, State.commands, State.commands?]

end

end Sys2Proof.Machine
end

section
/-! The points of a READ with accept = 1 reach their readers (R6): freeze protection, then the settle check. -/

namespace Sys2Proof.Machine

section
variable {s : State} {g : SegId} {a : Nat} {st : Station} {j : ReadJob} {vs : List Int} {p : PortId}

/-! ### The settle check (R118) -/

/-- The settle items that a READ's points leave. -/
def State.unsettled (s : State) (g : SegId) (a : Nat) (valued : List Nat) : State := s.modSettle g fun items =>
  items.filter fun i => !(i.station == a && settles i.value valued (s.storedValue g a))

theorem State.settleCheck_eq (valued : List Nat) : s.settleCheck g a valued = { s.unsettled g a valued with
    fences := ((s.unsettled g a valued).completeFences g).fences
    ports := s.noticed fun p => if ((s.unsettled g a valued).fencesDone g).get p then 0x10#8 else 0#8 } := by
  change (s.unsettled g a valued).completeFences g = _
  rw [State.completeFences_eq]
  rfl

theorem State.settleCheck_settle (valued : List Nat) : (s.settleCheck g a valued).settle.get g =
    (s.settle.get g).filter fun i => !(i.station == a && settles i.value valued (s.storedValue g a)) := by
  rw [State.settleCheck_eq]
  exact PerSeg.get_modify_self ..

theorem State.settleCheck_marked (valued : List Nat) : (s.settleCheck g a valued).marked g p = (s.unsettled g a valued).marked g p := by
  rw [State.settleCheck_eq]
  rfl

theorem State.settleCheck_fence (valued : List Nat) (k : SegId) : ((s.settleCheck g a valued).fences.get p).get k =
    if k = g ∧ ((s.fences.get p).get g).isPending = true ∧ (s.settleCheck g a valued).marked g p = false then
      ((s.fences.get p).get k).complete else (s.fences.get p).get k := by
  rw [State.settleCheck_marked]
  refine (State.completeFences_get (s.unsettled g a valued) g k p).trans (if_congr ?_ rfl rfl)
  rw [State.fencesDone_get, Bool.and_eq_true, Bool.not_eq_true']
  rfl

theorem State.settleCheck_noticed (valued : List Nat) : s.Noticed (s.settleCheck g a valued) := by
  rw [State.settleCheck_eq]
  exact ⟨rfl, fun p => if ((s.unsettled g a valued).fencesDone g).get p then 0x10#8 else 0#8, rfl⟩

theorem State.settleCheck_bits (valued : List Nat) : ((s.settleCheck g a valued).ports.get p).notices &&& 0x10#8 =
    ((s.ports.get p).notices &&& 0x10#8) ||| if (s.settings.port.get p).notices = true ∧
      ((s.fences.get p).get g).isPending = true ∧ (s.settleCheck g a valued).marked g p = false then 0x10#8 else 0#8 := by
  have hdone : ((s.unsettled g a valued).fencesDone g).get p = true ↔
      ((s.fences.get p).get g).isPending = true ∧ (s.unsettled g a valued).marked g p = false := by
    rw [State.fencesDone_get, Bool.and_eq_true, Bool.not_eq_true']
    rfl
  rw [State.settleCheck_marked, State.settleCheck_eq]
  dsimp only
  rw [State.noticed_get]
  by_cases henabled : (s.settings.port.get p).notices = true
  · rw [if_pos henabled]
    dsimp only
    rw [BitVec.and_or_distrib_right]
    congr 1
    by_cases h : ((s.fences.get p).get g).isPending = true ∧ (s.unsettled g a valued).marked g p = false
    · rw [if_pos (hdone.2 h), if_pos ⟨henabled, h⟩]
      decide
    · rw [if_neg fun hd => h (hdone.1 hd), if_neg fun hd => h hd.2]
      decide
  · rw [if_neg henabled, if_neg fun h => henabled h.1, BitVec.or_zero]

/-! ### Freeze protection and the shortfall comparison -/

/-- The part once freeze protection has seen a READ's points. -/
def State.frosted (s : State) (g : SegId) (j : ReadJob) (vs : List Int) : State :=
  ((s.heard g j vs).fpbEvent (readEvent g j.station j.next (j.next + vs.length))).shortfallFrom g j (valuedFrom j.next vs)

theorem State.readPoints_frosted : s.readPoints g j vs =
    (s.frosted g j vs).settleCheck g j.station (j.valued ++ valuedFrom j.next vs) := rfl

theorem noticedSteps : FreezeSteps State.Noticed where
  refl _ := .of_eq rfl rfl
  trans := .trans
  modFpb _ _ _ := .of_eq rfl rfl
  setTa _ _ := .of_eq rfl rfl
  repostAll _ _ _ _ := .of_eq rfl rfl
  repost _ _ _ _ := .of_eq rfl rfl
  notifyFrost _ _ := .notifyIf ..
  setFaultIf _ _ _ := .setFaultIf ..

/-- What freeze protection does with a READ's points is made of the steps of its events. -/
theorem FreezeSteps.frosted {P : State → State → Prop} (h : FreezeSteps P) : P (s.heard g j vs) (s.frosted g j vs) :=
  h.trans (h.fpbEvent ..) (h.shortfallFrom ..)

theorem State.frosted_image : (s.frosted g j vs).image = (s.heard g j vs).image := by simp [State.frosted]

theorem outletRead_iff : outletRead j.next (j.next + vs.length) = true ↔ j.Delivers vs 0 ∨ j.Delivers vs 3 := by
  simp only [outletRead, Bool.or_eq_true, Bool.and_eq_true, decide_eq_true_eq]
  rfl

section
variable (hst : s.station? g j.station = some st) (hlength : st.points.length = 8)
include hst hlength

theorem State.frosted_station : (s.frosted g j vs).station? g j.station = some (st.read (s.fsc.get g).passNumber j true vs) :=
  (State.station?_congr (by rw [State.frosted_image]) _).trans (State.heard_station hst hlength)

theorem State.frosted_value (q : Nat) : (s.frosted g j vs).storedValue g j.station q =
    (Station.takeFrom (s.fsc.get g).passNumber j.next vs st).value q :=
  (State.storedValue_eq (State.frosted_station hst hlength)).trans rfl

theorem State.heard_evaluates {x : UnitFrost} (hx : s.unit? g j.station = some x) :
    ((s.heard g j vs).evaluateUnit g x).margin = coilMargin
      (if ((Station.takeFrom (s.fsc.get g).passNumber j.next vs st).point 3).validValue = some 0 ∧
          (s.fpb.get g).flowAdequate = true then
        (((Station.takeFrom (s.fsc.get g).passNumber j.next vs st).point 0).validValue).getD s.ta
      else s.ta) (s.fpb.get g).fp s.settings.guardBand := by
  obtain ⟨-, hsettings, -, hta, hfpb, -⟩ := State.heard_kept (vs := vs) hst hlength
  have hstation := State.heard_station (vs := vs) hst hlength
  have hanswers : (s.heard g j vs).isLost g j.station = false := by
    rw [← Bool.not_eq_true, State.isLost_iff, State.link, hstation]
    intro hlost
    rw [Station.link_lost_iff] at hlost
    exact absurd (show min 15 (st.counter + 1) = 0 from hlost) (by omega)
  have hvalid : ∀ q, (s.heard g j vs).validPoint g j.station q =
      ((Station.takeFrom (s.fsc.get g).passNumber j.next vs st).point q).validValue := fun q => by
    rw [State.validPoint, State.point, hstation]
    rfl
  have houtlet : (s.heard g j vs).outletUsed g x.addr = if
      ((Station.takeFrom (s.fsc.get g).passNumber j.next vs st).point 3).validValue = some 0 ∧ (s.fpb.get g).flowAdequate = true then
        (((Station.takeFrom (s.fsc.get g).passNumber j.next vs st).point 0).validValue).getD s.ta else s.ta := by
    rw [State.outletUsed, State.unit?_addr hx, hvalid, hvalid, hta, hfpb]
    exact if_congr ⟨fun h => h.2, fun h => ⟨hanswers, h⟩⟩ rfl rfl
  change coilMargin _ _ _ = _
  rw [houtlet, hfpb, hsettings]

/-- The unit as the event of a READ leaves it, before its shortfall is compared. -/
theorem State.heard_judged {x : UnitFrost} (hkind : kindOf j.station = .unit) (hx : s.unit? g j.station = some x) :
    let v := (s.heard g j vs).fpbEvent (readEvent g j.station j.next (j.next + vs.length))
    let judged := outletRead j.next (j.next + vs.length)
    v.unit? g j.station = some (if judged then (s.heard g j vs).evaluateUnit g x else x) ∧
    (judged = true → ((s.heard g j vs).evaluateUnit g x).frost ≠ x.frost →
      (∀ p, (s.settings.port.get p).notices = true → (v.ports.get p).notices &&& 0x01#8 = 0x01#8) ∧
      (((s.heard g j vs).evaluateUnit g x).frost = .protect → v.hasFault .frostProtect = true)) := by
  intro v judged
  obtain ⟨-, hsettings, -, -, hfpb, -⟩ := State.heard_kept (vs := vs) hst hlength
  have hunit : (s.heard g j vs).unit? g j.station = some x := by rw [State.unit?, hfpb]; exact hx
  obtain ⟨hjudged, htells⟩ := State.fpbEvent_unit (if judged then some (g, j.station) else none) hunit
  rw [← readEvent_unit hkind, hsettings] at htells
  rw [← readEvent_unit hkind] at hjudged
  refine ⟨hjudged.trans ?_, fun hj => htells (if_pos hj)⟩
  cases judged <;> simp

/-- The unit's shortfall count and icing mark come of its comparison alone. -/
theorem State.frosted_compared {x z : UnitFrost} (hkind : kindOf j.station = .unit) (hshortfall : z.shortfall = x.shortfall)
    (hiced : z.iced = x.iced) (hz : ((s.heard g j vs).fpbEvent (readEvent g j.station j.next (j.next + vs.length))).unit? g
      j.station = some z) :
    ∃ y, (s.frosted g j vs).unit? g j.station = some y ∧ y.margin = z.margin ∧ y.frost = z.frost ∧
    (j.purpose = .scan → 2 ∈ valuedFrom j.next vs →
      y.shortfall = (if j.modeRead vs st.mode = .inLocal then 0
        else shortfallNext x.shortfall ((s.commands g j.station).fan.written.getD 0)
          ((Station.takeFrom (s.fsc.get g).passNumber j.next vs st).value 2)) ∧
      (y.iced = true ↔ x.iced = true ∨ (x.shortfall = 2 ∧ y.shortfall = 3)) ∧
      (x.shortfall = 2 → y.shortfall = 3 → (s.frosted g j vs).hasFault .icing = true)) ∧
    (¬(j.purpose = .scan ∧ 2 ∈ valuedFrom j.next vs) → y.shortfall = x.shortfall ∧ y.iced = x.iced) := by
  generalize hv : (s.heard g j vs).fpbEvent (readEvent g j.station j.next (j.next + vs.length)) = v at hz
  have hfrosted : s.frosted g j vs = v.shortfallFrom g j (valuedFrom j.next vs) := by rw [← hv]; rfl
  have hstation : v.station? g j.station = some (st.read (s.fsc.get g).passNumber j true vs) := by
    rw [← State.heard_station hst hlength, ← hv]
    exact State.station?_congr (by simp) _
  have hwritten : v.fanWritten g j.station = (s.commands g j.station).fan.written.getD 0 := by
    rw [State.fanWritten, ← State.heard_written (vs := vs) hst hlength, ← hv]
    exact congrArg (·.getD 0) ((writtenSteps g j.station).fpbEvent (s.heard g j vs) _)
  have hvalue : v.storedValue g j.station 2 = (Station.takeFrom (s.fsc.get g).passNumber j.next vs st).value 2 :=
    (State.storedValue_eq hstation).trans rfl
  rw [hfrosted]
  by_cases h : j.purpose = .scan ∧ 2 ∈ valuedFrom j.next vs
  · obtain ⟨hscan, hmem⟩ := h
    obtain ⟨hunit, hfault⟩ := State.shortfallFrom_unit ⟨hscan, hkind, hmem⟩ hz hstation
    have hcount : v.countFound g j.station (st.read (s.fsc.get g).passNumber j true vs) z =
        if j.modeRead vs st.mode = .inLocal then 0 else shortfallNext x.shortfall ((s.commands g j.station).fan.written.getD 0)
          ((Station.takeFrom (s.fsc.get g).passNumber j.next vs st).value 2) := by
      rw [State.countFound, hwritten, hvalue, hshortfall]
      rfl
    refine ⟨_, hunit, rfl, rfl, fun _ _ => ⟨hcount, ?_, fun hx hy => hfault (hshortfall.trans hx) hy⟩, fun hnot =>
      absurd ⟨hscan, hmem⟩ hnot⟩
    dsimp only
    rw [hshortfall, hiced]
    split
    · next hthird => exact ⟨fun _ => .inr hthird, fun _ => rfl⟩
    · next hnot => exact ⟨.inl, fun h => h.resolve_right hnot⟩
  · rw [State.shortfallFrom_not fun hall => h ⟨hall.1, hall.2.2⟩]
    exact ⟨z, hz, rfl, rfl, fun hscan hmem => absurd ⟨hscan, hmem⟩ h, fun _ => ⟨hshortfall, hiced⟩⟩

theorem State.frosted_unit {x : UnitFrost} (hkind : kindOf j.station = .unit) (hx : s.unit? g j.station = some x) :
    ∃ y, (s.frosted g j vs).unit? g j.station = some y ∧ s.UnitRead (s.frosted g j vs) g j vs (j.modeRead vs st.mode)
      (Station.takeFrom (s.fsc.get g).passNumber j.next vs st) x y := by
  obtain ⟨hunit, htells⟩ := State.heard_judged (vs := vs) hst hlength hkind hx
  obtain ⟨y, hy, hmargin, hfrost, hcompared, huncompared⟩ := State.frosted_compared hst hlength (x := x) hkind
    (by split <;> rfl) (by split <;> rfl) hunit
  have hkeeps : ((s.heard g j vs).fpbEvent (readEvent g j.station j.next (j.next + vs.length))).Noticed (s.frosted g j vs) :=
    noticedSteps.shortfallFrom ..
  refine ⟨y, hy, fun hread => ?_, fun hnot => ?_, hcompared, huncompared⟩
  · have hjudged := outletRead_iff.2 hread
    rw [hjudged, if_pos rfl] at hmargin hfrost
    have hevaluated := State.heard_evaluates (vs := vs) hst hlength hx
    refine ⟨hmargin.trans hevaluated, ?_, fun hprotect hbefore => ?_, fun hchanged p hp => ?_⟩
    · rw [hfrost, hmargin]
      rfl
    · have hset := (htells hjudged (by rw [← hfrost, hprotect]; exact Ne.symm hbefore)).2 (hfrost ▸ hprotect)
      exact State.shortfallFrom_keeps_fault hset g j _
    · exact hkeeps.keeps ((htells hjudged (hfrost ▸ hchanged)).1 p hp)
  · rw [if_neg fun h => hnot (outletRead_iff.1 h)] at hmargin hfrost
    exact ⟨hmargin, hfrost⟩

end

end

end Sys2Proof.Machine
end

section
/-! A READ's answer, accepted or refused, as its readers leave it. -/

namespace Sys2Proof.Machine

section
variable {s : State} {g : SegId} {a : Nat} {st : Station} {j : ReadJob} {vs : List Int} {p : PortId}

theorem kindOf_loop (h : kindOf a = .loop) : a = 12 := by
  unfold kindOf at h
  split at h
  · cases h
  · split at h
    · assumption
    · cases h

theorem State.ambientReadings_congr {u : State} (h : ∀ k, u.station? k 11 = s.station? k 11) :
    u.ambientReadings = s.ambientReadings := by
  have hvalid : ∀ k q, u.validPoint k ambientStation q = s.validPoint k ambientStation q := fun k q => by
    rw [State.validPoint, State.validPoint, State.point, State.point, show ambientStation = 11 from rfl, h]
  simp only [State.ambientReadings, hvalid]

/-- The yard ambient is the lowest valid reading, and the design minimum with AMBIENT LOST where there is none. -/
theorem State.fpbEvent_found {e : FpbEvent} (h : e.ta = true) :
    (s.ambientReadings = [] → (s.fpbEvent e).ta = s.settings.designMin ∧ (s.fpbEvent e).hasFault .ambientLost = true) ∧
      ∀ v ∈ s.ambientReadings, (∀ w ∈ s.ambientReadings, v ≤ w) → (s.fpbEvent e).ta = v := by
  have hta : (s.fpbEvent e).ta = s.computeTa.ta := by rw [State.fpbEvent_ambient, if_pos h]
  refine ⟨fun hnone => ?_, fun v hv hle => ?_⟩
  · have hlowest : lowest s.ambientReadings = none := lowest_eq_none.2 hnone
    refine ⟨?_, State.fpbEvent_ambientLost h hlowest⟩
    rw [hta, State.computeTa, hlowest]
    simp
  · rw [hta, State.computeTa, lowest_eq_some hv hle]
    rfl

/-- What a READ has told of its unit stays told. -/
theorem State.UnitRead.mono {u v : State} {mode : Mode} {new : Station} {x y : UnitFrost} (h : s.UnitRead u g j vs mode new x y)
    (hfaults : ∀ f, u.hasFault f = true → v.hasFault f = true)
    (hbits : ∀ p, (u.ports.get p).notices &&& 0x01#8 = 0x01#8 → (v.ports.get p).notices &&& 0x01#8 = 0x01#8) :
    s.UnitRead v g j vs mode new x y where
  judged hread := by
    obtain ⟨hmargin, hfrost, hprotect, htold⟩ := h.judged hread
    exact ⟨hmargin, hfrost, fun hp hx => hfaults _ (hprotect hp hx), fun hchanged p hp => hbits p (htold hchanged p hp)⟩
  unjudged := h.unjudged
  compared hscan hmem := by
    obtain ⟨hcount, hiced, hicing⟩ := h.compared hscan hmem
    exact ⟨hcount, hiced, fun hx hy => hfaults _ (hicing hx hy)⟩
  uncompared := h.uncompared

section
variable (hst : s.station? g j.station = some st) (hlength : st.points.length = 8)
include hst hlength

theorem State.heard_valid (q : Nat) : (s.heard g j vs).validPoint g j.station q =
    ((Station.takeFrom (s.fsc.get g).passNumber j.next vs st).point q).validValue := by
  rw [State.validPoint, State.point, State.heard_station hst hlength]
  rfl

/-- The loop's glycol as a READ of its station leaves it (R45, R52). -/
theorem State.frosted_loop (hkind : kindOf j.station = .loop) :
    ((s.frosted g j vs).fpb.get g).cu = (if j.next ≤ 3 ∧ 3 < j.next + vs.length then concentrationInUse
        ((Station.takeFrom (s.fsc.get g).passNumber j.next vs st).point 3).validValue (s.settings.loop.get g).nominal
      else (s.fpb.get g).cu) ∧
    (((s.frosted g j vs).fpb.get g).flowAdequate = true ↔ if j.next ≤ 2 ∧ 2 < j.next + vs.length then
        ∃ v, ((Station.takeFrom (s.fsc.get g).passNumber j.next vs st).point 2).validValue = some v ∧
          ((s.settings.loop.get g).minFlow : Int) ≤ v
      else (s.fpb.get g).flowAdequate = true) := by
  obtain ⟨-, hsettings, -, -, hfpb, -⟩ := State.heard_kept (vs := vs) hst hlength
  have hfrosted : s.frosted g j vs = (s.heard g j vs).fpbEvent (readEvent g j.station j.next (j.next + vs.length)) :=
    State.shortfallFrom_not fun h => by rw [hkind] at h; cases h.2.1
  have hvalid : ∀ q, (s.heard g j vs).validPoint g 12 q = _ := kindOf_loop hkind ▸ State.heard_valid (vs := vs) hst hlength
  have honly : ∀ c : Bool, (if c then onlyLoop g else noLoop).get g = c := fun c => by cases c <;> cases g <;> rfl
  rw [hfrosted, readEvent_loop hkind, State.fpbEvent_cu, State.fpbEvent_flow]
  dsimp only
  rw [honly, honly, hfpb]
  refine ⟨?_, ?_⟩
  · rw [State.concentrationFound, hsettings, show loopStation = 12 from rfl, hvalid]
    simp only [Bool.and_eq_true, decide_eq_true_eq]
  · simp only [Bool.and_eq_true, decide_eq_true_eq]
    split
    · rw [State.flowFound_iff, hvalid, hsettings]
    · exact Iff.rfl

theorem State.frosted_ambient (hkind : kindOf j.station = .ambient) (hread : j.Delivers vs 0 ∨ j.Delivers vs 1) :
    ((s.frosted g j vs).ambientReadings = [] →
      (s.frosted g j vs).ta = s.settings.designMin ∧ (s.frosted g j vs).hasFault .ambientLost = true) ∧
      ∀ v ∈ (s.frosted g j vs).ambientReadings, (∀ w ∈ (s.frosted g j vs).ambientReadings, v ≤ w) →
        (s.frosted g j vs).ta = v := by
  obtain ⟨-, hsettings, -⟩ := State.heard_kept (vs := vs) hst hlength
  have hfrosted : s.frosted g j vs = (s.heard g j vs).fpbEvent (readEvent g j.station j.next (j.next + vs.length)) :=
    State.shortfallFrom_not fun h => by rw [hkind] at h; cases h.2.1
  have hreadings : (s.frosted g j vs).ambientReadings = (s.heard g j vs).ambientReadings :=
    State.ambientReadings_congr fun k => State.station?_congr (by rw [State.frosted_image]) 11
  rw [hreadings, hfrosted, ← hsettings]
  refine State.fpbEvent_found ?_
  rw [readEvent_ambient hkind]
  simpa [ReadJob.Delivers] using hread

theorem State.frosted_ta (hkind : kindOf j.station ≠ .ambient) : (s.frosted g j vs).ta = s.ta := by
  obtain ⟨-, -, -, hta, -⟩ := State.heard_kept (vs := vs) hst hlength
  have hevent : (readEvent g j.station j.next (j.next + vs.length)).ta = false := by
    rw [readEvent]
    cases hk : kindOf j.station with
    | ambient => exact absurd hk hkind
    | unit => rfl
    | loop => rfl
  rw [State.frosted, State.shortfallFrom_ta, State.fpbEvent_ambient, hevent, if_neg Bool.false_ne_true, hta]

theorem State.frosted_unposted (h : j.modeRead vs st.mode ≠ st.mode) (hlocal : j.modeRead vs st.mode = .inLocal) :
    (∀ o, ((s.frosted g j vs).commands g j.station).postedValue o = none) ∧
      ∀ r ∈ (s.frosted g j vs).overrides, r.seg = g → r.station = j.station → r.delivery = .waiting := by
  obtain ⟨hcommands, hoverrides⟩ := State.heard_local (vs := vs) hst hlength h hlocal
  have hkept : (s.frosted g j vs).commands? g j.station = (s.heard g j vs).commands? g j.station :=
    (State.StationKept.steps g j.station).frosted hcommands
  have hsame : (s.frosted g j vs).overrides = (s.heard g j vs).overrides := by simp [State.frosted]
  refine ⟨fun o => ?_, by rw [hsame]; exact hoverrides⟩
  have hunposted : ∀ c : StationCommands, c.unposted → c.postedValue o = none := fun c hc => by
    rw [← hc o]
    cases o <;> rfl
  rw [State.commands, hkept]
  cases hc : (s.heard g j vs).commands? g j.station with
  | none => cases o <;> rfl
  | some c => exact hunposted c (hcommands c hc)

/-- A READ with accept = 1 has been taken. -/
theorem State.readPoints_taken : s.ReadTaken g j true vs st (s.readPoints g j vs) := by
  obtain ⟨hnow, hsettings, hfsc, hta, hfpb, hbuffer, hsettle, hfences⟩ := State.heard_kept (vs := vs) hst hlength
  have hframe : (s.frosted g j vs).now = s.now ∧ (s.frosted g j vs).settings = s.settings ∧
      (s.frosted g j vs).buffer = s.buffer ∧ (s.frosted g j vs).settle = s.settle ∧ (s.frosted g j vs).fences = s.fences := by
    simp only [State.frosted, State.shortfallFrom_frame, State.fpbEvent_frame]
    exact ⟨hnow, hsettings, hbuffer, hsettle, hfences⟩
  obtain ⟨hnow, hsettings, hbuffer, hsettle, hfences⟩ := hframe
  have hvalue : (s.frosted g j vs).storedValue g j.station = _ := funext (State.frosted_value hst hlength)
  have hnoticed : s.Noticed (s.frosted g j vs) := (State.heard_noticed hst hlength).trans noticedSteps.frosted
  have hchecked := State.settleCheck_noticed (s := s.frosted g j vs) (g := g) (a := j.station) (j.valued ++ valuedFrom j.next vs)
  have htold : (s.heard g j vs).Noticed (s.readPoints g j vs) := noticedSteps.frosted.trans hchecked
  have hbits : State.BitsKept 0x10#8 s (s.frosted g j vs) :=
    (State.heard_bits hst hlength).trans (State.BitsKept.steps (by decide) (by decide)).frosted
  obtain ⟨hunow, husettings, himage, hufpb, huta, hufaults, hualloc, huover, hubuffer⟩ :
      (s.readPoints g j vs).now = (s.frosted g j vs).now ∧ (s.readPoints g j vs).settings = (s.frosted g j vs).settings ∧
      (s.readPoints g j vs).image = (s.frosted g j vs).image ∧ (s.readPoints g j vs).fpb = (s.frosted g j vs).fpb ∧
      (s.readPoints g j vs).ta = (s.frosted g j vs).ta ∧ (s.readPoints g j vs).faults = (s.frosted g j vs).faults ∧
      (s.readPoints g j vs).alloc = (s.frosted g j vs).alloc ∧ (s.readPoints g j vs).overrides = (s.frosted g j vs).overrides ∧
      (s.readPoints g j vs).buffer = (s.frosted g j vs).buffer := by
    rw [State.readPoints_frosted, State.settleCheck_eq]
    exact ⟨rfl, rfl, rfl, rfl, rfl, rfl, rfl, rfl, rfl⟩
  have hfaults : ∀ f, (s.frosted g j vs).hasFault f = true → (s.readPoints g j vs).hasFault f = true := fun f hf => by
    rw [State.hasFault, hufaults]
    exact hf
  have hreadings : (s.readPoints g j vs).ambientReadings = (s.frosted g j vs).ambientReadings :=
    State.ambientReadings_congr fun k => State.station?_congr (by rw [himage]) 11
  exact {
    now := hunow.trans hnow
    settings := husettings.trans hsettings
    station := (State.station?_congr (by rw [himage]) _).trans (State.frosted_station hst hlength)
    others := fun k b hb => (State.station?_congr (by rw [himage, State.frosted_image]) b).trans (State.heard_other hst hlength hb)
    told := fun h q hq => htold.keeps (State.heard_tells hst hlength h hq)
    unposted := fun h hlocal => by
      obtain ⟨hposted, hoverrides⟩ := State.frosted_unposted hst hlength h hlocal
      exact ⟨fun o => by rw [State.commands_congr (by rw [hualloc])]; exact hposted o, by rw [huover]; exact hoverrides⟩
    unit := fun x hkind hx => by
      obtain ⟨y, hy, hread⟩ := State.frosted_unit hst hlength hkind hx
      exact ⟨y, by rw [State.unit?, hufpb]; exact hy, hread.mono hfaults fun p => hchecked.keeps⟩
    loop := fun hkind => by rw [hufpb]; exact State.frosted_loop hst hlength hkind
    ambient := fun hkind hread => by
      obtain ⟨hnone, hleast⟩ := State.frosted_ambient hst hlength hkind hread
      rw [hreadings, huta]
      exact ⟨fun h => ⟨(hnone h).1, hfaults _ (hnone h).2⟩, hleast⟩
    ta := fun hkind => huta.trans (State.frosted_ta hst hlength hkind)
    settle := by
      rw [State.readPoints_frosted, State.settleCheck_settle, hvalue, hsettle]
      simp only [Bool.true_and]
    fences := fun p k => by
      rw [State.readPoints_frosted, State.settleCheck_fence, hfences]
      simp only [true_and]
    buffer := by rw [hubuffer, hbuffer]
    bits := fun p => by
      rw [State.readPoints_frosted, State.settleCheck_bits, hbits p, hsettings, hfences]
      simp only [true_and] }

end

end

end Sys2Proof.Machine
end

section
/-! A READ that goes on or ends (R29, R33, R34, R37): the refused answer, the continuation owed, the read-throughs answered, and the
pass that the last scan READ ends. -/

namespace Sys2Proof.Machine

section
variable {s u m : State} {g : SegId} {a : Nat} {st : Station} {j : ReadJob} {accept : Bool} {ds : List Int} {p : PortId}

/-! ### The refused answer -/

theorem ReadJob.not_delivers_nil (q : Nat) : ¬j.Delivers [] q := fun ⟨hfirst, hlast⟩ => by simp at hlast; omega

/-- A READ answered with accept = 0 counts as answered, and delivers nothing. -/
theorem State.countGood_taken (hst : s.station? g j.station = some st) : s.ReadTaken g j false [] st (s.countGood g j.station) := by
  have hmode : j.modeRead [] st.mode = st.mode := if_neg (by simp [valuedFrom])
  obtain ⟨-, hbuffer, halloc, hfences, hover, -⟩ := s.countGood_others (g := g) (a := j.station)
  have hrest : (s.countGood g j.station).fpb = s.fpb ∧ (s.countGood g j.station).ta = s.ta ∧
      (s.countGood g j.station).settle = s.settle := by
    rw [State.countGood_eq, State.notifyIf_eq]
    exact ⟨rfl, rfl, rfl⟩
  obtain ⟨hfpb, hta, hsettle⟩ := hrest
  have hnone := j.not_delivers_nil
  exact {
    now := by simp
    settings := by simp
    station := by
      rw [State.countGood_station, hst, Station.read_eq, hmode]
      simp [Station.takeFrom]
    others := fun k b hb => State.countGood_other hb
    told := fun h => absurd hmode h
    unposted := fun h => absurd hmode h
    unit := fun x _ hx => ⟨x, by rw [State.unit?, hfpb]; exact hx,
      { judged := fun h => (h.elim (hnone 0) (hnone 3)).elim
        unjudged := fun _ => ⟨rfl, rfl⟩
        compared := fun _ h => by simp [valuedFrom] at h
        uncompared := fun _ => ⟨rfl, rfl⟩ }⟩
    loop := fun _ => by
      have hnone : ∀ q, ¬(j.next ≤ q ∧ q < j.next + ([] : List Int).length) := hnone
      rw [if_neg (hnone 3), if_neg (hnone 2), hfpb]
      exact ⟨rfl, .rfl⟩
    ambient := fun _ h => (h.elim (hnone 0) (hnone 1)).elim
    ta := fun _ => hta
    settle := by simp
    fences := fun p k => by
      rw [hfences, if_neg]
      rintro ⟨-, h, -⟩
      cases h
    buffer := by rw [hbuffer]
    bits := fun p => by
      rw [if_neg, BitVec.or_zero]
      · exact State.countGood_bits p
      · rintro ⟨-, -, h, -⟩
        cases h }

/-! ### What the end of the READ leaves -/

/-- What a READ has brought stays, whatever the controller and the ports' queues come to. -/
theorem State.ReadTaken.aside {v : State} (h : s.ReadTaken g j accept ds st u) (hv : v = { u with fsc := v.fsc, ports := v.ports })
    (hnotices : ∀ p, (v.ports.get p).notices = (u.ports.get p).notices) : s.ReadTaken g j accept ds st v := by
  obtain ⟨fsc, ports, rfl⟩ : ∃ fsc ports, v = { u with fsc := fsc, ports := ports } := ⟨_, _, hv⟩
  exact {
    now := h.now
    settings := h.settings
    station := h.station
    others := h.others
    told := fun hm q hq => (congrArg (· &&& 0x02#8) (hnotices q)).trans (h.told hm q hq)
    unposted := h.unposted
    unit := fun x hkind hx => by
      obtain ⟨y, hy, hread⟩ := h.unit x hkind hx
      exact ⟨y, hy, hread.mono (fun _ => id) fun p hp => (congrArg (· &&& 0x01#8) (hnotices p)).trans hp⟩
    loop := h.loop
    ambient := h.ambient
    ta := h.ta
    settle := h.settle
    fences := h.fences
    buffer := h.buffer
    bits := fun p => (congrArg (· &&& 0x10#8) (hnotices p)).trans (h.bits p) }

theorem State.leaveReadThroughs_eq (leaves : ReadThrough → Bool) : s.leaveReadThroughs g leaves = { s with
    fsc := (s.leaveReadThroughs g leaves).fsc, ports := (s.leaveReadThroughs g leaves).ports } := by
  rw [State.leaveReadThroughs_replies, State.answerAll_eq]
  rfl

/-! ### The pass that ends -/

theorem State.endPass_due_number (hdue : (s.fsc.get g).startDue = true) :
    ((s.endPass g).fsc.get g).passNumber = (s.fsc.get g).passNumber + 1#16 ∧ ((s.endPass g).fsc.get g).startDue = false := by
  rw [State.endPass_due hdue]
  obtain ⟨hnumber, hstart⟩ := (State.Onward.startPass (s := s.closePass g) (g := g)).stays (by rw [State.openPass_fsc])
  rw [hnumber, State.openPass_fsc, State.closePass_fsc]
  exact ⟨rfl, hstart⟩

/-- With no start due, a pass that is over stays over. -/
theorem State.Onward.over (h : s.Onward g u) (hdue : (s.fsc.get g).startDue = false) (hrun : (s.fsc.get g).passRunning = false) :
    (u.fsc.get g).passRunning = false := by
  rcases h.pass with ⟨-, -, hkept, -⟩ | ⟨hstart, -⟩
  · exact hkept hrun
  · rw [hstart] at hdue; cases hdue

/-- The scan READ of the last address ends the pass, and a due pass starts right then (R29, R30). -/
theorem State.endRead_endsPass (hscan : j.purpose = .scan) (hlast : ∀ b ∈ s.settings.population g, b ≤ j.station)
    (k : (s.endRead g j).Onward g u) :
    ((s.fsc.get g).startDue = true → (u.fsc.get g).passNumber = (s.fsc.get g).passNumber + 1#16) ∧
    ((s.fsc.get g).startDue = false →
      (u.fsc.get g).passNumber = (s.fsc.get g).passNumber ∧ (u.fsc.get g).passRunning = false) := by
  have hnone : ((s.leaveReadThroughs g j.leaving).settings.population g).find? (fun b => decide (j.station < b)) = none := by
    rw [List.find?_eq_none]
    intro b hb
    have hle := hlast b (by simpa using hb)
    simpa using hle
  have hends : s.endRead g j = ((s.leaveReadThroughs g j.leaving).modFsc g fun f => { f with scanPosition := 13 }).endPass g := by
    rw [← State.dealtWith_none hnone, State.endRead, hscan]
    have hleaving : j.leaving = fun e => j.served e || ReadPurpose.scan == .readThrough e.port := by
      funext e
      rw [ReadJob.leaving, hscan]
    rw [hleaving]
  have hfsc : ((s.leaveReadThroughs g j.leaving).modFsc g fun f => { f with scanPosition := 13 }).fsc.get g =
      { s.fsc.get g with
        readThroughs := (s.fsc.get g).readThroughs.filter fun e => !j.leaving e, scanPosition := 13 } := by
    refine (PerSeg.get_modify_self ..).trans ?_
    rw [State.leaveReadThroughs_fsc, PerSeg.get_modify_self]
  rw [hends] at k
  refine ⟨fun hdue => ?_, fun hdue => ?_⟩
  · obtain ⟨hnumber, hstart⟩ := State.endPass_due_number (s := (s.leaveReadThroughs g j.leaving).modFsc g fun f =>
      { f with scanPosition := 13 }) (g := g) (by rw [hfsc]; exact hdue)
    rw [(k.stays hstart).1, hnumber, hfsc]
  · have hnot := State.endPass_notDue (s := (s.leaveReadThroughs g j.leaving).modFsc g fun f => { f with scanPosition := 13 })
      (g := g) (by rw [hfsc]; exact hdue)
    rw [hnot] at k
    have hstart : (((s.leaveReadThroughs g j.leaving).modFsc g fun f => { f with scanPosition := 13 }).closePass g).fsc.get g = _ :=
      State.closePass_fsc
    rw [hfsc] at hstart
    rw [(k.stays (by rw [hstart]; exact hdue)).1, hstart]
    exact ⟨rfl, k.over (by rw [hstart]; exact hdue) (by rw [hstart])⟩

end

end Sys2Proof.Machine
end

section
/-! The answer to a READ, from the characters heard to what the segment goes on with (R24, R33, R34). -/

namespace Sys2Proof.Machine

/-- The READ once some of its points are delivered. -/
def ReadJob.advanced (j : ReadJob) (ds : List Int) : ReadJob :=
  { j with next := j.next + ds.length, valued := j.valued ++ valuedFrom j.next ds }

/-- The values that an answer delivers: all it carries, or with accept = 0 none (R24). -/
def Heard.delivered (h : Heard) (vs : List Int) : List Int := if h.accept then vs else []

/-- A continuation is owed for the points that a READ is still to deliver (R33). -/
def ReadJob.Owes (j : ReadJob) (h : Heard) (vs : List Int) : Prop :=
  h.accept = true ∧ h.ready = false ∧ j.next + vs.length < 8 ∧ j.continues = false

/-- The part as the segment goes on from a READ: in the ready pause with a continuation owed, or with the READ at its end. -/
structure State.ReadGoesOn (s : State) (g : SegId) (j : ReadJob) (owes : Prop) (ds : List Int) (new : Station) (u : State) :
    Prop where
  owed : owes → (u.fsc.get g).activity = .pause (s.now + 10) ∧ (u.fsc.get g).readThroughs = (s.fsc.get g).readThroughs ∧
    (u.fsc.get g).owed = some { j.advanced ds with continues := true }
  ended : ¬owes → (u.fsc.get g).readThroughs = (s.fsc.get g).readThroughs.filter (fun e => !(j.advanced ds).leaving e) ∧
    ∀ e t, (j.advanced ds).leaving e = true → (s.fsc.get g).readThroughs.filter (fun x => x.port == e.port) = [e] →
      e.station = j.station → (s.ports.get e.port).queue.head? = some t →
      (u.ports.get e.port).queue = (s.ports.get e.port).queue.tail ∧
      ∀ q, e.target = .point q → (u.ports.get e.port).replies = (s.ports.get e.port).replies ++
        [replyFrame t (0x00#8 :: be16 (wordOf e.address) ++ (new.point q).block) .none]
  pass : ¬owes → j.purpose = .scan → (∀ b ∈ s.settings.population g, b ≤ j.station) →
    ((s.fsc.get g).startDue = true → (u.fsc.get g).passNumber = (s.fsc.get g).passNumber + 1#16) ∧
    ((s.fsc.get g).startDue = false →
      (u.fsc.get g).passNumber = (s.fsc.get g).passNumber ∧ (u.fsc.get g).passRunning = false)

section
variable {s v : State} {g : SegId} {st : Station} {j : ReadJob} {h : Heard} {vs ds : List Int} {chars : List Byte}
  {accept : Bool} {retries ends : Nat}

theorem ReadJob.advanced_nil : j.advanced [] = j := by
  rw [advanced, valuedFrom, List.append_nil]
  rfl

theorem State.readPoints_fsc (hst : s.station? g j.station = some st) (hlength : st.points.length = 8) :
    (s.readPoints g j vs).fsc = s.fsc := by
  obtain ⟨-, -, hfsc, -⟩ := State.heard_kept (vs := vs) hst hlength
  rw [State.readPoints_frosted, State.settleCheck_eq]
  change (s.frosted g j vs).fsc = s.fsc
  simp only [State.frosted, State.shortfallFrom_frame, State.fpbEvent_frame]
  exact hfsc

/-- A READ that is answered, with what it has brought of the part. -/
theorem State.answer_read (hst : s.station? g j.station = some st) (hlength : st.points.length = 8)
    (hhear : hear j.station chars = some h) (hcontent : readContent j.next h = some vs) :
    ∃ v, s.ReadTaken g j h.accept (h.delivered vs) st v ∧ v.fsc = s.fsc ∧ s.Noticed v ∧
      (j.Owes h vs → s.answer g { job := .read j, retries := retries, ends := ends } chars =
        (v.afterRead g false).modFsc g fun f => { f with owed := some { j.advanced (h.delivered vs) with continues := true } }) ∧
      (¬j.Owes h vs → s.answer g { job := .read j, retries := retries, ends := ends } chars =
        (v.afterRead g h.ready).endRead g (j.advanced (h.delivered vs))) := by
  have hanswer : s.answer g { job := .read j, retries := retries, ends := ends } chars =
      if h.accept then s.readGood g j h.ready vs else ((s.countGood g j.station).afterRead g h.ready).endRead g j := by
    unfold State.answer
    dsimp only
    rw [hhear]
    dsimp only
    rw [hcontent]
  rw [hanswer]
  unfold Heard.delivered ReadJob.Owes
  cases haccept : h.accept with
  | true =>
    refine ⟨s.readPoints g j vs, State.readPoints_taken hst hlength, State.readPoints_fsc hst hlength, ?_, fun howes => ?_, fun hnot => ?_⟩
    · exact ((State.heard_noticed hst hlength).trans noticedSteps.frosted).trans (State.settleCheck_noticed _)
    · obtain ⟨-, hready, hroom, hfirst⟩ := howes
      rw [if_pos rfl, State.readGood, if_pos ⟨hready, hroom, hfirst⟩, hready]
      rfl
    · rw [if_pos rfl, State.readGood, if_neg fun ⟨hready, hroom, hfirst⟩ => hnot ⟨rfl, hready, hroom, hfirst⟩]
      rfl
  | false =>
    refine ⟨s.countGood g j.station, State.countGood_taken hst, State.countGood_others.1, State.countGood_noticed, fun howes => ?_, fun _ => ?_⟩
    · cases howes.1
    · rw [if_neg Bool.false_ne_true, if_neg Bool.false_ne_true, ReadJob.advanced_nil]

/-! ### The continuation owed -/

theorem State.ReadTaken.setFsc (hv : s.ReadTaken g j accept ds st v) (f : Fsc → Fsc) : s.ReadTaken g j accept ds st (v.modFsc g f) :=
  hv.aside rfl fun _ => rfl

theorem State.owed_goesOn (hv : s.ReadTaken g j accept ds st v) (hfsc : v.fsc = s.fsc) {owes : Prop} (howes : owes) (new : Station) :
    s.ReadGoesOn g j owes ds new ((v.afterRead g false).modFsc g fun f => { f with owed := some { j.advanced ds with continues := true } }) := by
  have hget : ((v.afterRead g false).modFsc g fun f => { f with owed := some { j.advanced ds with continues := true } }).fsc.get g =
      { s.fsc.get g with activity := .pause (s.now + 10), owed := some { j.advanced ds with continues := true } } := by
    rw [State.afterRead, State.setActivity, State.modFsc_modFsc]
    refine (PerSeg.get_modify_self ..).trans ?_
    rw [hfsc, hv.now]
    rfl
  exact {
    owed := fun _ => by rw [hget]; exact ⟨rfl, rfl, rfl⟩
    ended := fun hnot => absurd howes hnot
    pass := fun hnot => absurd howes hnot }

/-! ### The READ at its end -/

theorem State.ReadTaken.reply (hv : s.ReadTaken g j accept ds st v) (q d : Nat) :
    v.pointReply g j.station (.point q) d = 0x00#8 :: be16 (wordOf d) ++
      ((Station.takeFrom (s.fsc.get g).passNumber j.next ds st).point q).block := by
  rw [State.pointReply, State.point, hv.station]
  rfl

theorem State.ended_goesOn (hv : s.ReadTaken g j accept ds st v) (hfsc : v.fsc = s.fsc) (hnoticed : s.Noticed v) {owes : Prop}
    (hnot : ¬owes) (ready : Bool) :
    s.ReadGoesOn g j owes ds (Station.takeFrom (s.fsc.get g).passNumber j.next ds st)
      (((v.afterRead g ready).endRead g (j.advanced ds)).arbitrate g) := by
  have hget : ((v.afterRead g ready).fsc.get g) = { s.fsc.get g with activity := ((v.afterRead g ready).fsc.get g).activity } := by
    have hself : (v.afterRead g ready).fsc.get g = _ := PerSeg.get_modify_self ..
    rw [hself, hfsc]
  obtain ⟨hqueue, hanswered⟩ := State.endRead_leaves (s := v.afterRead g ready) (g := g) (j := j.advanced ds) State.Onward.arbitrate
  rw [hget] at hqueue hanswered
  refine { owed := fun howes => absurd howes hnot, ended := fun _ => ⟨hqueue, fun e t hleaves hone hstation hhead => ?_⟩,
           pass := fun _ hscan hlast => ?_ }
  · have hport : (v.afterRead g ready).ports.get e.port = { s.ports.get e.port with notices := (v.ports.get e.port).notices } :=
      hnoticed.get e.port
    obtain ⟨hq, hr⟩ := hanswered e t hleaves hone (by rw [hport]; exact hhead)
    rw [hport] at hq hr
    refine ⟨hq, fun q htarget => hr.trans ?_⟩
    rw [htarget, hstation, show (v.afterRead g ready).pointReply g j.station (.point q) e.address = _ from hv.reply q e.address]
  · have hpass := State.endRead_endsPass (s := v.afterRead g ready) (g := g) (j := j.advanced ds) hscan
      (by rw [show (v.afterRead g ready).settings = s.settings from hv.settings]; exact hlast) State.Onward.arbitrate
    rw [hget] at hpass
    exact hpass

/-- What the answer to a READ brings, and how the segment goes on from it. -/
theorem exec_responseTaken_read (hbusy : (s.fsc.get g).activity = .busy { job := .read j, retries := retries, ends := ends })
    (hst : s.station? g j.station = some st) (hlength : st.points.length = 8)
    (hhear : hear j.station chars = some h) (hcontent : readContent j.next h = some vs) :
    ∃ m u, exec (.responseTaken g chars) s = .next u.kickPorts ∧ s.ReadTaken g j h.accept (h.delivered vs) st m ∧
      (m.fsc.get g).passNumber = (s.fsc.get g).passNumber ∧ (m.fsc.get g).startDue = (s.fsc.get g).startDue ∧ m.Onward g u ∧
      s.ReadGoesOn g j (j.Owes h vs) (h.delivered vs)
        (Station.takeFrom (s.fsc.get g).passNumber j.next (h.delivered vs) st) u := by
  have hchars : chars ≠ [] := fun hnil => by
    rw [hnil, hear_nil] at hhear
    cases hhear
  have hexec := exec_responseTaken hbusy nofun hchars
  obtain ⟨v, hv, hfsc, hnoticed, howed, hended⟩ := State.answer_read (retries := retries) (ends := ends) hst hlength hhear hcontent
  by_cases howes : j.Owes h vs
  · rw [howed howes] at hexec
    have hgoes := State.owed_goesOn hv hfsc howes (Station.takeFrom (s.fsc.get g).passNumber j.next (h.delivered vs) st)
    have hheld : State.arbitrate _ g = _ := State.arbitrate_held fun _ hfree => by
      rw [(hgoes.owed howes).1] at hfree
      cases hfree
    rw [hheld] at hexec
    have hget : ∀ f : Fsc → Fsc, ((v.afterRead g false).modFsc g f).fsc.get g =
        f { s.fsc.get g with activity := .pause (v.now + 10) } := fun f => by
      rw [State.afterRead, State.setActivity, State.modFsc_modFsc]
      refine (PerSeg.get_modify_self ..).trans ?_
      rw [hfsc]
      rfl
    refine ⟨(v.afterRead g false).modFsc g fun f => { f with owed := some { j.advanced (h.delivered vs) with continues := true } }, _,
      hexec, (hv.setFsc _).setFsc _, ?_, ?_, .refl g _, hgoes⟩
    · rw [hget]
    · rw [hget]
  · rw [hended howes] at hexec
    have hget : ((v.afterRead g h.ready).leaveReadThroughs g (j.advanced (h.delivered vs)).leaving).fsc.get g =
        { s.fsc.get g with
          activity := ((v.afterRead g h.ready).fsc.get g).activity
          readThroughs := (s.fsc.get g).readThroughs.filter fun e => !(j.advanced (h.delivered vs)).leaving e } := by
      have hself : (v.afterRead g h.ready).fsc.get g = _ := PerSeg.get_modify_self ..
      rw [State.leaveReadThroughs_fsc, PerSeg.get_modify_self, hself, hfsc]
    have htaken : s.ReadTaken g j h.accept (h.delivered vs) st
        ((v.afterRead g h.ready).leaveReadThroughs g (j.advanced (h.delivered vs)).leaving) :=
      (hv.setFsc _).aside (State.leaveReadThroughs_eq _) fun p => by
        rw [State.leaveReadThroughs_port, State.answerAll_notices]
        rfl
    exact ⟨_, _, hexec, htaken, by rw [hget], by rw [hget], (State.endRead_onward _ _).trans .arbitrate,
      State.ended_goesOn hv hfsc hnoticed howes h.ready⟩

end

end Sys2Proof.Machine
end

section
/-! A READ's answer as the segment has gone on from it, and obligation O49. -/

namespace Sys2Proof.Machine

/-! ### The settle criterion (R118) -/

section
variable {valued : List Nat} {point : Nat → Int} {n : Nat}

theorem near_iff (x y : Int) (d : Nat) : near x y d = true ↔ y - d ≤ x ∧ x ≤ y + d := by
  rw [near, decide_eq_true_eq]
  omega

theorem settles_fan : settles (.fan n) valued point = true ↔ 2 ∈ valued ∧ 4 ∈ valued ∧ point 4 = n ∧
    (if n = 0 then point 2 < 50 else (n : Int) - 100 ≤ point 2 ∧ point 2 ≤ n + 100) := by
  have hspeed : (if n = 0 then decide (point 2 < 50) else near (point 2) n 100) = true ↔
      if n = 0 then point 2 < 50 else (n : Int) - 100 ≤ point 2 ∧ point 2 ≤ n + 100 := by
    split
    · exact decide_eq_true_iff
    · exact near_iff ..
  unfold settles
  simp only [Bool.and_eq_true, List.contains_iff_mem, beq_iff_eq, and_assoc, hspeed]

theorem settles_open : settles (.valve .toOpen) valued point = true ↔ 3 ∈ valued ∧ point 3 = 0 := by
  unfold settles
  simp only [Bool.and_eq_true, List.contains_iff_mem, beq_iff_eq]
  rfl

theorem settles_close : settles (.valve .toClose) valued point = true ↔ 3 ∈ valued ∧ point 3 = 1 := by
  unfold settles
  simp only [Bool.and_eq_true, List.contains_iff_mem, beq_iff_eq]
  rfl

theorem settles_bypass : settles (.bypass n) valued point = true ↔
    4 ∈ valued ∧ (n : Int) - 30 ≤ point 4 ∧ point 4 ≤ n + 30 := by
  unfold settles
  simp only [Bool.and_eq_true, List.contains_iff_mem, near_iff]
  rfl

end

section
variable {s m u : State} {g : SegId} {st : Station} {j : ReadJob} {h : Heard} {vs ds : List Int} {accept : Bool} {p : PortId}

/-! ### Going on -/

/-- A segment's stations are as they were, or aged by the pass that has started. -/
theorem State.Onward.stations (k : m.Onward g u) (b : Nat) : u.station? g b =
    if (u.fsc.get g).passNumber = (m.fsc.get g).passNumber then m.station? g b
    else (m.station? g b).map (Station.age m.settings.holdLimit ((m.fsc.get g).passNumber + 1#16)) := by
  rcases k.pass with ⟨hnumber, himage, -, -⟩ | ⟨-, -, hnumber, himage⟩
  · rw [if_pos hnumber]
    exact State.station?_congr himage b
  · have hmoves : ∀ n : Word, n + 1#16 ≠ n := fun n hn => absurd (add_eq_left.1 hn) (by decide)
    rw [if_neg (by rw [hnumber]; exact hmoves _)]
    unfold State.station?
    rw [himage, List.find?_map]
    rfl

theorem State.Onward.noticed (k : m.Onward g u) : m.Noticed u := by
  obtain ⟨b, -, hports⟩ := k.ports
  exact ⟨k.settings, fun _ => b, hports⟩

theorem State.Onward.bits {mask : Byte} (k : m.Onward g u) (hmask : 0x20#8 &&& mask = 0#8) : State.BitsKept mask m u := by
  obtain ⟨b, hb, hports⟩ := k.ports
  refine .noticed hports fun _ => ?_
  rcases hb with rfl | rfl
  · exact BitVec.zero_and
  · exact hmask

theorem Station.age_point {limit : Nat} {pass : Word} {q : Nat} (hq : q < st.points.length) :
    (st.age limit pass).point q = (st.point q).age limit pass := by
  simp [Station.age, Station.point, List.getD_eq_getElem?_getD, hq]

theorem Station.read_length (pass : Word) : (st.read pass j accept ds).points.length = st.points.length := by
  rw [Station.read_eq]
  exact (Station.takeFrom_only pass ds j.next st).2

section
variable (hm : s.ReadTaken g j accept ds st m) (k : m.Onward g u)
include hm k

theorem State.ReadTaken.told_onward (h : j.modeRead ds st.mode ≠ st.mode) (henabled : (s.settings.port.get p).notices = true) :
    (u.ports.get p).notices &&& 0x02#8 = 0x02#8 := k.noticed.keeps (hm.told h p henabled)

theorem State.ReadTaken.unposted_onward (h : j.modeRead ds st.mode ≠ st.mode) (hlocal : j.modeRead ds st.mode = .inLocal) :
    (∀ o, (u.commands g j.station).postedValue o = none) ∧
      ∀ r ∈ u.overrides, r.seg = g → r.station = j.station → r.delivery = .waiting := by
  obtain ⟨hposted, hwaiting⟩ := hm.unposted h hlocal
  have hanswers : m.answers g j.station = false := by
    rw [← Bool.not_eq_true, State.answers_iff]
    rintro ⟨st', hst', -, hauto⟩
    rw [hm.station, Option.some.injEq] at hst'
    rw [← hst', show (st.read _ j accept ds).mode = j.modeRead ds st.mode from rfl, hlocal] at hauto
    cases hauto
  refine ⟨fun o => (k.posted _ hanswers o).trans (hposted o), fun r hr hseg hstation => ?_⟩
  rcases k.delivered r hr with hr | ⟨-, hanswer⟩
  · exact hwaiting r hr hseg hstation
  · rw [hstation, hanswers] at hanswer; cases hanswer

theorem State.ReadTaken.unit_onward {x : UnitFrost} (hkind : kindOf j.station = .unit) (hx : s.unit? g j.station = some x) :
    ∃ y, u.unit? g j.station = some y ∧
      s.UnitRead u g j ds (j.modeRead ds st.mode) (Station.takeFrom (s.fsc.get g).passNumber j.next ds st) x y := by
  obtain ⟨y, hy, hread⟩ := hm.unit x hkind hx
  refine ⟨y, ?_, hread.mono (fun _ => k.hasFault) fun p => k.noticed.keeps⟩
  rw [State.unit?, k.frame]
  exact hy

theorem State.ReadTaken.ambient_onward (hkind : kindOf j.station = .ambient) (hread : j.Delivers ds 0 ∨ j.Delivers ds 1)
    (hdue : (m.fsc.get g).startDue = false) :
    (u.ambientReadings = [] → u.ta = s.settings.designMin ∧ u.hasFault .ambientLost = true) ∧
      ∀ v ∈ u.ambientReadings, (∀ w ∈ u.ambientReadings, v ≤ w) → u.ta = v := by
  have hreadings : u.ambientReadings = m.ambientReadings := State.ambientReadings_congr fun l => by
    by_cases hl : l = g
    · rw [hl, k.stations, if_pos (k.stays hdue).1]
    · exact State.station?_congr (k.others l hl).1 11
  have hta : u.ta = m.ta := by rw [k.frame]
  obtain ⟨hnone, hleast⟩ := hm.ambient hkind hread
  rw [hreadings, hta]
  exact ⟨fun hr => ⟨(hnone hr).1, k.hasFault (hnone hr).2⟩, hleast⟩

/-- A mark is left on an entry of the buffer as it was, or on a settle item that has stayed. -/
theorem State.ReadTaken.marked_iff : m.marked g p = true ↔ (∃ e ∈ s.buffer.get g, e.marks.get p = true) ∨
    ∃ i ∈ u.settle.get g, i.marks.get p = true := by
  have hsettle : u.settle = m.settle := by rw [k.frame]
  rw [State.marked, hm.buffer, hsettle, Bool.or_eq_true, List.any_eq_true, List.any_eq_true]

/-- A PENDING fence completes as its last mark leaves with the items that have settled. -/
theorem State.ReadTaken.fence_onward {failed : Bool} (hpending : (s.fences.get p).get g = .pending failed) :
    (u.fences.get p).get g = if accept = false ∨ m.marked g p = true then .pending failed
      else if failed = true then .incomplete else .settled := by
  rw [show u.fences = m.fences by rw [k.frame], hm.fences p g, hpending]
  by_cases hstays : accept = false ∨ m.marked g p = true
  · rw [if_neg, if_pos hstays]
    rintro ⟨-, haccept, -, hmark⟩
    simp [haccept, hmark] at hstays
  · obtain ⟨haccept, hgone⟩ := not_or.1 hstays
    rw [if_neg hstays, if_pos ⟨rfl, Bool.eq_true_of_not_eq_false haccept, rfl, Bool.eq_false_of_not_eq_true hgone⟩]
    cases failed <;> rfl

theorem State.ReadTaken.fence_kept {l : SegId} (h : l = g → ((s.fences.get p).get g).isPending = false) :
    (u.fences.get p).get l = (s.fences.get p).get l := by
  rw [show u.fences = m.fences by rw [k.frame], hm.fences p l, if_neg]
  rintro ⟨hl, -, hpending, -⟩
  rw [h hl] at hpending
  cases hpending

/-- The settle items that stay are those whose criterion the points do not meet. -/
theorem State.ReadTaken.mem_settle {i : SettleItem} : i ∈ u.settle.get g ↔ i ∈ s.settle.get g ∧
    ¬(accept = true ∧ i.station = j.station ∧ settles i.value (j.valued ++ valuedFrom j.next ds)
      (Station.takeFrom (s.fsc.get g).passNumber j.next ds st).value = true) := by
  rw [show u.settle = m.settle by rw [k.frame], hm.settle, List.mem_filter]
  simp only [Bool.not_eq_true', Bool.and_eq_false_iff, beq_eq_false_iff_ne, not_and_or, Bool.not_eq_true, or_assoc]

end

end

end Sys2Proof.Machine
end

section
/-! The answer to a READ (R3, R24, R33), clause by clause: obligation O49. -/

namespace Sys2Proof.Machine

section
variable {h : Heard} {j : ReadJob} {vs : List Int} {st : Station} {pass : Word} {q : Nat}

theorem Heard.delivered_accepted (haccept : h.accept = true) : h.delivered vs = vs := if_pos haccept

theorem Heard.delivers_iff : j.Delivers (h.delivered vs) q ↔ h.accept = true ∧ j.next ≤ q ∧ q < j.next + vs.length := by
  unfold Heard.delivered
  cases h.accept with
  | true => exact ⟨fun hq => ⟨rfl, hq⟩, fun hq => hq.2⟩
  | false => exact ⟨fun hq => (j.not_delivers_nil q hq).elim, fun hq => by cases hq.1⟩

theorem Heard.valued_iff : q ∈ valuedFrom j.next (h.delivered vs) ↔
    (h.accept = true ∧ j.next ≤ q ∧ q < j.next + vs.length) ∧ vs.getD (q - j.next) 0 ≠ -32768 := by
  rw [mem_valuedFrom, ← Heard.delivers_iff]
  refine and_congr_right fun hq => ?_
  rw [Heard.delivered_accepted (Heard.delivers_iff.1 hq).1]

/-- An answer delivers points of the station alone. -/
theorem readContent_fits (hcontent : readContent j.next h = some vs) (hq : j.next ≤ q ∧ q < j.next + vs.length) : q < 8 := by
  unfold readContent at hcontent
  split at hcontent
  · split at hcontent
    · split at hcontent
      · next hfits =>
        cases hcontent
        omega
      · cases hcontent
    · cases hcontent
  · cases hcontent

theorem Heard.stored_eq (hlength : st.points.length = 8) (hcontent : readContent j.next h = some vs) :
    (if h.accept = true ∧ j.next ≤ q ∧ q < j.next + vs.length then
        if vs.getD (q - j.next) 0 = -32768 then { st.point q with quality := .stale }
        else { stored := some { value := bringInto st.kind q (vs.getD (q - j.next) 0), stamp := pass }, quality := .good }
      else st.point q) = (Station.takeFrom pass j.next (h.delivered vs) st).point q := by
  by_cases hq : q < 8
  · rw [Station.takeFrom_point _ _ _ _ (by omega)]
    by_cases hcame : h.accept = true ∧ j.next ≤ q ∧ q < j.next + vs.length
    · rw [if_pos hcame, Heard.delivered_accepted hcame.1, if_pos hcame.2]
      rfl
    · rw [if_neg hcame, if_neg (show ¬(j.next ≤ q ∧ _) from fun hd => hcame (Heard.delivers_iff.1 hd))]
  · rw [if_neg fun hcame => hq (readContent_fits hcontent hcame.2)]
    have hbeyond : ∀ x : Station, x.points.length = 8 → x.point q = Point.fresh := fun x hx => by
      rw [Station.point, List.getD_eq_getElem?_getD, List.getElem?_eq_none (by omega)]
      rfl
    rw [hbeyond st hlength, hbeyond _ ((Station.takeFrom_only pass _ j.next st).2.trans hlength)]

end

/-- Settles O49: what the answer has brought (`State.ReadTaken`) stands as the segment goes on (`State.Onward`), with the READ's
continuation owed or the READ at its end (`State.ReadGoesOn`). -/
theorem readResponseStores : Obligations.ReadResponseStores := by
  refine ⟨bringInto_table, ?_⟩
  intro s g j retries ends chars h vs st hbusy hst hlength hhear hcontent
  obtain ⟨m, u, hexec, hm, hpass, hdue, k, hgoes⟩ := exec_responseTaken_read hbusy hst hlength hhear hcontent
  intro a pass came carried valued stored value owes leaves
  have hcame : ∀ q, came q ↔ j.Delivers (h.delivered vs) q := fun q => Heard.delivers_iff.symm
  have hvalued : ∀ q, valued q ↔ q ∈ valuedFrom j.next (h.delivered vs) := fun q => Heard.valued_iff.symm
  have hstored : ∀ q, stored q = (Station.takeFrom pass j.next (h.delivered vs) st).point q := fun q =>
    Heard.stored_eq hlength hcontent
  have hvalue : ∀ q, value q = (Station.takeFrom pass j.next (h.delivered vs) st).value q := fun q =>
    congrArg (fun x : Point => (x.stored.map Stored.value).getD 0) (hstored q)
  have hseen := k.pass.seen a
  rw [hm.station] at hseen
  obtain ⟨st', hst', hsame⟩ := Option.map_eq_some_iff.1 hseen
  have hmode' : st'.mode = j.modeRead (h.delivered vs) st.mode := congrArg (fun x => x.mode) hsame
  refine ⟨u, st', hexec, hst', congrArg (fun x => x.counter) hsame, ?_, fun q hq => ?_, fun b hb => ?_,
    congrArg (fun x => x.attention) hsame, fun h6 => ?_, fun h6 => ?_, fun hchange q hq => ?_, fun hchange hlocal => ?_,
    fun x hkind hx => ?_, fun hkind => ?_, fun hkind hread hnotDue => ?_, fun hkind => ?_, fun haccept => ?_, fun haccept i => ?_,
    ?_, fun hnot hscan hlast => ?_, fun howes => ?_, fun hnot => ?_⟩
  · -- the pass number
    rcases k.pass with ⟨hnumber, -⟩ | ⟨hstart, -, hnumber, -⟩
    · exact .inl (hnumber.trans hpass)
    · exact .inr ⟨hdue ▸ hstart, by rw [hnumber, hpass]⟩
  · -- the station's points
    have hstation := k.stations a
    rw [hst', hm.station, hm.settings, hpass] at hstation
    rw [hstored]
    split
    · next hsame =>
      rw [if_pos hsame, Option.some.injEq] at hstation
      rw [hstation]
      rfl
    · next hmoves =>
      rw [if_neg hmoves, Option.map_some, Option.some.injEq] at hstation
      rw [hstation, Station.age_point (by rw [Station.read_length]; omega)]
      rfl
  · -- the other stations
    rw [k.stations b, hm.others g b fun hsame => hb hsame.2, hm.settings, hpass]
  · have hdelivered := h.delivered_accepted (vs := vs) h6.1.1
    rw [hmode', ReadJob.modeRead, if_pos ((hvalued 6).1 h6), hdelivered]
  · rw [hmode', ReadJob.modeRead, if_neg fun hmem => h6 ((hvalued 6).2 hmem)]
  · exact hm.told_onward k (hmode' ▸ hchange) hq
  · exact hm.unposted_onward k (hmode' ▸ hchange) (hmode' ▸ hlocal)
  · -- the unit
    obtain ⟨y, hy, hread⟩ := hm.unit_onward k hkind hx
    refine ⟨y, hy, fun hdelivers => ?_, fun hnot => ?_, fun hscan h2 => ?_, fun hnot => ?_⟩
    · rw [hstored, hstored]
      exact hread.judged (by rwa [hcame, hcame] at hdelivers)
    · exact hread.unjudged (by rwa [hcame, hcame] at hnot)
    · intro command
      rw [hmode', hvalue]
      exact hread.compared hscan ((hvalued 2).1 h2)
    · exact hread.uncompared (by rwa [hvalued] at hnot)
  · -- the loop
    obtain ⟨hcu, hflow⟩ := hm.loop hkind
    have hfpb : u.fpb = m.fpb := by rw [k.frame]
    rw [hfpb, hstored, hstored]
    exact ⟨hcu.trans (if_congr (hcame 3).symm rfl rfl), hflow.trans (iff_of_eq (if_congr (hcame 2).symm rfl rfl))⟩
  · exact hm.ambient_onward k hkind (by rwa [hcame, hcame] at hread) (hdue.trans hnotDue)
  · rw [k.frame]
    exact hm.ta hkind
  · -- settling
    rw [k.frame]
    refine hm.settle.trans (List.filter_eq_self.2 fun i _ => ?_)
    rw [haccept]
    rfl
  · refine (hm.mem_settle k).trans (and_congr_right fun _ => not_congr ((and_iff_right haccept).trans (and_congr_right fun _ => ?_)))
    have hshown : ∀ q, q ∈ j.valued ++ valuedFrom j.next (h.delivered vs) ↔ q ∈ j.valued ∨ valued q := fun q => by
      rw [List.mem_append, ← hvalued]
    rcases i.value with n | ⟨_ | _⟩ | n
    · dsimp only
      rw [settles_fan, hshown, hshown, hvalue, hvalue]
    · dsimp only
      rw [settles_open, hshown, hvalue]
    · dsimp only
      rw [settles_close, hshown, hvalue]
    · dsimp only
      rw [settles_bypass, hshown, hvalue]
  · -- the fences
    intro bears p
    have hbears : bears p ↔ m.marked g p = true := (hm.marked_iff k).symm
    refine ⟨?_, fun l hl => hm.fence_kept k fun hsame => absurd hsame hl, ?_⟩
    · cases hr : (s.fences.get p).get g with
      | pending failed => exact (hm.fence_onward k hr).trans (if_congr (or_congr_right hbears.symm) rfl rfl)
      | _ => exact (hm.fence_kept k fun _ => by rw [hr]; rfl).trans hr
    · rw [k.bits (by decide) p, hm.bits p]
      congr 1
      refine if_congr ?_ rfl rfl
      rw [hbears, Bool.not_eq_true]
  · exact hgoes.pass hnot hscan hlast
  · obtain ⟨hactivity, hqueue, howed⟩ := hgoes.owed howes
    have hdelivered := h.delivered_accepted (vs := vs) howes.1
    rw [hdelivered] at howed
    exact ⟨hactivity, hqueue, _, howed, rfl, rfl, rfl, rfl, rfl, rfl⟩
  · -- the read-throughs
    obtain ⟨hqueue, hanswered⟩ := hgoes.ended hnot
    have hnext : j.next + (h.delivered vs).length = if h.accept = true then j.next + vs.length else j.next := by
      unfold Heard.delivered
      cases h.accept <;> rfl
    have hleaves : ∀ e, leaves e ↔ (j.advanced (h.delivered vs)).leaving e = true := fun e => by
      rw [ReadJob.leaving_iff]
      refine or_congr ?_ ?_
      · change _ ↔ j.purpose = .readThrough e.port
        split
        · next p hp => rw [hp, List.mem_singleton, ReadPurpose.readThrough.injEq, eq_comm]
        · next hnot => exact ⟨fun hmem => absurd hmem List.not_mem_nil, fun hp => (hnot _ hp).elim⟩
      · rw [← hnext]
        rfl
    refine ⟨fun e => ?_, fun e t hleave hone hstation hhead => ?_⟩
    · rw [hqueue, List.mem_filter, Bool.not_eq_true', ← Bool.not_eq_true, hleaves]
    · obtain ⟨hport, hreply⟩ := hanswered e t ((hleaves e).1 hleave) hone hstation hhead
      refine ⟨hport, fun q htarget => ?_⟩
      rw [hstored]
      exact hreply q htarget

end Sys2Proof.Machine
end
